-- ==== Sys2Proof/Word.lean ====
section
/-! DEFINITION. The word of the register space: 32 bits, little-endian at byte addresses (R7 of
spec/00_scope.md); and the byte. -/

namespace Sys2Proof

/-- A register word. -/
abbrev Word := BitVec 32

/-- A byte of a window, a buffer or a message. -/
abbrev Byte := BitVec 8

end Sys2Proof
end

