-- ==== Sys2Proof/Config/Content.lean ====
section
/-! DEFINITION. The content of a configuration bitstream as the loader reads it (chapters 06 to 17 of the spec give the
sections), and the other pieces of data that arrive from outside: containers. A container is its bytes, with what they decrypt to; the
cryptographic functions are uninterpreted (log entry 6). -/

namespace Sys2Proof

/-- The owner that ALLOT gives a PWM pin or a current-sense channel (spec/06_fabric_bitstream.md, Allotment). -/
inductive Owner where
  | unassigned
  | bench (n : Nat)
  | shr
  | eng
  deriving DecidableEq, Repr

/-- The role of a channel that ALLOT gives SHR (R203, R214): a SOURCE carries rectifier current and is tied to a rectifier or to
a set of share groups; a LOAD carries load current. -/
inductive ChanRole where
  | plain
  | sourceRect (r : Nat)
  | sourceGroups (mask : Nat)
  | load
  deriving DecidableEq, Repr

/-- An ALLOT entry of a current-sense channel: owner, ±200 mV range, milliamperes of one I16 LSB (R15, R158), and
I16 LSBs of one converter code. -/
structure ChanCfg where
  chan : Nat
  owner : Owner
  wide : Bool
  mA : Rat
  perCode : Rat
  role : ChanRole := .plain
  deriving DecidableEq, Repr

/-- An ALLOT entry of a PWM pin. -/
structure PinCfg where
  pin : Nat
  owner : Owner
  deriving DecidableEq, Repr

/-- A phase joined by a Bench plane: pin, channel and safe state, Z or LOW (R131). -/
structure PlanePhase where
  pin : Nat
  chan : Nat
  safeZ : Bool
  deriving DecidableEq, Repr

/-- A bound on a tunable field, named by the field's bit address (R125). -/
structure Bound where
  key : Nat
  lo : Int
  hi : Int
  deriving DecidableEq, Repr

/-- A Bench plane (R131, R156, R161 to R165). Gains are signed with 24 fraction bits; `stopFloor` is V16, `minOn` and
`minOff` are grid units, `fb` is the feedback MON input and `ratio` the divider ratio that the plane declares for it (R163). -/
structure Plane where
  tag : Nat := 0
  phases : List PlanePhase := []
  cm : Bool := false
  updiv : Nat := 1
  nlrelZ : Bool := false
  coast : Bool := false
  stopFloor : Nat := 0
  minOn : Nat := 0
  minOff : Nat := 0
  fb : Nat := 0
  ratio : Rat := 1
  kp : Int := 0
  ki : Int := 0
  kd : Int := 0
  ad : Int := 0
  ymin : Int := 0
  ymax : Int := 0
  kpc : Int := 0
  kic : Int := 0
  kb : Int := 0
  balmax : Int := 0
  dmax : Int := 0
  bounds : List Bound := []
  deriving DecidableEq, Repr

/-- What a MONITOR entry binds its input to (R132). -/
inductive MonBind where
  | nothing
  | rail (r : Nat)
  | slot (n : Nat)
  | string (s : Nat)
  | store (k : Nat)
  deriving DecidableEq, Repr

/-- A MONITOR entry: input 0 to 63 is MON, 64 to 71 is HVM; `ratio` is the declared divider (R254), `tol` its tolerance as a
fraction (R229). -/
structure MonCfg where
  input : Nat
  bind : MonBind
  fast : Bool
  ratio : Rat
  tol : Rat := 0
  deriving DecidableEq, Repr

/-- A MONITOR entry of a TSEN input (R132, R340): THM's sensor 2 to 5, what it is bound to, and its thermistor's B value in kelvins. -/
structure TsenCfg where
  sensor : Nat
  bind : MonBind
  beta : Nat
  deriving DecidableEq, Repr

/-- A SLOT entry marked present (R124, R133, R276, R294): Kerf threshold in 0.5 mV, shunt in milliohms, gate current in
microamperes, shed priority. -/
structure SlotCfg where
  slot : Nat
  kerf : Nat
  shunt : Rat
  igate : Nat
  prio : Nat
  deriving DecidableEq, Repr

/-- The kind of a rail with what its REF names (R249). -/
inductive RailKind where
  | bench (n : Nat)
  | slot (n : Nat)
  | pmbus (bus addr page : Nat)
  | watch
  | cond (dowel : Nat)
  | remote
  deriving DecidableEq, Repr

/-- The code of a rail's kind in the RAILS entry (R249). -/
def RailKind.code : RailKind → Nat
  | .bench _ => 1
  | .slot _ => 2
  | .pmbus .. => 3
  | .watch => 4
  | .cond _ => 5
  | .remote => 6

/-- A RAILS entry (R249). -/
structure RailCfg where
  rail : Nat
  kind : RailKind
  live : Bool
  group : Nat
  monin : Nat
  glo : Nat
  ghi : Nat
  wband : Nat
  gooddb : Nat
  faildb : Nat
  starttime : Nat
  vnom : Nat
  deriving DecidableEq, Repr

/-- An EDGES entry (R250): `delay` in ticks of its unit, `stopDelay` in ms. -/
structure EdgeCfg where
  src : Nat
  dst : Nat
  delay : Nat
  delayMs : Bool
  orderOnly : Bool
  stopDelay : Nat
  deriving DecidableEq, Repr

/-- The four fault classes in rising severity (R18). -/
inductive Cls where
  | note | warn | trip | halt
  deriving DecidableEq, Repr

/-- The code of a class (R318). -/
def Cls.code : Cls → Nat
  | .note => 0
  | .warn => 1
  | .trip => 2
  | .halt => 3

/-- One escalation step; HALT does not escalate further (R18). -/
def Cls.up : Cls → Cls
  | .note => .warn
  | .warn => .trip
  | .trip => .halt
  | .halt => .halt

/-- A FAULTMAP entry, with its USED bit (R318). The masks are the entry's bit masks as numbers. -/
structure FaultEntry where
  src : Nat
  used : Bool := true
  cls : Cls
  kill : Bool := false
  clamp : Bool := false
  pwmz : Bool := false
  wlo : Bool := false
  whi : Bool := false
  benches : Nat := 0
  slots : Nat := 0
  thr : Nat := 0
  pfw : Nat := 0
  share : Nat := 0
  wdb : Nat := 0
  dowel : Nat := 0
  tag : Nat := 0
  deriving DecidableEq, Repr

/-- A signal that a Dowel input may name (R134). -/
inductive Signal where
  | low
  | below (i : Nat)
  | above (i : Nat)
  | railGood (r : Nat)
  | slotGood (n : Nat)
  | ready (k : Nat)
  | sticky (src : Nat)
  | seatA (n : Nat)
  | seatB (n : Nat)
  | strobeUs
  | strobeMs
  | strobeS
  | dowel (k : Nat)
  deriving DecidableEq, Repr

/-- The mode of a Dowel's timer (R134). -/
inductive DowelMode where
  | none | onDelay | offDelay | pulse | edgeCount
  deriving DecidableEq, Repr

/-- A configured Dowel (R134, R135): four inputs, a 16-bit truth table (bit j: the output for input pattern j), the
timer, and what its output feeds besides other Dowels. -/
structure DowelCfg where
  dowel : Nat
  inputs : List Signal
  table : Nat
  mode : DowelMode
  preset : Nat
  unit : Nat
  clamp : Bool
  marker : Bool
  deriving DecidableEq, Repr

/-- The DUPLEX section (R352, R355, R366): the arbiter (0 NONE, 1 PINS, 2 MANAGER) and the training wait in ms. -/
structure DuplexCfg where
  arbiter : Nat := 0
  resolveT : Nat := 1
  deriving DecidableEq, Repr

/-- The LINK section (R375, R376, R386, R387): role (0 worker, 1 L4, 2 L5, 3 L6), ring node count and index, whether this node is
the root of time, and for a manager on an UP ring its place there (channels before it), that ring's node count and the address of the node
after it; and the declared channel delays in 1/64 ticks. -/
structure LinkCfg where
  role : Nat
  nodes : Nat
  index : Nat
  root : Bool
  upBefore : Nat := 1
  upNodes : Nat := 17
  upNext : Nat := 0xFFFF
  delays : List Nat := []
  deriving DecidableEq, Repr

/-- A THERMAL record of a used sensor (R341): thresholds in sixteenths of a degree, HYST in half degrees. -/
structure ThermCfg where
  sensor : Nat
  warn : Int
  thr : Int
  shut : Int
  restart : Int
  hyst : Nat
  tder : Nat
  benches : Nat
  thrMask : Nat
  deriving DecidableEq, Repr

/-- A RECT entry (R203): two-wire bus and address, rated current in milliamperes, share group (none: PMBus-only),
and the current-sense channel of its output where one exists. -/
structure RectCfg where
  rect : Nat
  bus : Nat
  addr : Nat
  rated : Nat
  group : Option Nat
  chan : Option Nat := none
  deriving DecidableEq, Repr

/-- A BUSCAP store (R228): `cnom` in microfarads, `tol` in 0.1 %, `vd` in V16, `vsense` a monitor input, masks as numbers. -/
structure BusCap where
  cnom : Nat
  tol : Nat
  vd : Nat
  vsense : Nat
  src : Nat
  load : Nat
  bat : Nat
  auditable : Bool
  pos : Nat := 0
  deriving DecidableEq, Repr

/-- A RECTHOLD store (R228): its rectifiers and the hold-up energy of one of them in millijoules. -/
structure RectHold where
  rects : Nat
  hold : Nat
  pos : Nat := 0
  deriving DecidableEq, Repr

/-- A LANDING store (R228): its group, landing time in ms, smallest power in milliwatts, and what belongs to it. -/
structure Landing where
  group : Nat
  tland : Nat
  pfloor : Nat
  slots : Nat
  benches : Nat
  loads : Nat
  pos : Nat := 0
  deriving DecidableEq, Repr

/-- An INPUT store (R228): its AC-sense monitor input and its loss debounce in microseconds. -/
structure InputCfg where
  input : Nat
  db : Nat
  pos : Nat := 0
  deriving DecidableEq, Repr

/-- The LEDGER section (R227), each kind in section order. `pos` of a store is its entry in the section; those of the BATTERY stores stand
in `stringPos`. -/
structure Ledger where
  caps : List BusCap := []
  strings : List Nat := []
  stringPos : List Nat := []
  holds : List RectHold := []
  landings : List Landing := []
  inputs : List InputCfg := []
  deriving DecidableEq, Repr

/-- A BATTERY entry (R297): resistances in ohms, charge in coulombs, currents in amperes, voltages in V16, temperatures in
degrees, power in milliwatts. `unit` is the bus, address and command code of the string unit. -/
structure StringCfg where
  string : Nat
  unit : Option (Nat × Nat × Nat)
  rshunt : Rat
  cnom : Rat
  rint : Rat
  vfloor : Nat
  vfull : Nat
  ifull : Rat
  pdmax : Nat
  tchLo : Int
  tchHi : Int
  tdisLo : Int
  tdFull : Int
  tdisHi : Int
  tswap : Nat
  irest : Rat
  islow : Rat
  trest : Nat
  ocv : List Nat
  tbeta : Nat
  deriving DecidableEq, Repr

/-- The content of a committed bitstream. -/
structure Content where
  chans : List ChanCfg := []
  pins : List PinCfg := []
  planes : List (Nat × Plane) := []
  mons : List MonCfg := []
  slots : List SlotCfg := []
  rails : List RailCfg := []
  edges : List EdgeCfg := []
  faults : List FaultEntry := []
  dowels : List DowelCfg := []
  bounds : List Bound := []
  duplex : Option DuplexCfg := none
  link : Option LinkCfg := none
  node : Nat := 0
  runIdLo : Nat := 0
  therm : List ThermCfg := []
  rects : List RectCfg := []
  ledger : Ledger := {}
  strings : List StringCfg := []
  restdly : Nat := 10
  tsens : List TsenCfg := []
  defaults : List (Nat × Nat) := []
  deriving DecidableEq, Repr

/-! ### Containers (R126 to R129, R484, R490) -/

/-- The envelope header of a container (R127); `reserved` is what its reserved bytes hold. -/
structure Header where
  magic : Nat := 0x4243534B
  format : Nat := 1
  kind : Nat := 1
  keyIndex : Nat := 0
  device : Nat := 0x3C0
  family : Nat := 1
  revMin : Nat := 0
  length : Nat := 0
  buildId : Nat := 0
  baseId : Nat := 0
  version : Nat := 0
  iv : Nat := 0
  joiner : Nat := 0
  reserved : Nat := 0
  deriving DecidableEq, Repr

/-- A directory entry (R128): section ID, format version, what the reserved bytes hold, offset, length, and the CRC-32 of the content. -/
structure SectionHdr where
  id : Nat
  version : Nat
  reserved : Nat
  offset : Nat
  length : Nat
  crc : Nat
  deriving DecidableEq, Repr

/-- A section as it stands in configuration memory, with the CRC-32 kept beside it (R130): one of the full bitstream, or one of a partial
as the plane of a Bench came from it, which is then its shadow plane or its active one. -/
structure StoredSection where
  id : Nat
  bytes : List Nat
  crc : Nat
  bench : Option Nat := none
  shadow : Bool := false
  deriving DecidableEq, Repr

/-- The roles of IDENT (R137): 0 worker, 1 L4, 2 L5, 3 L6 manager; a worker is simplex or duplex. -/
structure Ident where
  role : Nat := 0
  duplex : Bool := false
  deriving DecidableEq, Repr

/-- An entry of a manifest (R490): target address, kind, length and the first 24 bytes of the container's digest. -/
structure ManifestEntry where
  target : Nat
  kind : Nat
  length : Nat
  digest : Nat
  deriving DecidableEq, Repr

/-- The body of a manifest (R490): package ID, mode (false ON_STORE, true ON_COMMAND), window in seconds, entries in relay order. -/
structure Manifest where
  pkg : Nat
  onCommand : Bool
  window : Nat
  entries : List ManifestEntry
  deriving DecidableEq, Repr

/-- A container as its reader finds it (R126, R484): the bytes of the header in clear, of the encrypted body, of the GCM tag and of the
signature; what the body is said to decrypt to, which the tag check holds against the bytes; and what the sections whose layout the spec
does not give decode to: the role of IDENT, and `rest` (log entry 6). -/
structure Container where
  head : List Nat
  cipher : List Nat := []
  tag : List Nat := []
  sig : List Nat := []
  body : List Nat := []
  ident : Ident := {}
  rest : Content := {}
  deriving DecidableEq, Repr

/-- The bytes that a container's signature covers: every one before it (R126). -/
def Container.signed (c : Container) : List Nat := c.head ++ c.cipher ++ c.tag

/-- A container's bytes, in order (R126). -/
def Container.raw (c : Container) : List Nat := c.signed ++ c.sig

/-- A container's actual length in bytes. -/
def Container.len (c : Container) : Nat := c.raw.length

end Sys2Proof
end

