-- ==== Sys2Proof/Syntax/Operands.lean ====
section
/-! DEFINITION. The operands of the commands that are more than a number: what arrives from outside with a command. -/

namespace Sys2Proof

/-- What SDA of a two-wire bus reads once a transfer is over: high, low until a bus clear, or low after one too (R453, R460). -/
inductive Sda where
  | high | cleared | held
  deriving DecidableEq, Repr

/-- The result of one attempt of a two-wire operation (R459, R462). -/
inductive TwResult where
  | done (bytes : List Nat)
  | addrNack (sda : Sda)
  | dataNack (sda : Sda)
  | arb (byte bit : Nat)
  | stretch (free : Bool)
  | timeout (free : Bool)
  | pec
  | blockLong
  deriving DecidableEq, Repr

/-- What STATUS_WORD shows: no bit, warning bits alone, or a fault bit. Which bits are which is PMBus's (log entry 26). -/
inductive PollStatus where
  | ok | warn | fault
  deriving DecidableEq, Repr

/-- Who asks for a slot to be shed (R294). -/
inductive ShedBy where
  | cap | force | eng
  deriving DecidableEq, Repr

/-- A comparator whose output changes: the window pair of MON input `i`, or ENH of slot `n`, which stands in `above` (R276, R321). -/
inductive CmpInput where
  | window (i : Fin 64)
  | enh (n : Fin 16)
  deriving DecidableEq, Repr

/-- One item of a duplex partner's frame (R358): a value that arrived at the partner, a register write, a handover, a
slot's voted trip, a pin input, the TICK of the frame (the low 16 bits of its first tick), a poll's answer as telemetry (R363), or a part of the state of
the LOOP blocks that SYNC sends: registers, planes, raised sources with base class, class in effect and ACK (R371, R374). A current-sense item carries the
sample itself, of which the consumer forms the block sums and the outcome bits of R360 (log entry 93). -/
inductive PeerItem where
  | write (addr w : Nat)
  | handover
  | time (tick : Nat)
  | swap (n reason : Nat)
  | trip (n : Nat)
  | adc (c : Nat) (code : Int)
  | mon (i code : Nat)
  | hvm (h v : Nat)
  | cmp (x : CmpInput) (below above : Bool)
  | shunt (n : Nat) (code : Int) (lanes : Nat)
  | volt (n vs vds : Nat) (enh : Bool)
  | therm (n : Nat) (v : Int)
  | bat (s : Nat) (uA : Int) (dt v ta tb : Nat)
  | coarse (s : Nat) (uA : Int)
  | seat (n : Nat) (a b : Bool)
  | poll (r : Nat) (answer : Option (PollStatus × Nat))
  | regs (l : List (Nat × Nat))
  | planes (l : List (Nat × Plane))
  | sources (l : List (Nat × Cls × Cls × Bool))
  deriving DecidableEq, Repr

/-- A partner's frame (R358): its number SEQ, state, trip mask, digest and items with their arrival ticks, in LOOP ticks
of the device that takes it (log entry 30). Whether its CRC is right,
and whether the partner's build and side fit (R352), are facts of the bytes that the command carries. -/
structure PeerFrame where
  seq : Nat
  state : Nat
  trips : Nat
  digest : Nat
  items : List (Nat × PeerItem)
  crcOk : Bool
  pairOk : Bool
  deriving DecidableEq, Repr

/-- A LINKSTAT (R382, R385): the sender's address and ring index, and whether its EAST and WEST ports are UP. -/
structure LinkStat where
  addr : Nat
  index : Nat
  east : Bool
  west : Bool
  deriving DecidableEq, Repr

/-- An Igkulink frame as a node sees it (R380, R384): the fields of its header, its payload, and whether it arrived good (CRC and K29.7).
`dst` is the address of a long frame. -/
structure LinkFrame where
  typ : Nat
  hops : Nat
  src : Nat
  seq : Nat
  dst : Nat
  data : List Nat := []
  good : Bool
  deriving DecidableEq, Repr

/-- A TSYNC exchange in 1/64 ticks (R387): on a two-way link the four stamps; on an UP ring the two stamps of the marker, the time
of the whole loop, and the residence times before this node and in all. -/
inductive TsyncStamps where
  | twoWay (t1 t2 t3 t4 : Int)
  | upRing (t1 t2 whole before total : Int)
  deriving DecidableEq, Repr

/-- An ARB frame (R382, R395): the pair's ring position, the sender's side, state and SELFOK, whether it reports a loss of lockstep;
or the manager's decision, the side it names. -/
inductive ArbFrame where
  | report (pos side state : Nat) (selfOk lost : Bool)
  | decision (pos side : Nat)
  deriving DecidableEq, Repr

/-- How a recorder page's write ends (R416, R417): programmed, a port lost, or a block that fails to program. -/
inductive PageOutcome where
  | done
  | portFail (p : Nat)
  | blockFail (p : Nat)
  deriving DecidableEq, Repr

/-- Where an uncorrectable error of ECC is found (R30, R436): a Drawer page, or the record of a number in the record area of the capture
ring (R425). -/
inductive EccAt where
  | page (p : Fin 64)
  | ringRecord (seq : Nat)
  deriving DecidableEq, Repr

/-- What a storage port reads while it trains (R416): page bytes, pages in a block, capacity in MB. -/
structure NandGeom where
  page : Nat
  perBlock : Nat
  mb : Nat
  deriving DecidableEq, Repr

/-- A finding of a scrub pass (R143): a corrected bit, an uncorrectable word or a CRC mismatch in the shadow plane of a Bench, or one
anywhere else. -/
inductive ScrubFinding where
  | corrected
  | shadow (n : Nat)
  | other
  deriving DecidableEq, Repr

/-- A feed that rises through its feed-good threshold, 0 VINA or 1 VINB, and whether VHK stands at 4.85 V or above by then (R65, R68). -/
structure FeedRise where
  feed : Fin 2
  vhk : Bool
  deriving DecidableEq, Repr

/-- An image as the boot ROM finds it (R111 to R114, R442): what the chosen slot of the storage ports was given by UPD, a container that
stands there or in the Drawer otherwise, or, on a warm boot, the image in the core memory bank, which verifies or not. -/
inductive Image where
  | stored
  | given (c : Container)
  | inBank (ok : Bool)
  deriving DecidableEq, Repr

/-- A reply of the port partner (R472 to R475). -/
inductive PdReply where
  | accept | reject | wait | psRdy
  | sinkCaps (frsCurrent : Nat)
  deriving DecidableEq, Repr

/-- A command of the host port or the service function (R427); `unknown` is any other code. -/
inductive PortCmd where
  | rdstat
  | rdreg (addr : Nat)
  | wrreg (addr w : Nat)
  | rdwin (off len : Nat)
  | wrwin (off : Nat) (bytes : List Nat)
  | xfer (page src dst : Nat)
  | rdown
  | unknown
  deriving DecidableEq, Repr

end Sys2Proof

namespace Sys2Proof.Machine

/-- A bus master (R7, R422, R451): the core, DMA, the host, the service port, the two-wire target, the register tunnel, the debug port. -/
inductive Master where
  | core | dma | host | usb | twt | tunnel | debug
  deriving DecidableEq, Repr

end Sys2Proof.Machine
end

