-- ==== Sys2Proof/Syntax.lean ====
section
/-! DEFINITION. The commands that the surroundings give the KSC960, one constructor for each row of spec/opcode_table.json, those with operands first.
The table gives its rows no operands and no bits; the operands are what each row's rule needs (log entry 1). -/

namespace Sys2Proof

/-- A command: a register write, a transaction, a message or a reading that arrives, or a time that has come. -/
inductive Instr where
  /-- A supply feed rises through its feed-good threshold and joins the ideal-diode OR (R62). -/
  | feedGood (f : FeedRise)
  /-- A supply feed falls through its feed-lost threshold and leaves the OR (R62). -/
  | feedLost (f : Fin 2)
  /-- The reset hold ends and reset is released, so the watchdog starts and the boot ROM runs (R43). -/
  | resetRelease (bootsel : Fin 4) (side : Bool) (io : Fin 32)
  /-- A keyed write with COLD set raises a cold reset (R105). -/
  | rstCtrlCold (key : Nat) (warm : Bool)
  /-- A keyed write with WARM set and COLD clear raises a warm reset of the SYS domain (R105). -/
  | rstCtrlWarm (key : Nat)
  /-- A write to RST.WDT_SVC with key 6C3Ah restarts the watchdog period (R108). -/
  | watchdogService (w : Nat)
  /-- A detection window passes with or without an edge and the clock's present bit changes (R87). -/
  | clockPresenceChange (clk : Fin 13) (present : Bool)
  /-- A function's READY bit sets once its prerequisites and its own needs are in place (R115). -/
  | readySet (bit : Fin 27)
  /-- A write of 1 to an RST.BLOCK storage-port bit resets that NVS port (R107). -/
  | rstBlockNv (p : Fin 2)
  /-- A write of 1 to an RST.BLOCK Igkulink bit resets that port to DOWN (R107). -/
  | rstBlockLink (p : Fin 3)
  /-- A write of 1 to an RST.BLOCK two-wire bit resets that bus and releases its lines (R467). -/
  | rstBlockTwoWire (x : Fin 4) (sda : Sda)
  /-- A dual-clock FIFO's pointer resynchronisation handshake completes, and its READY sets (R97). -/
  | fifoResyncDone (fifo : Fin 7) (discarded : Nat)
  /-- After NVx_EN is written 0, the port clock stops at the first NV cycle with no transfer outstanding (R96). -/
  | nvClockStop (p : Fin 2)
  /-- A write to NVA_RATE or NVB_RATE is ignored at 3.3 V and takes effect only while EN is 0 (R104). -/
  | nvRateWrite (p : Fin 2) (v : Bool)
  /-- A write of 1 to a block's LOCK bit makes its RWL fields read-only until the next reset (R12). -/
  | lockWrite (addr : Nat)
  /-- A write to a register that has no behaviour of its own is applied under its access codes, bounds and locks (R10). -/
  | registerWrite (m : Machine.Master) (addr : Nat) (w : Nat)
  /-- The boot ROM finishes reading a firmware image and checks its signature, tag and identity (R113). -/
  | firmwareLoad (img : Image)
  /-- The loader completes the steps of a full bitstream load and commits it (R138). -/
  | bitstreamLoad (img : Image)
  /-- A pulse-handshake acknowledge completes, and the next transfer starts carrying the counter's value (R100). -/
  | pulseTransferDone (j : Fin 68)
  /-- A write of FAB.PLOAD.GO starts loading a partial bitstream from Drawer pages (R144). -/
  | partialLoadGo (page : Fin 64) (count : Fin 32) (planes : Nat)
  /-- The partial load finishes, and its planes are accepted with PDONE or rejected with PFAIL (R144). -/
  | partialLoadDone (part : Container)
  /-- A write of FAB.SWAP.GO puts the named Benches into PENDING (R145). -/
  | swapGo (mask : Nat) (differs : Nat)
  /-- A pending Bench exchanges its active and shadow planes at its update boundary (R145). -/
  | benchSwap (n : Fin 16) (differs : Bool)
  /-- The 10 ms background scrub reads configuration memory and rechecks the CRCs (R143). -/
  | scrubPass (findings : List ScrubFinding)
  /-- A Dowel timer completes its window and the Dowel output changes (R136). -/
  | dowelTimerExpiry (k : Fin 256)
  /-- A Bench update window closes and the Bench computes and delivers its duty commands (R160). -/
  | benchUpdate (n : Fin 16)
  /-- LIMITING stays set for longer than LIMT and LIMTIME is raised (R191). -/
  | limtimeExpiry (n : Fin 16)
  /-- A START from SEQ moves an OFF Bench into PRESTART (R165). -/
  | benchStart (n : Fin 16)
  /-- A STOP moves a Bench to OFF or STOPPING from its present VR (R165). -/
  | benchStop (n : Fin 16)
  /-- The bias window is judged at e + PS_BIAS + 10 for current and sense faults (R185). -/
  | prestartBiasJudge (n : Fin 16)
  /-- The low-side test pulse of the next tested phase begins (R186). -/
  | prestartPulse (n : Fin 16)
  /-- The test passes at t0 + k*P and the Bench enters RAMP (R186). -/
  | prestartPass (n : Fin 16)
  /-- VR reaches VT, so a RAMP Bench enters REG or SLEWING clears (R166). -/
  | rampReached (n : Fin 16)
  /-- VR reaches the plane's stop floor and the Bench's final Z update begins (R165). -/
  | stopFloorReached (n : Fin 16)
  /-- A BEN.n.VSET write retargets the ramp from its present position (R167). -/
  | vsetWrite (n : Fin 16) (w : Nat)
  /-- A BEN.n.MARGIN write changes VT, and SEQ's write wins within the same tick (R168). -/
  | marginWrite (n : Fin 16) (w : Nat) (bySeq : Bool)
  /-- A SLEW write changes the ramp rate from the next tick (R167). -/
  | slewWrite (n : Fin 16) (w : Nat)
  /-- A BEN.n.PERIOD write takes effect at the next update boundary (R155). -/
  | periodWrite (n : Fin 16) (w : Nat)
  /-- A W1C of BEN.n.PHDROP clears drop marks only while the Bench is OFF (R182). -/
  | phdropClear (n : Fin 16) (w : Nat)
  /-- A write to OVP, UVP or their debounce rewrites the window thresholds in the tick it lands (R194). -/
  | ovuvWrite (n : Fin 16) (deb : Bool) (w : Nat)
  /-- A current-sense result reaches every LOOP consumer 10 ticks after its sample (R73). -/
  | adcResult (ch : Fin 32) (code : Int)
  /-- A phase limited in PHOC_N consecutive periods raises PHOC (R190). -/
  | phocCount (n : Fin 16) (p : Fin 32)
  /-- A crossing of the Bench's feedback band starts a nonlinear event on every phase (R171). -/
  | nlEventStart (n : Fin 16) (under : Bool)
  /-- The nonlinear event ends when the comparator clears or NLMAX ticks pass (R171). -/
  | nlEventEnd (n : Fin 16)
  /-- A monitor conversion result reaches every LOOP consumer 50 ticks after its sample (R253). -/
  | monResult (inp : Fin 64) (code : Nat)
  /-- An HVM conversion result reaches every LOOP consumer (R253). -/
  | hvmResult (h : Fin 8) (v : Nat)
  /-- A fast-tier window comparator output changes on an enabled side (R321). The table has no row of its own for ENH, which is a continuous
  comparator too (R276); it comes with this one (log entry 42). -/
  | windowComparatorChange (inp : CmpInput) (below : Bool) (above : Bool)
  /-- A change of SHR.VBUS or VHEAD queues VOUT_COMMAND writes to the rectifiers (R207). -/
  | shrVbusWrite (w : Nat)
  /-- A rectifier poll ends, and its management state is compared with its live state (R213). -/
  | shrPollDone (r : Fin 24) (answer : Option (PollStatus × Nat))
  /-- A CAP.FORCE write adds or removes software throttle and shed requests (R225). -/
  | capForceWrite (w : Nat)
  /-- A node adds its figures to a passing CAPSUM, or the manager sums both halves (R390). -/
  | capsumRx (port : Fin 3) (seq : Nat) (pload : Nat) (pdraw : Nat) (contrib : Nat)
  /-- A missing CAPSUM half is filled from its latest or highest sum after 3.5 us (R391). -/
  | capsumTimeout (half : Fin 2) (seq : Nat)
  /-- A worker receives CAPQ and sets CAP.PASSIGN (R222). -/
  | capqRx (q : Nat) (seq : Nat) (lift : Bool)
  /-- A landing group's TLAND elapses, and SEQ is asked to take its rails down (R241). -/
  | engGroupDown (g : Fin 8)
  /-- A current step's windows close and the step is accepted or rejected for the capacitance audit (R244). -/
  | auditStep (k : Fin 8) (t : Nat) (before : Unit) (after : Unit)
  /-- A coulomb-counter result arrives, and BAT updates the charge, the uncertainty, the limits and the permissions (R298). -/
  | batResult (n : Fin 4) (uA : Int) (dt : Nat) (v : Nat) (ta : Nat) (tb : Nat)
  /-- Rest for TREST re-anchors s_c to OCV and resets the reference age (R300). -/
  | restReference (n : Fin 4)
  /-- Full conditions for 10 min anchor s_c at 1.0 (R300). -/
  | fullReference (n : Fin 4)
  /-- Steady load for 10 min allows an IR-corrected reference (R300). -/
  | irReference (n : Fin 4)
  /-- 7 days without a rest reference set REF_STALE and raise REFSTALE (R301). -/
  | refStaleExpiry (n : Fin 4)
  /-- A write of BAT.n.CTRL.REST asks for a rest by forbidding charge (R302). -/
  | restRequest (n : Fin 4) (v : Bool)
  /-- A rest request standing for 2 hours ends and the permission byte is restored (R302). -/
  | restRequestTimeout (n : Fin 4)
  /-- Every 1 s, the permission byte is written again to the string unit (R307). -/
  | permissionRepeat (n : Fin 4)
  /-- Charge current above IREST for 10 s while forbidden raises CHGFORBID (R307). -/
  | chgforbidExpiry (n : Fin 4)
  /-- Both thermistors inside the narrowed range for 60 s permit charge again (R306). -/
  | chargeRepermit (n : Fin 4)
  /-- BVnn below 10 % of VFLOOR for 10 ms marks the string absent (R311). -/
  | stringAbsent (n : Fin 4)
  /-- BVnn above the level for 10 ms marks the string present again (R311). -/
  | stringPresent (n : Fin 4)
  /-- A write of NEWSTRING declares a new string and starts a first estimate (R312). -/
  | newstringWrite (n : Fin 4)
  /-- After 100 ms of results, the first estimate of a string is made (R312). -/
  | firstEstimate (n : Fin 4)
  /-- A write of SEQ.REQ.ON requests a group on (R261). -/
  | seqReqOn (mask : Nat)
  /-- A write of SEQ.REQ.OFF requests a group and its dependents off (R261). -/
  | seqReqOff (mask : Nat)
  /-- A rail reading arrives and is judged against the rail's windows (R256). -/
  | seqReading (r : Fin 1024)
  /-- A rail holds good for GOODDB and enters GOOD (R256). -/
  | railGoodQualified (r : Fin 1024)
  /-- A GOOD rail stays out of its window for FAILDB, enters FAILED and raises RAILFAIL (R258). -/
  | railFailDebounce (r : Fin 1024)
  /-- A GOOD rail stays outside its narrowed window for FAILDB, raising RAILWARN (R266). -/
  | railwarnDebounce (r : Fin 1024)
  /-- STARTTIME runs out in START or STOP, raising STARTFAIL or STOPFAIL (R258). -/
  | starttimeExpiry (r : Fin 1024)
  /-- An edge's DELAY or STOPDELAY completes (R250). -/
  | edgeDelayExpiry (e : Nat)
  /-- The re-qualify time after a power-down ends and the pending group is requested on (R263). -/
  | requalExpiry (g : Fin 16)
  /-- A W1C of FAILMARK clears it only if the rail is OFF and its source is not held (R267). -/
  | failmarkClear (r : Fin 1024)
  /-- A write to SEQ.g.MARGIN margins every Bench and PMBUS rail of the group (R271). -/
  | seqMarginWrite (g : Fin 16) (w : Nat)
  /-- MSETTLE after a margin write moves a PMBUS rail's reference to the new target (R272). -/
  | msettleExpiry (r : Fin 1024)
  /-- A RAILREP updates the receiving shelf's REMOTE rails (R268). -/
  | railrepRx (w : Fin 16) (entries : List (Nat × Nat × Nat))
  /-- A broadcast SEQREQ is applied as a write to the worker's SEQ.REQ (R268). -/
  | seqreqRx (on : Nat) (off : Nat)
  /-- No report from a shelf for 1 ms marks it stale and raises SEQSTALE (R270). -/
  | reportStale (w : Fin 16)
  /-- A synchronised seating-input sample starts or aborts seating (R277). -/
  | seatingInputChange (n : Fin 16) (a : Bool) (b : Bool)
  /-- Both inputs stay low through TSEAT and the slot becomes SEATED or FORCED (R277). -/
  | seatTimerExpiry (n : Fin 16)
  /-- Either input high for 40 ticks declares removal and sinks the gate (R279). -/
  | slotRemoval (n : Fin 16)
  /-- One input low and the other high for 500 ms raises SEATFAULT (R279). -/
  | seatfaultExpiry (n : Fin 16)
  /-- A slot's enable arrives from SEQ or HSW.n.CTRL.EN, and the slot moves towards CHECK (R278). -/
  | slotEnable (n : Fin 16)
  /-- Withdrawal of the enable sinks the gate and returns the slot to SEATED (R277). -/
  | slotDisable (n : Fin 16)
  /-- The 200 us pass-transistor check window is judged (R280). -/
  | checkEnd (n : Fin 16)
  /-- A slot shunt result arrives and updates IMEAN (R276). -/
  | slotShuntResult (n : Fin 16) (code : Int) (lanes : Fin 8)
  /-- A VS and VDS result arrives, and the SOA window count is updated (R283). -/
  | slotVoltResult (n : Fin 16) (vs : Nat) (vds : Nat) (enh : Bool)
  /-- The SOA count reaches TSOA and SOATIME trips the slot (R283). -/
  | soaExpiry (n : Fin 16)
  /-- RAMP lasting TRAMP raises RAMPTIME (R283). -/
  | ramptimeExpiry (n : Fin 16)
  /-- Full enhancement and a low VDS held for PGDELAY make the slot GOOD (R277). -/
  | pgdelayExpiry (n : Fin 16)
  /-- Two of the three Kerf lanes cross and the voter sinks the gate without a clock (R286). -/
  | kerfTrip (n : Fin 16) (lanes : Fin 8)
  /-- A scheduled test diverts and injects one lane and checks its response (R288). -/
  | laneTest (n : Fin 16) (lane : Fin 3) (seen : Bool) (fell : Bool)
  /-- IMEAN above IOC for TOC raises OC (R290). -/
  | slotOcExpiry (n : Fin 16)
  /-- VDS above VDSMAX in GOOD for FETDB raises FETDEG (R281). -/
  | fetdegExpiry (n : Fin 16)
  /-- ENH low for 10 us in GOOD raises GATEFAIL (R281). -/
  | gatefailExpiry (n : Fin 16)
  /-- The retry timer expires and a waiting enable may start the slot (R291). -/
  | retryTimerExpiry (n : Fin 16)
  /-- A slot GOOD for TCLEAN has its retry count returned to 0 (R291). -/
  | tcleanExpiry (n : Fin 16)
  /-- A slot empty for 60 s has its history cleared (R292). -/
  | cooloffExpiry (n : Fin 16)
  /-- A write of HSW.n.CTRL.UNLOCK releases LOCKOUT unless FETSHORT's cause is present (R293). -/
  | slotUnlock (n : Fin 16)
  /-- A shed request from CAP, CAP.FORCE or ENG sinks the slot's gate and enters SHED (R294). -/
  | slotShed (n : Fin 16) (asker : ShedBy)
  /-- A shed is withdrawn and the slot returns to SEATED (R294). -/
  | shedWithdraw (n : Fin 16) (asker : ShedBy)
  /-- A W1C of PRO.k.STICKY clears each source whose cause is gone and refuses the others (R334). -/
  | stickyClear (k : Fin 24) (mask : Nat)
  /-- A write of 1 to PRO.k.ACK acknowledges a set source (R330). -/
  | ackWrite (k : Fin 24) (mask : Nat)
  /-- A write of 1 to a PRO.FWRAISE bit raises a firmware source (R326). -/
  | fwraiseWrite (hi : Bool) (mask : Nat)
  /-- KILL_N is read low while this device does not sink it, raising KILLIN (R337). -/
  | killin (low : Bool)
  /-- A temperature reading arrives and is judged against WARN, THR and SHUT (R342). -/
  | thmReading (n : Fin 6) (reading : Int)
  /-- The sensor reads below RESTART for RESTDLY, so the shutdown cause is gone and SAFE's line is released (R348). -/
  | restartWindowExpiry (n : Fin 6)
  /-- A faulted sensor back in range for 1 s stops counting as faulted (R340). -/
  | xsensorRecover (n : Fin 6)
  /-- A write lowering a threshold is held to THERMAL values and reaches SAFE for sensor 1 (R346). -/
  | thmLimitWrite (n : Fin 6) (second : Bool) (w : Nat)
  /-- Every 8 ticks, a device builds and sends a frame with its digest to its partner (R358). -/
  | peerFrameSend (e1 : Nat) (e2 : Nat) (late : Bool)
  /-- A partner frame arrives, its items are scheduled, and its digest is compared (R359). -/
  | peerFrameRx (frame : PeerFrame)
  /-- A REFEREE_ACT change is confirmed after 8 ticks, and the device releases or takes the shelf (R368). -/
  | refereeActConfirm (level : Fin 2)
  /-- Rates differing by more than 10 ppm over 10 ms raise CLKSKEW (R354). -/
  | clkskew (ppm : Nat)
  /-- A DOWN port's receive clock appears and the port enters ACQUIRE (R385). -/
  | portRxClockPresent (p : Fin 3)
  /-- 16 aligned commas move the port to IDENT (R385). -/
  | commaAligned (p : Fin 3)
  /-- 100 us without alignment returns the port to DOWN (R385). -/
  | acquireTimeout (p : Fin 3)
  /-- In IDENT, a port sends a LINKSTAT every 10 us (R385). -/
  | linkstatSend (p : Fin 3)
  /-- A LINKSTAT moves a port to UP or FAULT, or updates the path in use (R398). -/
  | linkstatRx (p : Fin 3) (stat : LinkStat)
  /-- Clock loss or code errors take an UP port to DOWN and raise PORTDOWN (R385). -/
  | portDown (p : Fin 3)
  /-- A 1 ms window with more than 4 errors on a port raises LNKERR (R400). -/
  | lnkerrWindow (p : Fin 3) (code : Nat) (crc : Nat)
  /-- A frame arrives, and the node forwards it cut-through, removes it or accepts it (R383). -/
  | frameRx (p : Fin 3) (frame : LinkFrame)
  /-- A TSYNC frame arrives, and the delay and offset are computed and tracked (R387). -/
  | tsyncRx (stamps : TsyncStamps)
  /-- A root's 10 ms listening period ends and TIM READY sets (R389). -/
  | rootListenEnd (child : Option Nat)
  /-- An ARB frame arrives, and the manager judges and decides or the device acts on a decision (R395). -/
  | arbRx (frame : ArbFrame)
  /-- No ARB from the active for 16 us, or no follow-up within 1 us, counts its heartbeat lost (R395). -/
  | arbTimeout (pos : Fin 33)
  /-- A ring node silent for 1 ms raises NODELOST on the manager (R396). -/
  | nodelost (n : Fin 33)
  /-- A write of LNK.TUN_CTRL.GO sends a TUNNEL register request (R397). -/
  | tunnelGo (w : Nat)
  /-- A device receives a TUNNEL request and performs the register access (R397). -/
  | tunnelRequestRx (write : Bool) (addr : Nat) (w : Nat)
  /-- The tunnel answer arrives and STATUS reads DONE (R397). -/
  | tunnelReplyRx (data : Nat)
  /-- A CLAMP frame within scope is checked, latched and relayed (R392). -/
  | clampFrameRx (origin : Nat) (tick : Nat) (cause : Fin 8) (scope : Fin 4)
  /-- A NAND page write through DMA channel 7 completes (R415). -/
  | pageWriteDone (outcome : PageOutcome)
  /-- A storage port reads the ID and parameter page, locks to DQS and is trained (R416). -/
  | nandPortTrain (p : Fin 2) (geom : NandGeom)
  /-- A write of EVR.RD_CTRL.GO fills a Drawer page with records from RD_SEQ (R419). -/
  | evrReadGo (w : Nat)
  /-- The page is filled and returned, and RD_NEXT is set (R419). -/
  | evrReadDone (bad : List Nat)
  /-- A write of EVR.CLR_CTRL.GO submits a clear for MAC verification (R420). -/
  | clearGo (m : Machine.Master) (w : Nat)
  /-- A write of EVR.FW_CTRL.GO stages an FW record from a Drawer page (R412). -/
  | evrFwGo (w : Nat)
  /-- A write through NVS.VAULT reaches the user region only while UWEN is 1 (R424). -/
  | vaultWrite (word : Fin 2048) (w : Nat)
  /-- An RDREG transaction reads one register, or returns BUSY or a held result (R427). -/
  | hostRdreg (addr : Nat) (period : Nat)
  /-- A WRREG transaction writes one register subject to the ACL (R433). -/
  | hostWrreg (addr : Nat) (w : Nat) (period : Nat)
  /-- An RDWIN transaction reads bytes from a HOST-owned Drawer page (R427). -/
  | hostRdwin (off : Nat) (len : Nat) (period : Nat)
  /-- A WRWIN transaction writes bytes into a HOST-owned Drawer page (R427). -/
  | hostWrwin (off : Nat) (bytes : List Nat) (period : Nat)
  /-- An XFER transaction requests a page ownership transition (R436). -/
  | hostXfer (page : Fin 64) (src : Fin 4) (dst : Fin 4) (period : Nat)
  /-- An RDOWN transaction returns the ownership flags of every page (R427). -/
  | hostRdown (period : Nat)
  /-- A write to HOSTBELL or COREBELL sets or clears bell bits and interrupts the other side (R434). -/
  | bellWrite (m : Machine.Master) (core : Bool) (mask : Nat)
  /-- A write of WIN.XFER requests a page ownership transition from the core (R436). -/
  | winXfer (w : Nat)
  /-- An uncorrectable ECC error marks a Drawer page BAD (R436). -/
  | pageBad (at_ : EccAt)
  /-- Zeroing of a BAD page completes and the page becomes FREE (R436). -/
  | pageZeroDone (p : Fin 64)
  /-- A core load or store to the Drawer faults unless its page is DEVICE (R437). -/
  | coreDrawerAccess (off : Nat) (store : Option Nat)
  /-- A write of DMA.c.CTRL.GO checks the descriptor and starts the channel (R444). -/
  | dmaGo (ch : Fin 8)
  /-- A write of 0 to GO stops a channel after its burst, or abandons a stopped channel (R446). -/
  | dmaStop (ch : Fin 8)
  /-- A write of RESUME continues a stopped channel from its first unwritten byte (R450). -/
  | dmaResume (ch : Fin 8)
  /-- A channel writes COUNT/2 bytes, sets HALF and hands the first half's pages off (R446). -/
  | dmaHalf (ch : Fin 8)
  /-- A channel completes, sets FULL, hands off pages and restarts under CIRC (R446). -/
  | dmaFull (ch : Fin 8)
  /-- A page returns to DEVICE and a WAITOWN channel resumes (R447). -/
  | dmaPageReturn (ch : Fin 8)
  /-- A bus error stops every channel and records the address (R449). -/
  | dmaBusError (addr : Nat) (wr : Bool) (progress : List (Nat × Nat))
  /-- A write of TWB.x.CMD.GO queues a firmware transaction (R457). -/
  | twbCmdGo (x : Fin 4)
  /-- When the bus is idle, the highest-precedence queued transaction starts (R457). -/
  | twbTransactionStart (x : Fin 4)
  /-- An attempt ends, succeeding, failing or retrying up to three attempts (R459). -/
  | twbAttemptEnd (x : Fin 4) (result : TwResult)
  /-- SCL held low beyond STRETCH or 25 ms times out, releasing the lines and clearing the bus (R460). -/
  | twbTimeout (x : Fin 4) (sdaFree : Bool)
  /-- Every 10 ms the clear of a STUCK bus is tried again (R460). -/
  | stuckRetry (x : Fin 4) (sdaFree : Bool)
  /-- A Block Write to REG_ADDR sets the register address (R464). -/
  | tgtRegAddr (addr : Nat) (pecOk : Bool)
  /-- A REG_DATA Block Write writes the register subject to the ACL (R465). -/
  | tgtRegDataWrite (w : Nat) (pecOk : Bool)
  /-- A partner attaches, and the port takes the source or sink role from its termination (R469). -/
  | ccAttach (rp : Fin 4) (cc2 : Bool)
  /-- A Source_Capabilities message arrives and the device requests a Fixed object (R471). -/
  | sourceCapsRx (objs : List (Nat × Nat))
  /-- As source, a Request is accepted, then DR_Swap is sent to become UFP (R472). -/
  | pdRequestRx (pos : Fin 8) (cur : Nat)
  /-- A Get_Source_Cap or Get_Sink_Cap is answered with capabilities (R471). -/
  | getCapRx (sink : Bool)
  /-- Feeds or VHK fall with the swap armed, and the device signals a fast role swap (R475). -/
  | frSwapTrigger (vhk : Bool)
  /-- Source current above 1.75 A for 1 ms, or VHK low, enters error recovery (R473). -/
  | sourceOvercurrent (vhk : Bool)
  /-- A bulk OUT transfer carries one service command (R476). -/
  | usbOutTransfer (cmd : PortCmd)
  /-- A write of UPD.CTRL.INGEST takes a container from the Drawer ring (R490). -/
  | updIngest (container : Container)
  /-- An IMAGE frame delivers a container block into the relay area (R491). -/
  | imageBlockRx (index : Nat) (block : Nat) (whole : Option Container)
  /-- A received container is verified, then ACKed or NAKed and forwarded (R491). -/
  | containerVerified (stored : Bool)
  /-- An ACK or NAK from a next hop completes, or repeats, a forwarded container (R491). -/
  | imageAckRx (p : Fin 3) (ok : Bool) (code : Nat)
  /-- An IMAGE frame with ACTIVATE set activates the staged package (R493). -/
  | activateFrameRx (pkg : Nat)
  /-- A write of UPD.CTRL.HANDOVER stops the core fetching and drains it (R495). -/
  | updHandover (page : Fin 64) (valid : Bool)
  /-- A core write of key 7C15h inside the window confirms the trial (R496). -/
  | updConfirm (m : Machine.Master) (key : Nat)
  /-- A write of SEC.PROG.GO programs one OTP field from PROGDATA (R483). -/
  | secProgGo (m : Machine.Master) (w : Nat)
  /-- VBUS_S rises above its threshold and powers an otherwise unpowered device through the service path, or falls away again
  (R67). -/
  | servicePowerApplied (on : Bool)
  /-- The LOOP PLL or an NV port PLL loses or regains lock, which gates its clock and sets its UNLOCK sticky bit (R86). -/
  | pllLockChange (pll : Fin 4) (locked : Bool)
  /-- A phase's period counter reaches its next period start, placing its HIGH edge and applying new duty, offset shift, shedding
  to Z or addition (R156). -/
  | pwmPeriodStart (pin : Fin 32)
  /-- Every 250 us, the coulomb converter's coarse check finds the current at or above ISLOW and returns the converter to 250 us
  results (R298). -/
  | coarseMagnitudeCheck (n : Fin 4) (uA : Int)
  /-- A JTAG debugger halts or resumes the management core, pausing the watchdog count while DBG_FREEZE is 1 (R109). -/
  | jtagCoreHalt (halt : Bool)
  /-- An Accept, Reject, Wait, PS_RDY or Sink_Capabilities message from the partner arrives, completing a contract, a swap or the
  arming data (R472). -/
  | pdReplyMessageRx (msg : PdReply)
  /-- No feed is good and VBUS_S does not power the device, so RST holds a cold reset (R105). -/
  | powerOnReset
  /-- PORST_N is seen low through the three SAFE flops and holds a cold reset (R105). -/
  | porstNLow
  /-- The watchdog period runs out unserviced, so a warm reset is raised and RST.CAUSE.WDT is set (R108). -/
  | watchdogExpiry
  /-- The SYS PLL loses lock, its clock is gated off, and a warm reset is held until it relocks (R86). -/
  | sysPllUnlock
  /-- The power-side die detects the forwarded LOOP clock stopped, treats it as HALT and sinks every gate (R24). -/
  | loopClockStop
  /-- The LOOP clock returns after a detected stop, LOOPCLK is raised, and the power READY bits may set again (R106). -/
  | loopClockReturn
  /-- A write of 1 to RST.BLOCK.HST resets the host target and withdraws its pending request (R441). -/
  | rstBlockHost
  /-- A write of 1 to RST.BLOCK.CPD resets the PD controller with Rd presented (R107). -/
  | rstBlockCpd
  /-- The boot ROM services the watchdog once more and passes control to the firmware (R108). -/
  | bootHandoff
  /-- A host boot gets no complete image within 10 s, so RST.BOOT.CODE reads 06h (R140). -/
  | hostBootTimeout
  /-- Every 200 ticks, SHR runs its bus loop and sets the SHARE codes (R206). -/
  | shrCompute
  /-- At each poll period, a poll is queued per rectifier, or a stale poll is counted (R458). -/
  | shrPollPeriod
  /-- At each sample tick, CAP forms P_draw, P_load and P_B and sets i_ceil (R214). -/
  | capSample
  /-- THRSTEP passes and one further throttle group is asserted (R216). -/
  | capThrstepExpiry
  /-- SHEDDELAY passes with the excess remaining, so shedding begins (R216). -/
  | capSheddelayExpiry
  /-- P_need stays below the release level for RELEASE ms, and one step item is released (R220). -/
  | capReleaseExpiry
  /-- MISS, or P_draw over the cap, lasts 10 ms and raises CAPMISS (R221). -/
  | capmissTimer
  /-- Every 200 ticks, an end node sends a CAPSUM towards the manager (R390). -/
  | capsumSend
  /-- The rack sum stays below the release level for RELEASE, and the manager broadcasts none (R222). -/
  | capRackRelease
  /-- Every 200 ticks, ENG forms the ledger, the requirement and the budget, and steps its state (R238). -/
  | engCompute
  /-- A loss condition's debounce completes, input loss is declared, and INPUTLOSS is raised (R236). -/
  | inputLost
  /-- No loss condition has held for RETURNDB, so input returns and E_rect is recomputed (R237). -/
  | inputReturn
  /-- At w + R, the shutdown commits and non-landing slots and Benches are taken down (R241). -/
  | engCommit
  /-- SEQ reports every group off, and ENG enters DOWN (R241). -/
  | engShutdownEnd
  /-- Input stays good for REQUAL in DOWN, so ENG leaves DOWN and power-up is requested (R243). -/
  | engRequalExpiry
  /-- Every PERIOD seconds, ENG lowers i_t by IMIN to make its own audit step (R246). -/
  | auditActiveStep
  /-- After 2W, the active audit cut is returned (R246). -/
  | auditActiveEnd
  /-- On each 1 us strobe, SEQ takes its start, stop and delay decisions (R257). -/
  | seqStrobe
  /-- Every 100 us, a worker sends a full report of its rail states (R268). -/
  | railrepFullReport
  /-- The power-side sensor's second reading over threshold asserts the SAFE shutdown line (R347). -/
  | safeshut
  /-- An item missing at its use tick ends lockstep with cause LATE (R359). -/
  | lateItem
  /-- No valid partner frame for 16 ticks ends lockstep with cause HBLOST (R364). -/
  | hblost
  /-- After 400 ticks, the device releases REFEREE_REQ_N (R365). -/
  | refereeReqRelease
  /-- A write of DPX.CTRL.HANDOVER exchanges the roles at a frame boundary (R370). -/
  | dpxHandover
  /-- A write of DPX.CTRL.TAKE takes the active role from RESOLVE or SPLIT (R355). -/
  | dpxTake
  /-- A write of DPX.CTRL.REJOIN moves a FENCED device to SYNC (R371). -/
  | dpxRejoin
  /-- SYNC not ended within 10 ms returns the device to FENCED (R371). -/
  | syncTimeout
  /-- PEER untrained for RESOLVE_T allows SOLO when the arbiter names this side (R355). -/
  | resolveTimeout
  /-- No decision within 2 us in SPLIT, with an arbiter configured, fences the device (R355). -/
  | splitTimeout
  /-- A keeper lets go of an undriven pin after 16 ticks (R357). -/
  | keeperRelease
  /-- Every 10 us, a node sends a TSYNC marker and frame to its parent (R387). -/
  | tsyncExchange
  /-- No valid exchange for 1 ms enters HOLDOVER and raises TIMLOST (R389). -/
  | holdoverEntry
  /-- A pair device sends an ARB frame every 10 us, or on its triggers (R395). -/
  | arbSend
  /-- A node sends a FAULTSUM on each change of PRO status and every 100 us (R396). -/
  | faultsumSend
  /-- No frame from the manager for 1 ms raises MGRLOST and holds the cap (R396). -/
  | mgrlost
  /-- No tunnel answer within 1 ms sets NOREPLY (R397). -/
  | tunnelNoreply
  /-- A rising edge on CLAMP is seen after the synchroniser and takes a Clamp (R53). -/
  | clampPinEdge
  /-- A write of SNP.CTRL.FIRE originates a Clamp of cause 5 (R401). -/
  | snpFire
  /-- A write of SNP.CTRL.REARM ends HELD (R405). -/
  | snpRearm
  /-- EVR finishes copying the snapshot set into SNAP records, and the set stops being HELD unless KEEP is set (R405). -/
  | snapRecordsStaged
  /-- At each sampling tick, every channel stores its latest result (R408). -/
  | waveformSample
  /-- The post-trigger sample count completes and the waveform area freezes (R409). -/
  | waveformFreeze
  /-- The last WAVE record is staged and sampling restarts (R409). -/
  | waveRecordsStaged
  /-- When space returns, EVR writes one LOST record (R414). -/
  | lostRecordWrite
  /-- FLUSH ms after a page's first record, the page is written (R415). -/
  | pageFlushTimer
  /-- A write of EVR.CTRL.FLUSHNOW writes the open page now (R415). -/
  | evrFlushnow
  /-- At cold start, the scan from the checkpoint finds the write point (R418). -/
  | evrColdScan
  /-- A read of EVR.NONCE0 draws a fresh 128-bit nonce (R420). -/
  | nonceRead
  /-- A nonce older than 60 s expires (R420). -/
  | nonceExpiry
  /-- SEC gives its verdict, and a successful clear moves OLDEST and writes a CLEAR record (R421). -/
  | clearVerdict
  /-- A 32-byte vault write unit completes and the next waiting write is served (R423). -/
  | vaultUnitDone
  /-- An RDSTAT transaction returns the status byte (R427). -/
  | hostRdstat
  /-- An unknown or cut-short command does nothing and counts PROTO (R427). -/
  | hostUnknownCommand
  /-- An outstanding internal host request ends, and a read result is held (R429). -/
  | hostRequestDone
  /-- A core write draining after its page left DEVICE is discarded and sets LATEWR (R437). -/
  | coreLateWrite
  /-- A fence w,o instruction drains the write buffer before a following flag write (R439). -/
  | fenceWO
  /-- A fence i,r instruction orders loads after an observed handoff (R440). -/
  | fenceIR
  /-- A write of DMA.CTRL.CLEAR clears BUSERR (R450). -/
  | dmaClear
  /-- The target answers CAPABILITY with D0h (R464). -/
  | tgtCapability
  /-- The target answers PMBUS_REVISION with 33h (R464). -/
  | tgtPmbusRevision
  /-- The target answers MFR_ID with STW (R464). -/
  | tgtMfrId
  /-- The target answers MFR_MODEL with KSC960 (R464). -/
  | tgtMfrModel
  /-- A REG_DATA Block Read reads the register, or returns BUSY or a held result (R465). -/
  | tgtRegDataRead
  /-- REG_STAT returns the status of the last REG_DATA request (R464). -/
  | tgtRegStat
  /-- The target's outstanding register request completes (R465). -/
  | tgtRequestDone
  /-- The target answers the Alert Response Address and releases TWA_ALERT_N (R463). -/
  | tgtAlertResponse
  /-- A misplaced repeated start or stop discards the byte and counts PROTO_ERR (R466). -/
  | tgtProtocolError
  /-- SCL low for 25 ms resets the target's logic and releases both lines (R466). -/
  | tgtSclTimeout
  /-- The partner detaches, VBUS_S is discharged and the contract is void (R479). -/
  | ccDetach
  /-- A PR_Swap is accepted, or rejected without the Rp condition (R479). -/
  | prSwapRx
  /-- A DR_Swap to UFP is accepted (R468). -/
  | drSwapRx
  /-- A VDM or unsupported message is answered Not_Supported (R468). -/
  | vdmRx
  /-- A Hard_Reset returns both ends to their at-attach roles (R479). -/
  | hardResetRx
  /-- A write of CPD.CTRL.HARDRST sends Hard_Reset (R479). -/
  | cpdHardrst
  /-- After 25 ms open, the terminations are presented again (R473). -/
  | errorRecoveryEnd
  /-- The service function's request slot completes its request (R477). -/
  | usbRequestDone
  /-- No answer within 1 s names the failing node in FAILNODE (R492). -/
  | relayTimeout
  /-- Every applicable container is stored and acknowledged, and the package is staged (R493). -/
  | packageStaged
  /-- A write of ACTIVATE activates the staged package by kind (R494). -/
  | updActivate
  /-- A refused ON_STORE activation is retried once a minute (R494). -/
  | activationRetry
  /-- The drain ends, and the core is held in reset for 10 us and the bank changes (R495). -/
  | handoverDrainEnd
  /-- The core is released at the base of the new bank (R495). -/
  | handoverRelease
  /-- A drain still running at 4,900 us leaves the bank unchanged for the watchdog (R495). -/
  | handoverDrainTimeout
  /-- The confirm window ends unconfirmed and the trial falls back (R498). -/
  | confirmWindowExpiry
  /-- A refused fall-back swap is retried every 100 ms (R498). -/
  | partialRevertRetry
  /-- A write of UPD.CTRL.ABORT discards a staged package not yet activated (R499). -/
  | updAbort
  /-- An uncorrectable ECC error in core memory stops the core, raises COREECC and starts the watchdog's SYS reset (R30). -/
  | coreMemoryEccError
  /-- 40 ticks after it began driving CLAMP high, the device's source-only driver releases the line (R53). -/
  | clampPulseEnd
  /-- While SELFOK is 1 in STANDBY, ACTIVE or SOLO, REFEREE_HB toggles every 40 ticks (R365). -/
  | refereeHbToggle
  /-- A Soft_Reset message from the partner arrives and the PD protocol layer is reset (R468). -/
  | softResetRx
  /-- The USB host enumerates and configures the service function, setting CPD.STATUS.USBCFG (R476). -/
  | usbConfigured
  /-- A bulk IN transfer from the USB host collects the status byte and data of the service command (R476). -/
  | usbInTransfer
  deriving DecidableEq, Repr

end Sys2Proof
end

