-- ==== Sys2Proof/Machine/RegMap.lean ====
section
/-! DEFINITION. The register index: one name per register field with its address and its bits, as the field
tables of the owning chapters and the index R506 of spec/23_address_map.md give them, and the same facts as
the rows that the generic register access reads. Written out from those tables by hand-checked script. -/

namespace Sys2Proof.Machine

/-- The access codes of R10 (spec/00_scope.md). -/
inductive Acc where
  | ro | rw | w1c | w1s | wo | rwl | stk
  deriving DecidableEq, Repr

/-- One register field: the address of its register, its lowest bit and its width (R7, R8). -/
structure Fld where
  addr : Nat
  lo : Nat
  width : Nat
  deriving DecidableEq, Repr

/-- The number under which the register file holds a field: the bit address of its lowest bit. -/
def Fld.key (f : Fld) : Nat := 8 * f.addr + f.lo

/-- The largest value a field's width holds. -/
def Fld.top (f : Fld) : Nat := 2 ^ f.width - 1

/-- One field of a register as the access rules see it: bits, access code, whether it is read as two's
complement, the range its table states (R125) and whether a write outside that range is ignored. -/
structure FldRow where
  lo : Nat
  width : Nat
  acc : Acc
  signed : Bool := false
  range : Option (Int × Int) := none
  ignoreOut : Bool := false
  deriving DecidableEq, Repr

/-- One register of the index R506: its first address, the stride and number of its instances, the stride and
number of its words inside an instance, and its fields. -/
structure RegRow where
  base : Nat
  stride : Nat
  count : Nat
  sub : Nat
  subCount : Nat
  fields : List FldRow
  deriving DecidableEq, Repr

namespace F

/-- GLB.READY.CLK, bits 0:0, RO (spec/01_architecture.md). -/
def GLB_READY_CLK : Fld := ⟨0x4, 0, 1⟩
/-- GLB.READY.FAB, bits 1:1, RO (spec/01_architecture.md). -/
def GLB_READY_FAB : Fld := ⟨0x4, 1, 1⟩
/-- GLB.READY.BEN, bits 2:2, RO (spec/01_architecture.md). -/
def GLB_READY_BEN : Fld := ⟨0x4, 2, 1⟩
/-- GLB.READY.PWM, bits 3:3, RO (spec/01_architecture.md). -/
def GLB_READY_PWM : Fld := ⟨0x4, 3, 1⟩
/-- GLB.READY.ADC, bits 4:4, RO (spec/01_architecture.md). -/
def GLB_READY_ADC : Fld := ⟨0x4, 4, 1⟩
/-- GLB.READY.MON, bits 5:5, RO (spec/01_architecture.md). -/
def GLB_READY_MON : Fld := ⟨0x4, 5, 1⟩
/-- GLB.READY.SHR, bits 6:6, RO (spec/01_architecture.md). -/
def GLB_READY_SHR : Fld := ⟨0x4, 6, 1⟩
/-- GLB.READY.CAP, bits 7:7, RO (spec/01_architecture.md). -/
def GLB_READY_CAP : Fld := ⟨0x4, 7, 1⟩
/-- GLB.READY.ENG, bits 8:8, RO (spec/01_architecture.md). -/
def GLB_READY_ENG : Fld := ⟨0x4, 8, 1⟩
/-- GLB.READY.BAT, bits 9:9, RO (spec/01_architecture.md). -/
def GLB_READY_BAT : Fld := ⟨0x4, 9, 1⟩
/-- GLB.READY.SEQ, bits 10:10, RO (spec/01_architecture.md). -/
def GLB_READY_SEQ : Fld := ⟨0x4, 10, 1⟩
/-- GLB.READY.HSW, bits 11:11, RO (spec/01_architecture.md). -/
def GLB_READY_HSW : Fld := ⟨0x4, 11, 1⟩
/-- GLB.READY.PRO, bits 12:12, RO (spec/01_architecture.md). -/
def GLB_READY_PRO : Fld := ⟨0x4, 12, 1⟩
/-- GLB.READY.THM, bits 13:13, RO (spec/01_architecture.md). -/
def GLB_READY_THM : Fld := ⟨0x4, 13, 1⟩
/-- GLB.READY.DPX, bits 14:14, RO (spec/01_architecture.md). -/
def GLB_READY_DPX : Fld := ⟨0x4, 14, 1⟩
/-- GLB.READY.LNK, bits 15:15, RO (spec/01_architecture.md). -/
def GLB_READY_LNK : Fld := ⟨0x4, 15, 1⟩
/-- GLB.READY.TIM, bits 16:16, RO (spec/01_architecture.md). -/
def GLB_READY_TIM : Fld := ⟨0x4, 16, 1⟩
/-- GLB.READY.SNP, bits 17:17, RO (spec/01_architecture.md). -/
def GLB_READY_SNP : Fld := ⟨0x4, 17, 1⟩
/-- GLB.READY.EVR, bits 18:18, RO (spec/01_architecture.md). -/
def GLB_READY_EVR : Fld := ⟨0x4, 18, 1⟩
/-- GLB.READY.NVS, bits 19:19, RO (spec/01_architecture.md). -/
def GLB_READY_NVS : Fld := ⟨0x4, 19, 1⟩
/-- GLB.READY.HST, bits 20:20, RO (spec/01_architecture.md). -/
def GLB_READY_HST : Fld := ⟨0x4, 20, 1⟩
/-- GLB.READY.WIN, bits 21:21, RO (spec/01_architecture.md). -/
def GLB_READY_WIN : Fld := ⟨0x4, 21, 1⟩
/-- GLB.READY.DMA, bits 22:22, RO (spec/01_architecture.md). -/
def GLB_READY_DMA : Fld := ⟨0x4, 22, 1⟩
/-- GLB.READY.TWB, bits 23:23, RO (spec/01_architecture.md). -/
def GLB_READY_TWB : Fld := ⟨0x4, 23, 1⟩
/-- GLB.READY.CPD, bits 24:24, RO (spec/01_architecture.md). -/
def GLB_READY_CPD : Fld := ⟨0x4, 24, 1⟩
/-- GLB.READY.UPD, bits 25:25, RO (spec/01_architecture.md). -/
def GLB_READY_UPD : Fld := ⟨0x4, 25, 1⟩
/-- GLB.READY.SEC, bits 26:26, RO (spec/01_architecture.md). -/
def GLB_READY_SEC : Fld := ⟨0x4, 26, 1⟩
/-- GLB.READY_LOST.LOST, bits 26:0, STK (spec/01_architecture.md). -/
def GLB_READY_LOST_LOST : Fld := ⟨0x8, 0, 27⟩
/-- GLB.ID.DEVICE, bits 15:0, RO (spec/01_architecture.md). -/
def GLB_ID_DEVICE : Fld := ⟨0x0, 0, 16⟩
/-- GLB.ID.LREV, bits 19:16, RO (spec/01_architecture.md). -/
def GLB_ID_LREV : Fld := ⟨0x0, 16, 4⟩
/-- GLB.ID.PREV, bits 23:20, RO (spec/01_architecture.md). -/
def GLB_ID_PREV : Fld := ⟨0x0, 20, 4⟩
/-- GLB.ID.FAMILY, bits 27:24, RO (spec/01_architecture.md). -/
def GLB_ID_FAMILY : Fld := ⟨0x0, 24, 4⟩
/-- CLK.PRESENT.LOOP, bits 0:0, RO (spec/04_clocks_crossings.md). -/
def CLK_PRESENT_LOOP : Fld := ⟨0x10000, 0, 1⟩
/-- CLK.PRESENT.SYS, bits 1:1, RO (spec/04_clocks_crossings.md). -/
def CLK_PRESENT_SYS : Fld := ⟨0x10000, 1, 1⟩
/-- CLK.PRESENT.HOST, bits 2:2, RO (spec/04_clocks_crossings.md). -/
def CLK_PRESENT_HOST : Fld := ⟨0x10000, 2, 1⟩
/-- CLK.PRESENT.NVA, bits 3:3, RO (spec/04_clocks_crossings.md). -/
def CLK_PRESENT_NVA : Fld := ⟨0x10000, 3, 1⟩
/-- CLK.PRESENT.NVB, bits 4:4, RO (spec/04_clocks_crossings.md). -/
def CLK_PRESENT_NVB : Fld := ⟨0x10000, 4, 1⟩
/-- CLK.PRESENT.EAST, bits 5:5, RO (spec/04_clocks_crossings.md). -/
def CLK_PRESENT_EAST : Fld := ⟨0x10000, 5, 1⟩
/-- CLK.PRESENT.WEST, bits 6:6, RO (spec/04_clocks_crossings.md). -/
def CLK_PRESENT_WEST : Fld := ⟨0x10000, 6, 1⟩
/-- CLK.PRESENT.UP, bits 7:7, RO (spec/04_clocks_crossings.md). -/
def CLK_PRESENT_UP : Fld := ⟨0x10000, 7, 1⟩
/-- CLK.PRESENT.PEER, bits 8:8, RO (spec/04_clocks_crossings.md). -/
def CLK_PRESENT_PEER : Fld := ⟨0x10000, 8, 1⟩
/-- CLK.PRESENT.SAFE, bits 9:9, RO (spec/04_clocks_crossings.md). -/
def CLK_PRESENT_SAFE : Fld := ⟨0x10000, 9, 1⟩
/-- CLK.PRESENT.PD, bits 10:10, RO (spec/04_clocks_crossings.md). -/
def CLK_PRESENT_PD : Fld := ⟨0x10000, 10, 1⟩
/-- CLK.PRESENT.RTC, bits 11:11, RO (spec/04_clocks_crossings.md). -/
def CLK_PRESENT_RTC : Fld := ⟨0x10000, 11, 1⟩
/-- CLK.PRESENT.REFCLK, bits 12:12, RO (spec/04_clocks_crossings.md). -/
def CLK_PRESENT_REFCLK : Fld := ⟨0x10000, 12, 1⟩
/-- CLK.LOST.LOST, bits 12:0, STK (spec/04_clocks_crossings.md). -/
def CLK_LOST_LOST : Fld := ⟨0x10004, 0, 13⟩
/-- CLK.CTRL.NVA_EN, bits 0:0, RW (spec/04_clocks_crossings.md). -/
def CLK_CTRL_NVA_EN : Fld := ⟨0x10008, 0, 1⟩
/-- CLK.CTRL.NVB_EN, bits 1:1, RW (spec/04_clocks_crossings.md). -/
def CLK_CTRL_NVB_EN : Fld := ⟨0x10008, 1, 1⟩
/-- CLK.CTRL.NVA_RATE, bits 2:2, RWL (spec/04_clocks_crossings.md). -/
def CLK_CTRL_NVA_RATE : Fld := ⟨0x10008, 2, 1⟩
/-- CLK.CTRL.NVB_RATE, bits 3:3, RWL (spec/04_clocks_crossings.md). -/
def CLK_CTRL_NVB_RATE : Fld := ⟨0x10008, 3, 1⟩
/-- CLK.CTRL.LOCK, bits 31:31, W1S (spec/04_clocks_crossings.md). -/
def CLK_CTRL_LOCK : Fld := ⟨0x10008, 31, 1⟩
/-- CLK.PLL.LOOP_LOCK, bits 0:0, RO (spec/04_clocks_crossings.md). -/
def CLK_PLL_LOOP_LOCK : Fld := ⟨0x1000c, 0, 1⟩
/-- CLK.PLL.SYS_LOCK, bits 1:1, RO (spec/04_clocks_crossings.md). -/
def CLK_PLL_SYS_LOCK : Fld := ⟨0x1000c, 1, 1⟩
/-- CLK.PLL.NVA_LOCK, bits 2:2, RO (spec/04_clocks_crossings.md). -/
def CLK_PLL_NVA_LOCK : Fld := ⟨0x1000c, 2, 1⟩
/-- CLK.PLL.NVB_LOCK, bits 3:3, RO (spec/04_clocks_crossings.md). -/
def CLK_PLL_NVB_LOCK : Fld := ⟨0x1000c, 3, 1⟩
/-- CLK.PLL.LOOP_UNLOCK, bits 8:8, STK (spec/04_clocks_crossings.md). -/
def CLK_PLL_LOOP_UNLOCK : Fld := ⟨0x1000c, 8, 1⟩
/-- CLK.PLL.SYS_UNLOCK, bits 9:9, STK (spec/04_clocks_crossings.md). -/
def CLK_PLL_SYS_UNLOCK : Fld := ⟨0x1000c, 9, 1⟩
/-- CLK.PLL.NVA_UNLOCK, bits 10:10, STK (spec/04_clocks_crossings.md). -/
def CLK_PLL_NVA_UNLOCK : Fld := ⟨0x1000c, 10, 1⟩
/-- CLK.PLL.NVB_UNLOCK, bits 11:11, STK (spec/04_clocks_crossings.md). -/
def CLK_PLL_NVB_UNLOCK : Fld := ⟨0x1000c, 11, 1⟩
/-- CLK.XSUM.XFLAG, bits 26:0, STK (spec/04_clocks_crossings.md). -/
def CLK_XSUM_XFLAG : Fld := ⟨0x10010, 0, 27⟩
/-- RST.CAUSE.POR, bits 0:0, STK (spec/05_startup_reset.md). -/
def RST_CAUSE_POR : Fld := ⟨0x20000, 0, 1⟩
/-- RST.CAUSE.PORST, bits 1:1, STK (spec/05_startup_reset.md). -/
def RST_CAUSE_PORST : Fld := ⟨0x20000, 1, 1⟩
/-- RST.CAUSE.SWCOLD, bits 2:2, STK (spec/05_startup_reset.md). -/
def RST_CAUSE_SWCOLD : Fld := ⟨0x20000, 2, 1⟩
/-- RST.CAUSE.WDT, bits 3:3, STK (spec/05_startup_reset.md). -/
def RST_CAUSE_WDT : Fld := ⟨0x20000, 3, 1⟩
/-- RST.CAUSE.WDKEY, bits 4:4, STK (spec/05_startup_reset.md). -/
def RST_CAUSE_WDKEY : Fld := ⟨0x20000, 4, 1⟩
/-- RST.CAUSE.SYSPLL, bits 5:5, STK (spec/05_startup_reset.md). -/
def RST_CAUSE_SYSPLL : Fld := ⟨0x20000, 5, 1⟩
/-- RST.CAUSE.SWWARM, bits 6:6, STK (spec/05_startup_reset.md). -/
def RST_CAUSE_SWWARM : Fld := ⟨0x20000, 6, 1⟩
/-- RST.CTRL.WARM, bits 0:0, WO (spec/05_startup_reset.md). -/
def RST_CTRL_WARM : Fld := ⟨0x20004, 0, 1⟩
/-- RST.CTRL.COLD, bits 1:1, WO (spec/05_startup_reset.md). -/
def RST_CTRL_COLD : Fld := ⟨0x20004, 1, 1⟩
/-- RST.CTRL.KEY, bits 31:16, WO (spec/05_startup_reset.md). -/
def RST_CTRL_KEY : Fld := ⟨0x20004, 16, 16⟩
/-- RST.BLOCK.NVA, bits 0:0, W1S (spec/05_startup_reset.md). -/
def RST_BLOCK_NVA : Fld := ⟨0x20008, 0, 1⟩
/-- RST.BLOCK.NVB, bits 1:1, W1S (spec/05_startup_reset.md). -/
def RST_BLOCK_NVB : Fld := ⟨0x20008, 1, 1⟩
/-- RST.BLOCK.EAST, bits 2:2, W1S (spec/05_startup_reset.md). -/
def RST_BLOCK_EAST : Fld := ⟨0x20008, 2, 1⟩
/-- RST.BLOCK.WEST, bits 3:3, W1S (spec/05_startup_reset.md). -/
def RST_BLOCK_WEST : Fld := ⟨0x20008, 3, 1⟩
/-- RST.BLOCK.UP, bits 4:4, W1S (spec/05_startup_reset.md). -/
def RST_BLOCK_UP : Fld := ⟨0x20008, 4, 1⟩
/-- RST.BLOCK.TW, bits 8:5, W1S (spec/05_startup_reset.md). -/
def RST_BLOCK_TW : Fld := ⟨0x20008, 5, 4⟩
/-- RST.BLOCK.HST, bits 9:9, W1S (spec/05_startup_reset.md). -/
def RST_BLOCK_HST : Fld := ⟨0x20008, 9, 1⟩
/-- RST.BLOCK.CPD, bits 10:10, W1S (spec/05_startup_reset.md). -/
def RST_BLOCK_CPD : Fld := ⟨0x20008, 10, 1⟩
/-- RST.WDT.PERIOD, bits 9:0, RWL (spec/05_startup_reset.md). -/
def RST_WDT_PERIOD : Fld := ⟨0x2000c, 0, 10⟩
/-- RST.WDT.DBG_FREEZE, bits 10:10, RWL (spec/05_startup_reset.md). -/
def RST_WDT_DBG_FREEZE : Fld := ⟨0x2000c, 10, 1⟩
/-- RST.WDT.LOCK, bits 31:31, W1S (spec/05_startup_reset.md). -/
def RST_WDT_LOCK : Fld := ⟨0x2000c, 31, 1⟩
/-- RST.WDT_SVC.KEY, bits 15:0, WO (spec/05_startup_reset.md). -/
def RST_WDT_SVC_KEY : Fld := ⟨0x20010, 0, 16⟩
/-- RST.BOOT.BANK, bits 0:0, RO (spec/05_startup_reset.md). -/
def RST_BOOT_BANK : Fld := ⟨0x20014, 0, 1⟩
/-- RST.BOOT.SLOT, bits 1:1, RO (spec/05_startup_reset.md). -/
def RST_BOOT_SLOT : Fld := ⟨0x20014, 1, 1⟩
/-- RST.BOOT.SERVICE, bits 2:2, RO (spec/05_startup_reset.md). -/
def RST_BOOT_SERVICE : Fld := ⟨0x20014, 2, 1⟩
/-- RST.BOOT.CODE, bits 15:8, RO (spec/05_startup_reset.md). -/
def RST_BOOT_CODE : Fld := ⟨0x20014, 8, 8⟩
/-- RST.STRAP.BOOTSEL, bits 1:0, RO (spec/05_startup_reset.md). -/
def RST_STRAP_BOOTSEL : Fld := ⟨0x20018, 0, 2⟩
/-- RST.STRAP.DPX_SIDE, bits 2:2, RO (spec/05_startup_reset.md). -/
def RST_STRAP_DPX_SIDE : Fld := ⟨0x20018, 2, 1⟩
/-- RST.STRAP.IO_P, bits 8:8, RO (spec/05_startup_reset.md). -/
def RST_STRAP_IO_P : Fld := ⟨0x20018, 8, 1⟩
/-- RST.STRAP.IO_H, bits 9:9, RO (spec/05_startup_reset.md). -/
def RST_STRAP_IO_H : Fld := ⟨0x20018, 9, 1⟩
/-- RST.STRAP.IO_N, bits 10:10, RO (spec/05_startup_reset.md). -/
def RST_STRAP_IO_N : Fld := ⟨0x20018, 10, 1⟩
/-- RST.STRAP.IO_T, bits 11:11, RO (spec/05_startup_reset.md). -/
def RST_STRAP_IO_T : Fld := ⟨0x20018, 11, 1⟩
/-- RST.STRAP.IO_G, bits 12:12, RO (spec/05_startup_reset.md). -/
def RST_STRAP_IO_G : Fld := ⟨0x20018, 12, 1⟩
/-- FAB.STATUS.LOADED, bits 0:0, RO (spec/06_fabric_bitstream.md). -/
def FAB_STATUS_LOADED : Fld := ⟨0x30000, 0, 1⟩
/-- FAB.STATUS.LOCKED, bits 1:1, RO (spec/06_fabric_bitstream.md). -/
def FAB_STATUS_LOCKED : Fld := ⟨0x30000, 1, 1⟩
/-- FAB.STATUS.PBUSY, bits 2:2, RO (spec/06_fabric_bitstream.md). -/
def FAB_STATUS_PBUSY : Fld := ⟨0x30000, 2, 1⟩
/-- FAB.STATUS.PDONE, bits 3:3, STK (spec/06_fabric_bitstream.md). -/
def FAB_STATUS_PDONE : Fld := ⟨0x30000, 3, 1⟩
/-- FAB.STATUS.PFAIL, bits 4:4, STK (spec/06_fabric_bitstream.md). -/
def FAB_STATUS_PFAIL : Fld := ⟨0x30000, 4, 1⟩
/-- FAB.STATUS.SCRUBBING, bits 5:5, RO (spec/06_fabric_bitstream.md). -/
def FAB_STATUS_SCRUBBING : Fld := ⟨0x30000, 5, 1⟩
/-- FAB.LOAD_ERR.CODE, bits 7:0, RO (spec/06_fabric_bitstream.md). -/
def FAB_LOAD_ERR_CODE : Fld := ⟨0x30004, 0, 8⟩
/-- FAB.LOAD_ERR.SECTION, bits 15:8, RO (spec/06_fabric_bitstream.md). -/
def FAB_LOAD_ERR_SECTION : Fld := ⟨0x30004, 8, 8⟩
/-- FAB.LOAD_ERR.ENTRY, bits 29:16, RO (spec/06_fabric_bitstream.md). -/
def FAB_LOAD_ERR_ENTRY : Fld := ⟨0x30004, 16, 14⟩
/-- FAB.LOAD_ERR.SRC, bits 30:30, RO (spec/06_fabric_bitstream.md). -/
def FAB_LOAD_ERR_SRC : Fld := ⟨0x30004, 30, 1⟩
/-- FAB.RUN_ID_LO.ID, bits 31:0, RO (spec/06_fabric_bitstream.md). -/
def FAB_RUN_ID_LO_ID : Fld := ⟨0x30008, 0, 32⟩
/-- FAB.RUN_ID_HI.ID, bits 31:0, RO (spec/06_fabric_bitstream.md). -/
def FAB_RUN_ID_HI_ID : Fld := ⟨0x3000c, 0, 32⟩
/-- FAB.VERSION.VERSION, bits 31:0, RO (spec/06_fabric_bitstream.md). -/
def FAB_VERSION_VERSION : Fld := ⟨0x30010, 0, 32⟩
/-- FAB.PLOAD.PAGE, bits 5:0, RW (spec/06_fabric_bitstream.md). -/
def FAB_PLOAD_PAGE : Fld := ⟨0x30014, 0, 6⟩
/-- FAB.PLOAD.COUNT, bits 12:8, RW (spec/06_fabric_bitstream.md). -/
def FAB_PLOAD_COUNT : Fld := ⟨0x30014, 8, 5⟩
/-- FAB.PLOAD.GO, bits 31:31, W1S (spec/06_fabric_bitstream.md). -/
def FAB_PLOAD_GO : Fld := ⟨0x30014, 31, 1⟩
/-- FAB.SWAP.BENCH, bits 15:0, RW (spec/06_fabric_bitstream.md). -/
def FAB_SWAP_BENCH : Fld := ⟨0x30018, 0, 16⟩
/-- FAB.SWAP.GO, bits 31:31, W1S (spec/06_fabric_bitstream.md). -/
def FAB_SWAP_GO : Fld := ⟨0x30018, 31, 1⟩
/-- FAB.SWAP_STAT.STATE, bits 31:0, RO (spec/06_fabric_bitstream.md). -/
def FAB_SWAP_STAT_STATE : Fld := ⟨0x3001c, 0, 32⟩
/-- FAB.PLANE.ACTIVE_TAG, bits 11:0, RO (spec/06_fabric_bitstream.md). -/
def FAB_PLANE_ACTIVE_TAG (n : Nat) : Fld := ⟨0x30100 + 0x4 * n, 0, 12⟩
/-- FAB.PLANE.SHADOW_TAG, bits 23:12, RO (spec/06_fabric_bitstream.md). -/
def FAB_PLANE_SHADOW_TAG (n : Nat) : Fld := ⟨0x30100 + 0x4 * n, 12, 12⟩
/-- FAB.PLANE.SHADOW_VALID, bits 24:24, RO (spec/06_fabric_bitstream.md). -/
def FAB_PLANE_SHADOW_VALID (n : Nat) : Fld := ⟨0x30100 + 0x4 * n, 24, 1⟩
/-- FAB.PLANE.REASON, bits 27:25, RO (spec/06_fabric_bitstream.md). -/
def FAB_PLANE_REASON (n : Nat) : Fld := ⟨0x30100 + 0x4 * n, 25, 3⟩
/-- FAB.SCRUB.CORRECTED, bits 15:0, RO (spec/06_fabric_bitstream.md). -/
def FAB_SCRUB_CORRECTED : Fld := ⟨0x30020, 0, 16⟩
/-- FAB.SCRUB.PASSES, bits 31:16, RO (spec/06_fabric_bitstream.md). -/
def FAB_SCRUB_PASSES : Fld := ⟨0x30020, 16, 16⟩
/-- FAB.DOWEL_OUT.OUT, bits 31:0, RO (spec/06_fabric_bitstream.md). -/
def FAB_DOWEL_OUT_OUT (n : Nat) : Fld := ⟨0x30040 + 0x4 * n, 0, 32⟩
/-- BEN.CTRL.SHED_EN, bits 0:0, RW (spec/07_benches_phases.md). -/
def BEN_CTRL_SHED_EN (n : Nat) : Fld := ⟨0x40000 + 0x100 * n, 0, 1⟩
/-- BEN.CTRL.NL_EN, bits 1:1, RW (spec/07_benches_phases.md). -/
def BEN_CTRL_NL_EN (n : Nat) : Fld := ⟨0x40000 + 0x100 * n, 1, 1⟩
/-- BEN.CTRL.LOCK, bits 31:31, W1S (spec/07_benches_phases.md). -/
def BEN_CTRL_LOCK (n : Nat) : Fld := ⟨0x40000 + 0x100 * n, 31, 1⟩
/-- BEN.VSET.VSET, bits 15:0, RW (spec/07_benches_phases.md). -/
def BEN_VSET_VSET (n : Nat) : Fld := ⟨0x40004 + 0x100 * n, 0, 16⟩
/-- BEN.MARGIN.MARGIN, bits 7:0, RW (spec/07_benches_phases.md). -/
def BEN_MARGIN_MARGIN (n : Nat) : Fld := ⟨0x40008 + 0x100 * n, 0, 8⟩
/-- BEN.SLEW.SLEW, bits 15:0, RWL (spec/07_benches_phases.md). -/
def BEN_SLEW_SLEW (n : Nat) : Fld := ⟨0x4000c + 0x100 * n, 0, 16⟩
/-- BEN.PERIOD.PERIOD, bits 19:0, RWL (spec/07_benches_phases.md). -/
def BEN_PERIOD_PERIOD (n : Nat) : Fld := ⟨0x40010 + 0x100 * n, 0, 20⟩
/-- BEN.KSCALE.KSCALE, bits 9:0, RWL (spec/07_benches_phases.md). -/
def BEN_KSCALE_KSCALE (n : Nat) : Fld := ⟨0x40014 + 0x100 * n, 0, 10⟩
/-- BEN.ILIM.ILIM, bits 23:0, RW (spec/07_benches_phases.md). -/
def BEN_ILIM_ILIM (n : Nat) : Fld := ⟨0x40018 + 0x100 * n, 0, 24⟩
/-- BEN.PHTHR.IADD, bits 15:0, RW (spec/07_benches_phases.md). -/
def BEN_PHTHR_IADD (n : Nat) : Fld := ⟨0x4001c + 0x100 * n, 0, 16⟩
/-- BEN.PHTHR.ISHED, bits 31:16, RW (spec/07_benches_phases.md). -/
def BEN_PHTHR_ISHED (n : Nat) : Fld := ⟨0x4001c + 0x100 * n, 16, 16⟩
/-- BEN.SHED.SHED_UPD, bits 7:0, RW (spec/07_benches_phases.md). -/
def BEN_SHED_SHED_UPD (n : Nat) : Fld := ⟨0x40020 + 0x100 * n, 0, 8⟩
/-- BEN.SHED.MINPH, bits 13:8, RWL (spec/07_benches_phases.md). -/
def BEN_SHED_MINPH (n : Nat) : Fld := ⟨0x40020 + 0x100 * n, 8, 6⟩
/-- BEN.NLBAND.NL_LO, bits 15:0, RWL (spec/07_benches_phases.md). -/
def BEN_NLBAND_NL_LO (n : Nat) : Fld := ⟨0x40024 + 0x100 * n, 0, 16⟩
/-- BEN.NLBAND.NL_HI, bits 31:16, RWL (spec/07_benches_phases.md). -/
def BEN_NLBAND_NL_HI (n : Nat) : Fld := ⟨0x40024 + 0x100 * n, 16, 16⟩
/-- BEN.NLMAX.NLMAX, bits 15:0, RWL (spec/07_benches_phases.md). -/
def BEN_NLMAX_NLMAX (n : Nat) : Fld := ⟨0x40028 + 0x100 * n, 0, 16⟩
/-- BEN.DROPCFG.DEV, bits 7:0, RWL (spec/07_benches_phases.md). -/
def BEN_DROPCFG_DEV (n : Nat) : Fld := ⟨0x4002c + 0x100 * n, 0, 8⟩
/-- BEN.CFG.TOPO, bits 0:0, RO (spec/07_benches_phases.md). -/
def BEN_CFG_TOPO (n : Nat) : Fld := ⟨0x40030 + 0x100 * n, 0, 1⟩
/-- BEN.CFG.UPDIV, bits 7:1, RO (spec/07_benches_phases.md). -/
def BEN_CFG_UPDIV (n : Nat) : Fld := ⟨0x40030 + 0x100 * n, 1, 7⟩
/-- BEN.CFG.NPLANE, bits 13:8, RO (spec/07_benches_phases.md). -/
def BEN_CFG_NPLANE (n : Nat) : Fld := ⟨0x40030 + 0x100 * n, 8, 6⟩
/-- BEN.CFG.NLREL, bits 14:14, RO (spec/07_benches_phases.md). -/
def BEN_CFG_NLREL (n : Nat) : Fld := ⟨0x40030 + 0x100 * n, 14, 1⟩
/-- BEN.CFG.STOPMODE, bits 15:15, RO (spec/07_benches_phases.md). -/
def BEN_CFG_STOPMODE (n : Nat) : Fld := ⟨0x40030 + 0x100 * n, 15, 1⟩
/-- BEN.STATUS.STATE, bits 2:0, RO (spec/07_benches_phases.md). -/
def BEN_STATUS_STATE (n : Nat) : Fld := ⟨0x40034 + 0x100 * n, 0, 3⟩
/-- BEN.STATUS.SLEWING, bits 3:3, RO (spec/07_benches_phases.md). -/
def BEN_STATUS_SLEWING (n : Nat) : Fld := ⟨0x40034 + 0x100 * n, 3, 1⟩
/-- BEN.STATUS.NL, bits 4:4, RO (spec/07_benches_phases.md). -/
def BEN_STATUS_NL (n : Nat) : Fld := ⟨0x40034 + 0x100 * n, 4, 1⟩
/-- BEN.STATUS.LIMITING, bits 5:5, RO (spec/07_benches_phases.md). -/
def BEN_STATUS_LIMITING (n : Nat) : Fld := ⟨0x40034 + 0x100 * n, 5, 1⟩
/-- BEN.STATUS.SAT, bits 6:6, RO (spec/07_benches_phases.md). -/
def BEN_STATUS_SAT (n : Nat) : Fld := ⟨0x40034 + 0x100 * n, 6, 1⟩
/-- BEN.STATUS.MARGINED, bits 7:7, RO (spec/07_benches_phases.md). -/
def BEN_STATUS_MARGINED (n : Nat) : Fld := ⟨0x40034 + 0x100 * n, 7, 1⟩
/-- BEN.STATUS.NSW, bits 13:8, RO (spec/07_benches_phases.md). -/
def BEN_STATUS_NSW (n : Nat) : Fld := ⟨0x40034 + 0x100 * n, 8, 6⟩
/-- BEN.STATUS.NHEALTHY, bits 19:14, RO (spec/07_benches_phases.md). -/
def BEN_STATUS_NHEALTHY (n : Nat) : Fld := ⟨0x40034 + 0x100 * n, 14, 6⟩
/-- BEN.STATUS.RETARGET, bits 31:24, RO (spec/07_benches_phases.md). -/
def BEN_STATUS_RETARGET (n : Nat) : Fld := ⟨0x40034 + 0x100 * n, 24, 8⟩
/-- BEN.VREF.VR, bits 15:0, RO (spec/07_benches_phases.md). -/
def BEN_VREF_VR (n : Nat) : Fld := ⟨0x40038 + 0x100 * n, 0, 16⟩
/-- BEN.VREF.VT, bits 31:16, RO (spec/07_benches_phases.md). -/
def BEN_VREF_VT (n : Nat) : Fld := ⟨0x40038 + 0x100 * n, 16, 16⟩
/-- BEN.VOUT.VOUT, bits 15:0, RO (spec/07_benches_phases.md). -/
def BEN_VOUT_VOUT (n : Nat) : Fld := ⟨0x4003c + 0x100 * n, 0, 16⟩
/-- BEN.IOUT.IOUT, bits 31:0, RO (spec/07_benches_phases.md). -/
def BEN_IOUT_IOUT (n : Nat) : Fld := ⟨0x40040 + 0x100 * n, 0, 32⟩
/-- BEN.ILIM_EFF.LIMIT, bits 23:0, RO (spec/07_benches_phases.md). -/
def BEN_ILIM_EFF_LIMIT (n : Nat) : Fld := ⟨0x40044 + 0x100 * n, 0, 24⟩
/-- BEN.ILIM_EFF.SRC, bits 26:24, RO (spec/07_benches_phases.md). -/
def BEN_ILIM_EFF_SRC (n : Nat) : Fld := ⟨0x40044 + 0x100 * n, 24, 3⟩
/-- BEN.DUTY.DUTY, bits 15:0, RO (spec/07_benches_phases.md). -/
def BEN_DUTY_DUTY (n : Nat) : Fld := ⟨0x40048 + 0x100 * n, 0, 16⟩
/-- BEN.PHACT.ACT, bits 31:0, RO (spec/07_benches_phases.md). -/
def BEN_PHACT_ACT (n : Nat) : Fld := ⟨0x4004c + 0x100 * n, 0, 32⟩
/-- BEN.PHDROP.DROP, bits 31:0, STK (spec/07_benches_phases.md). -/
def BEN_PHDROP_DROP (n : Nat) : Fld := ⟨0x40050 + 0x100 * n, 0, 32⟩
/-- BEN.HELD.VSET, bits 0:0, RO (spec/07_benches_phases.md). -/
def BEN_HELD_VSET (n : Nat) : Fld := ⟨0x40054 + 0x100 * n, 0, 1⟩
/-- BEN.HELD.MARGIN, bits 1:1, RO (spec/07_benches_phases.md). -/
def BEN_HELD_MARGIN (n : Nat) : Fld := ⟨0x40054 + 0x100 * n, 1, 1⟩
/-- BEN.HELD.SLEW, bits 2:2, RO (spec/07_benches_phases.md). -/
def BEN_HELD_SLEW (n : Nat) : Fld := ⟨0x40054 + 0x100 * n, 2, 1⟩
/-- BEN.HELD.PERIOD, bits 3:3, RO (spec/07_benches_phases.md). -/
def BEN_HELD_PERIOD (n : Nat) : Fld := ⟨0x40054 + 0x100 * n, 3, 1⟩
/-- BEN.HELD.KSCALE, bits 4:4, RO (spec/07_benches_phases.md). -/
def BEN_HELD_KSCALE (n : Nat) : Fld := ⟨0x40054 + 0x100 * n, 4, 1⟩
/-- BEN.HELD.ILIM, bits 5:5, RO (spec/07_benches_phases.md). -/
def BEN_HELD_ILIM (n : Nat) : Fld := ⟨0x40054 + 0x100 * n, 5, 1⟩
/-- BEN.HELD.PHTHR, bits 6:6, RO (spec/07_benches_phases.md). -/
def BEN_HELD_PHTHR (n : Nat) : Fld := ⟨0x40054 + 0x100 * n, 6, 1⟩
/-- BEN.HELD.SHED, bits 7:7, RO (spec/07_benches_phases.md). -/
def BEN_HELD_SHED (n : Nat) : Fld := ⟨0x40054 + 0x100 * n, 7, 1⟩
/-- BEN.HELD.NLBAND, bits 8:8, RO (spec/07_benches_phases.md). -/
def BEN_HELD_NLBAND (n : Nat) : Fld := ⟨0x40054 + 0x100 * n, 8, 1⟩
/-- BEN.HELD.NLMAX, bits 9:9, RO (spec/07_benches_phases.md). -/
def BEN_HELD_NLMAX (n : Nat) : Fld := ⟨0x40054 + 0x100 * n, 9, 1⟩
/-- BEN.HELD.DROPCFG, bits 10:10, RO (spec/07_benches_phases.md). -/
def BEN_HELD_DROPCFG (n : Nat) : Fld := ⟨0x40054 + 0x100 * n, 10, 1⟩
/-- BEN.HELD.STAGEPROT, bits 11:11, RO (spec/07_benches_phases.md). -/
def BEN_HELD_STAGEPROT (n : Nat) : Fld := ⟨0x40054 + 0x100 * n, 11, 1⟩
/-- BEN.COUNTS.OVERRULED, bits 15:0, RO (spec/07_benches_phases.md). -/
def BEN_COUNTS_OVERRULED (n : Nat) : Fld := ⟨0x40058 + 0x100 * n, 0, 16⟩
/-- BEN.COUNTS.NLCOUNT, bits 31:16, RO (spec/07_benches_phases.md). -/
def BEN_COUNTS_NLCOUNT (n : Nat) : Fld := ⟨0x40058 + 0x100 * n, 16, 16⟩
/-- PWM.STATUS.COND, bits 2:0, RO (spec/07_benches_phases.md). -/
def PWM_STATUS_COND (n : Nat) : Fld := ⟨0x50000 + 0x10 * n, 0, 3⟩
/-- PWM.STATUS.JOINED, bits 3:3, RO (spec/07_benches_phases.md). -/
def PWM_STATUS_JOINED (n : Nat) : Fld := ⟨0x50000 + 0x10 * n, 3, 1⟩
/-- PWM.STATUS.OWNER, bits 7:4, RO (spec/07_benches_phases.md). -/
def PWM_STATUS_OWNER (n : Nat) : Fld := ⟨0x50000 + 0x10 * n, 4, 4⟩
/-- PWM.STATUS.PHASE, bits 12:8, RO (spec/07_benches_phases.md). -/
def PWM_STATUS_PHASE (n : Nat) : Fld := ⟨0x50000 + 0x10 * n, 8, 5⟩
/-- PWM.STATUS.SWITCHING, bits 13:13, RO (spec/07_benches_phases.md). -/
def PWM_STATUS_SWITCHING (n : Nat) : Fld := ⟨0x50000 + 0x10 * n, 13, 1⟩
/-- PWM.STATUS.SHED, bits 14:14, RO (spec/07_benches_phases.md). -/
def PWM_STATUS_SHED (n : Nat) : Fld := ⟨0x50000 + 0x10 * n, 14, 1⟩
/-- PWM.STATUS.DROPPED, bits 15:15, RO (spec/07_benches_phases.md). -/
def PWM_STATUS_DROPPED (n : Nat) : Fld := ⟨0x50000 + 0x10 * n, 15, 1⟩
/-- PWM.STATUS.MOVING, bits 16:16, RO (spec/07_benches_phases.md). -/
def PWM_STATUS_MOVING (n : Nat) : Fld := ⟨0x50000 + 0x10 * n, 16, 1⟩
/-- PWM.OFFSET.OFFSET, bits 19:0, RO (spec/07_benches_phases.md). -/
def PWM_OFFSET_OFFSET (n : Nat) : Fld := ⟨0x50004 + 0x10 * n, 0, 20⟩
/-- PWM.ON.ON, bits 19:0, RO (spec/07_benches_phases.md). -/
def PWM_ON_ON (n : Nat) : Fld := ⟨0x50008 + 0x10 * n, 0, 20⟩
/-- ADC.RESULT.SAMPLE, bits 15:0, RO (spec/07_benches_phases.md). -/
def ADC_RESULT_SAMPLE (n : Nat) : Fld := ⟨0x60000 + 0x10 * n, 0, 16⟩
/-- ADC.RESULT.MEAN, bits 31:16, RO (spec/07_benches_phases.md). -/
def ADC_RESULT_MEAN (n : Nat) : Fld := ⟨0x60000 + 0x10 * n, 16, 16⟩
/-- ADC.STATUS.STUCK, bits 0:0, STK (spec/07_benches_phases.md). -/
def ADC_STATUS_STUCK (n : Nat) : Fld := ⟨0x60004 + 0x10 * n, 0, 1⟩
/-- ADC.STATUS.RANGE, bits 1:1, STK (spec/07_benches_phases.md). -/
def ADC_STATUS_RANGE (n : Nat) : Fld := ⟨0x60004 + 0x10 * n, 1, 1⟩
/-- ADC.STATUS.RSEL, bits 2:2, RO (spec/07_benches_phases.md). -/
def ADC_STATUS_RSEL (n : Nat) : Fld := ⟨0x60004 + 0x10 * n, 2, 1⟩
/-- ADC.STATUS.KIND, bits 4:3, RO (spec/07_benches_phases.md). -/
def ADC_STATUS_KIND (n : Nat) : Fld := ⟨0x60004 + 0x10 * n, 3, 2⟩
/-- ADC.STATUS.BENCH, bits 8:5, RO (spec/07_benches_phases.md). -/
def ADC_STATUS_BENCH (n : Nat) : Fld := ⟨0x60004 + 0x10 * n, 5, 4⟩
/-- BEN.PSCFG.PS_BIAS, bits 11:0, RWL (spec/08_stage_protection.md). -/
def BEN_PSCFG_PS_BIAS (n : Nat) : Fld := ⟨0x40060 + 0x100 * n, 0, 12⟩
/-- BEN.PSCFG.PS_PULSE, bits 20:12, RWL (spec/08_stage_protection.md). -/
def BEN_PSCFG_PS_PULSE (n : Nat) : Fld := ⟨0x40060 + 0x100 * n, 12, 9⟩
/-- BEN.PSCFG.PS_REST, bits 30:21, RWL (spec/08_stage_protection.md). -/
def BEN_PSCFG_PS_REST (n : Nat) : Fld := ⟨0x40060 + 0x100 * n, 21, 10⟩
/-- BEN.PSTHR.PS_VRISE, bits 15:0, RWL (spec/08_stage_protection.md). -/
def BEN_PSTHR_PS_VRISE (n : Nat) : Fld := ⟨0x40064 + 0x100 * n, 0, 16⟩
/-- BEN.PSTHR.PS_IBIAS, bits 23:16, RWL (spec/08_stage_protection.md). -/
def BEN_PSTHR_PS_IBIAS (n : Nat) : Fld := ⟨0x40064 + 0x100 * n, 16, 8⟩
/-- BEN.PSTHR.PS_ITRIP, bits 31:24, RWL (spec/08_stage_protection.md). -/
def BEN_PSTHR_PS_ITRIP (n : Nat) : Fld := ⟨0x40064 + 0x100 * n, 24, 8⟩
/-- BEN.PSTEST.RESULT, bits 2:0, RO (spec/08_stage_protection.md). -/
def BEN_PSTEST_RESULT (n : Nat) : Fld := ⟨0x40068 + 0x100 * n, 0, 3⟩
/-- BEN.PSTEST.PHASE, bits 7:3, RO (spec/08_stage_protection.md). -/
def BEN_PSTEST_PHASE (n : Nat) : Fld := ⟨0x40068 + 0x100 * n, 3, 5⟩
/-- BEN.PSTEST.FAILS, bits 15:8, RO (spec/08_stage_protection.md). -/
def BEN_PSTEST_FAILS (n : Nat) : Fld := ⟨0x40068 + 0x100 * n, 8, 8⟩
/-- BEN.PHLIM.IPH_LIM, bits 15:0, RW (spec/08_stage_protection.md). -/
def BEN_PHLIM_IPH_LIM (n : Nat) : Fld := ⟨0x4006c + 0x100 * n, 0, 16⟩
/-- BEN.PHLIM.IPH_TRIP, bits 31:16, RW (spec/08_stage_protection.md). -/
def BEN_PHLIM_IPH_TRIP (n : Nat) : Fld := ⟨0x4006c + 0x100 * n, 16, 16⟩
/-- BEN.OCCFG.PHOC_N, bits 7:0, RW (spec/08_stage_protection.md). -/
def BEN_OCCFG_PHOC_N (n : Nat) : Fld := ⟨0x40070 + 0x100 * n, 0, 8⟩
/-- BEN.OCCFG.OV_DB, bits 11:8, RW (spec/08_stage_protection.md). -/
def BEN_OCCFG_OV_DB (n : Nat) : Fld := ⟨0x40070 + 0x100 * n, 8, 4⟩
/-- BEN.OCCFG.UV_DB, bits 15:12, RW (spec/08_stage_protection.md). -/
def BEN_OCCFG_UV_DB (n : Nat) : Fld := ⟨0x40070 + 0x100 * n, 12, 4⟩
/-- BEN.OCCFG.LIMT, bits 31:16, RW (spec/08_stage_protection.md). -/
def BEN_OCCFG_LIMT (n : Nat) : Fld := ⟨0x40070 + 0x100 * n, 16, 16⟩
/-- BEN.ROC.RAILTRIP, bits 23:0, RW (spec/08_stage_protection.md). -/
def BEN_ROC_RAILTRIP (n : Nat) : Fld := ⟨0x40074 + 0x100 * n, 0, 24⟩
/-- BEN.FOLD.FLOOR, bits 6:0, RW (spec/08_stage_protection.md). -/
def BEN_FOLD_FLOOR (n : Nat) : Fld := ⟨0x40078 + 0x100 * n, 0, 7⟩
/-- BEN.FOLD.FBVMIN, bits 31:16, RW (spec/08_stage_protection.md). -/
def BEN_FOLD_FBVMIN (n : Nat) : Fld := ⟨0x40078 + 0x100 * n, 16, 16⟩
/-- BEN.OVUV.OVP, bits 15:0, RW (spec/08_stage_protection.md). -/
def BEN_OVUV_OVP (n : Nat) : Fld := ⟨0x4007c + 0x100 * n, 0, 16⟩
/-- BEN.OVUV.UVP, bits 31:16, RW (spec/08_stage_protection.md). -/
def BEN_OVUV_UVP (n : Nat) : Fld := ⟨0x4007c + 0x100 * n, 16, 16⟩
/-- BEN.SPCAUSE.PHOC, bits 0:0, RO (spec/08_stage_protection.md). -/
def BEN_SPCAUSE_PHOC (n : Nat) : Fld := ⟨0x40080 + 0x100 * n, 0, 1⟩
/-- BEN.SPCAUSE.PHTRIP, bits 1:1, RO (spec/08_stage_protection.md). -/
def BEN_SPCAUSE_PHTRIP (n : Nat) : Fld := ⟨0x40080 + 0x100 * n, 1, 1⟩
/-- BEN.SPCAUSE.RAILOC, bits 2:2, RO (spec/08_stage_protection.md). -/
def BEN_SPCAUSE_RAILOC (n : Nat) : Fld := ⟨0x40080 + 0x100 * n, 2, 1⟩
/-- BEN.SPCAUSE.LIMTIME, bits 3:3, RO (spec/08_stage_protection.md). -/
def BEN_SPCAUSE_LIMTIME (n : Nat) : Fld := ⟨0x40080 + 0x100 * n, 3, 1⟩
/-- BEN.SPCAUSE.OVP, bits 4:4, RO (spec/08_stage_protection.md). -/
def BEN_SPCAUSE_OVP (n : Nat) : Fld := ⟨0x40080 + 0x100 * n, 4, 1⟩
/-- BEN.SPCAUSE.UVP, bits 5:5, RO (spec/08_stage_protection.md). -/
def BEN_SPCAUSE_UVP (n : Nat) : Fld := ⟨0x40080 + 0x100 * n, 5, 1⟩
/-- BEN.PHLIMACT.LIMACT, bits 31:0, RO (spec/08_stage_protection.md). -/
def BEN_PHLIMACT_LIMACT (n : Nat) : Fld := ⟨0x40084 + 0x100 * n, 0, 32⟩
/-- BEN.LFSTAT.COUNT, bits 15:0, RO (spec/08_stage_protection.md). -/
def BEN_LFSTAT_COUNT (n : Nat) : Fld := ⟨0x40088 + 0x100 * n, 0, 16⟩
/-- BEN.LFSTAT.PENDING, bits 16:16, RO (spec/08_stage_protection.md). -/
def BEN_LFSTAT_PENDING (n : Nat) : Fld := ⟨0x40088 + 0x100 * n, 16, 1⟩
/-- BEN.LFSTAT.SLOT, bits 17:17, RO (spec/08_stage_protection.md). -/
def BEN_LFSTAT_SLOT (n : Nat) : Fld := ⟨0x40088 + 0x100 * n, 17, 1⟩
/-- BEN.LFSTAT.LOST, bits 25:18, RO (spec/08_stage_protection.md). -/
def BEN_LFSTAT_LOST (n : Nat) : Fld := ⟨0x40088 + 0x100 * n, 18, 8⟩
/-- SHR.CTRL.EN, bits 0:0, RW (spec/09_sharing_capping.md). -/
def SHR_CTRL_EN : Fld := ⟨0x80000, 0, 1⟩
/-- SHR.CTRL.POLL_EN, bits 1:1, RW (spec/09_sharing_capping.md). -/
def SHR_CTRL_POLL_EN : Fld := ⟨0x80000, 1, 1⟩
/-- SHR.CTRL.LOCK, bits 31:31, W1S (spec/09_sharing_capping.md). -/
def SHR_CTRL_LOCK : Fld := ⟨0x80000, 31, 1⟩
/-- SHR.VBUS.VBUS, bits 15:0, RW (spec/09_sharing_capping.md). -/
def SHR_VBUS_VBUS : Fld := ⟨0x80004, 0, 16⟩
/-- SHR.VBUS.VHEAD, bits 31:16, RWL (spec/09_sharing_capping.md). -/
def SHR_VBUS_VHEAD : Fld := ⟨0x80004, 16, 16⟩
/-- SHR.LOOP.KP, bits 15:0, RWL (spec/09_sharing_capping.md). -/
def SHR_LOOP_KP : Fld := ⟨0x80008, 0, 16⟩
/-- SHR.LOOP.KI, bits 31:16, RWL (spec/09_sharing_capping.md). -/
def SHR_LOOP_KI : Fld := ⟨0x80008, 16, 16⟩
/-- SHR.POLL.PERIOD, bits 7:0, RW (spec/09_sharing_capping.md). -/
def SHR_POLL_PERIOD : Fld := ⟨0x8000c, 0, 8⟩
/-- SHR.POLL.DISAGREE, bits 15:8, RW (spec/09_sharing_capping.md). -/
def SHR_POLL_DISAGREE : Fld := ⟨0x8000c, 8, 8⟩
/-- SHR.POLL.LIVEDB, bits 23:16, RWL (spec/09_sharing_capping.md). -/
def SHR_POLL_LIVEDB : Fld := ⟨0x8000c, 16, 8⟩
/-- SHR.SHARE.CODE, bits 11:0, RO (spec/09_sharing_capping.md). -/
def SHR_SHARE_CODE (n : Nat) : Fld := ⟨0x80040 + 0x4 * n, 0, 12⟩
/-- SHR.SHARE.WEIGHT, bits 23:16, RW (spec/09_sharing_capping.md). -/
def SHR_SHARE_WEIGHT (n : Nat) : Fld := ⟨0x80040 + 0x4 * n, 16, 8⟩
/-- SHR.SHARE.SAT, bits 24:24, RO (spec/09_sharing_capping.md). -/
def SHR_SHARE_SAT (n : Nat) : Fld := ⟨0x80040 + 0x4 * n, 24, 1⟩
/-- SHR.ITOTAL.ICMD, bits 23:0, RO (spec/09_sharing_capping.md). -/
def SHR_ITOTAL_ICMD : Fld := ⟨0x80010, 0, 24⟩
/-- SHR.ITOTAL.CEIL, bits 24:24, RO (spec/09_sharing_capping.md). -/
def SHR_ITOTAL_CEIL : Fld := ⟨0x80010, 24, 1⟩
/-- SHR.STATE.LIVE, bits 1:0, RO (spec/09_sharing_capping.md). -/
def SHR_STATE_LIVE (n : Nat) : Fld := ⟨0x80100 + 0x10 * n, 0, 2⟩
/-- SHR.STATE.MGMT, bits 3:2, RO (spec/09_sharing_capping.md). -/
def SHR_STATE_MGMT (n : Nat) : Fld := ⟨0x80100 + 0x10 * n, 2, 2⟩
/-- SHR.STATE.EFF, bits 5:4, RO (spec/09_sharing_capping.md). -/
def SHR_STATE_EFF (n : Nat) : Fld := ⟨0x80100 + 0x10 * n, 4, 2⟩
/-- SHR.STATE.STALE, bits 6:6, RO (spec/09_sharing_capping.md). -/
def SHR_STATE_STALE (n : Nat) : Fld := ⟨0x80100 + 0x10 * n, 6, 1⟩
/-- SHR.STATE.DIFF, bits 7:7, RO (spec/09_sharing_capping.md). -/
def SHR_STATE_DIFF (n : Nat) : Fld := ⟨0x80100 + 0x10 * n, 7, 1⟩
/-- SHR.STATE.DCOUNT, bits 15:8, RO (spec/09_sharing_capping.md). -/
def SHR_STATE_DCOUNT (n : Nat) : Fld := ⟨0x80100 + 0x10 * n, 8, 8⟩
/-- SHR.STATE.GROUP, bits 18:16, RO (spec/09_sharing_capping.md). -/
def SHR_STATE_GROUP (n : Nat) : Fld := ⟨0x80100 + 0x10 * n, 16, 3⟩
/-- SHR.IOUT.LIVE, bits 15:0, RO (spec/09_sharing_capping.md). -/
def SHR_IOUT_LIVE (n : Nat) : Fld := ⟨0x80104 + 0x10 * n, 0, 16⟩
/-- SHR.IOUT.PMBUS, bits 31:16, RO (spec/09_sharing_capping.md). -/
def SHR_IOUT_PMBUS (n : Nat) : Fld := ⟨0x80104 + 0x10 * n, 16, 16⟩
/-- SHR.COUNTS.OVERRULED, bits 15:0, RO (spec/09_sharing_capping.md). -/
def SHR_COUNTS_OVERRULED : Fld := ⟨0x80014, 0, 16⟩
/-- SHR.COUNTS.DISAGREE_EV, bits 31:16, RO (spec/09_sharing_capping.md). -/
def SHR_COUNTS_DISAGREE_EV : Fld := ⟨0x80014, 16, 16⟩
/-- CAP.CTRL.EN, bits 0:0, RW (spec/09_sharing_capping.md). -/
def CAP_CTRL_EN : Fld := ⟨0x90000, 0, 1⟩
/-- CAP.CTRL.BATT_EN, bits 1:1, RW (spec/09_sharing_capping.md). -/
def CAP_CTRL_BATT_EN : Fld := ⟨0x90000, 1, 1⟩
/-- CAP.CTRL.SHED_EN, bits 2:2, RW (spec/09_sharing_capping.md). -/
def CAP_CTRL_SHED_EN : Fld := ⟨0x90000, 2, 1⟩
/-- CAP.CTRL.MANAGER, bits 3:3, RO (spec/09_sharing_capping.md). -/
def CAP_CTRL_MANAGER : Fld := ⟨0x90000, 3, 1⟩
/-- CAP.CTRL.THR_USE, bits 11:4, RWL (spec/09_sharing_capping.md). -/
def CAP_CTRL_THR_USE : Fld := ⟨0x90000, 4, 8⟩
/-- CAP.CTRL.LOCK, bits 31:31, W1S (spec/09_sharing_capping.md). -/
def CAP_CTRL_LOCK : Fld := ⟨0x90000, 31, 1⟩
/-- CAP.PCAP.VALUE, bits 31:0, RW (spec/09_sharing_capping.md). -/
def CAP_PCAP_VALUE : Fld := ⟨0x90004, 0, 32⟩
/-- CAP.RACKCAP.VALUE, bits 31:0, RW (spec/09_sharing_capping.md). -/
def CAP_RACKCAP_VALUE : Fld := ⟨0x90008, 0, 32⟩
/-- CAP.PBATMAX.VALUE, bits 31:0, RW (spec/09_sharing_capping.md). -/
def CAP_PBATMAX_VALUE : Fld := ⟨0x9000c, 0, 32⟩
/-- CAP.EGUARD.EGUARD, bits 31:0, RW (spec/09_sharing_capping.md). -/
def CAP_EGUARD_EGUARD : Fld := ⟨0x90010, 0, 32⟩
/-- CAP.PASSIGN.PASSIGN, bits 31:0, RO (spec/09_sharing_capping.md). -/
def CAP_PASSIGN_PASSIGN : Fld := ⟨0x90014, 0, 32⟩
/-- CAP.TIMING.HYST, bits 5:0, RW (spec/09_sharing_capping.md). -/
def CAP_TIMING_HYST : Fld := ⟨0x90018, 0, 6⟩
/-- CAP.TIMING.THRSTEP, bits 15:6, RW (spec/09_sharing_capping.md). -/
def CAP_TIMING_THRSTEP : Fld := ⟨0x90018, 6, 10⟩
/-- CAP.TIMING.SHEDDELAY, bits 31:16, RW (spec/09_sharing_capping.md). -/
def CAP_TIMING_SHEDDELAY : Fld := ⟨0x90018, 16, 16⟩
/-- CAP.RELEASE.RELEASE, bits 15:0, RW (spec/09_sharing_capping.md). -/
def CAP_RELEASE_RELEASE : Fld := ⟨0x9001c, 0, 16⟩
/-- CAP.PDRAW.VALUE, bits 31:0, RO (spec/09_sharing_capping.md). -/
def CAP_PDRAW_VALUE : Fld := ⟨0x90020, 0, 32⟩
/-- CAP.PLOAD.VALUE, bits 31:0, RO (spec/09_sharing_capping.md). -/
def CAP_PLOAD_VALUE : Fld := ⟨0x90024, 0, 32⟩
/-- CAP.PBATT.VALUE, bits 31:0, RO (spec/09_sharing_capping.md). -/
def CAP_PBATT_VALUE : Fld := ⟨0x90028, 0, 32⟩
/-- CAP.STATUS.STEP1, bits 0:0, RO (spec/09_sharing_capping.md). -/
def CAP_STATUS_STEP1 : Fld := ⟨0x9002c, 0, 1⟩
/-- CAP.STATUS.STEP2, bits 1:1, RO (spec/09_sharing_capping.md). -/
def CAP_STATUS_STEP2 : Fld := ⟨0x9002c, 1, 1⟩
/-- CAP.STATUS.STEP3, bits 2:2, RO (spec/09_sharing_capping.md). -/
def CAP_STATUS_STEP3 : Fld := ⟨0x9002c, 2, 1⟩
/-- CAP.STATUS.MISS, bits 3:3, RO (spec/09_sharing_capping.md). -/
def CAP_STATUS_MISS : Fld := ⟨0x9002c, 3, 1⟩
/-- CAP.STATUS.LINKHOLD, bits 4:4, RO (spec/09_sharing_capping.md). -/
def CAP_STATUS_LINKHOLD : Fld := ⟨0x9002c, 4, 1⟩
/-- CAP.STATUS.THR, bits 15:8, RO (spec/09_sharing_capping.md). -/
def CAP_STATUS_THR : Fld := ⟨0x9002c, 8, 8⟩
/-- CAP.STATUS.SHED, bits 31:16, RO (spec/09_sharing_capping.md). -/
def CAP_STATUS_SHED : Fld := ⟨0x9002c, 16, 16⟩
/-- CAP.FORCE.THR, bits 7:0, RW (spec/09_sharing_capping.md). -/
def CAP_FORCE_THR : Fld := ⟨0x90030, 0, 8⟩
/-- CAP.FORCE.SHED, bits 23:8, RW (spec/09_sharing_capping.md). -/
def CAP_FORCE_SHED : Fld := ⟨0x90030, 8, 16⟩
/-- CAP.BLIM.LIMIT, bits 23:0, RW (spec/09_sharing_capping.md). -/
def CAP_BLIM_LIMIT (n : Nat) : Fld := ⟨0x90100 + 0x4 * n, 0, 24⟩
/-- CAP.BLIM.GROUP, bits 26:24, RWL (spec/09_sharing_capping.md). -/
def CAP_BLIM_GROUP (n : Nat) : Fld := ⟨0x90100 + 0x4 * n, 24, 3⟩
/-- CAP.BLIM.BOUND, bits 27:27, RWL (spec/09_sharing_capping.md). -/
def CAP_BLIM_BOUND (n : Nat) : Fld := ⟨0x90100 + 0x4 * n, 27, 1⟩
/-- CAP.COUNTS.OVERRULED, bits 15:0, RO (spec/09_sharing_capping.md). -/
def CAP_COUNTS_OVERRULED : Fld := ⟨0x90034, 0, 16⟩
/-- CAP.COUNTS.THREV, bits 23:16, RO (spec/09_sharing_capping.md). -/
def CAP_COUNTS_THREV : Fld := ⟨0x90034, 16, 8⟩
/-- CAP.COUNTS.SHEDEV, bits 31:24, RO (spec/09_sharing_capping.md). -/
def CAP_COUNTS_SHEDEV : Fld := ⟨0x90034, 24, 8⟩
/-- ENG.CTRL.AUDIT_EN, bits 0:0, RW (spec/10_energy_landing.md). -/
def ENG_CTRL_AUDIT_EN : Fld := ⟨0xa0000, 0, 1⟩
/-- ENG.CTRL.ACTIVE, bits 1:1, RW (spec/10_energy_landing.md). -/
def ENG_CTRL_ACTIVE : Fld := ⟨0xa0000, 1, 1⟩
/-- ENG.CTRL.LOCK, bits 31:31, W1S (spec/10_energy_landing.md). -/
def ENG_CTRL_LOCK : Fld := ⟨0xa0000, 31, 1⟩
/-- ENG.STATUS.STATE, bits 2:0, RO (spec/10_energy_landing.md). -/
def ENG_STATUS_STATE : Fld := ⟨0xa0004, 0, 3⟩
/-- ENG.STATUS.INPUT, bits 3:3, RO (spec/10_energy_landing.md). -/
def ENG_STATUS_INPUT : Fld := ⟨0xa0004, 3, 1⟩
/-- ENG.STATUS.PFW, bits 4:4, RO (spec/10_energy_landing.md). -/
def ENG_STATUS_PFW : Fld := ⟨0xa0004, 4, 1⟩
/-- ENG.STATUS.EXHAUST, bits 5:5, RO (spec/10_energy_landing.md). -/
def ENG_STATUS_EXHAUST : Fld := ⟨0xa0004, 5, 1⟩
/-- ENG.STATUS.LINES, bits 15:8, RO (spec/10_energy_landing.md). -/
def ENG_STATUS_LINES : Fld := ⟨0xa0004, 8, 8⟩
/-- ENG.STATUS.LOSTBY, bits 18:16, RO (spec/10_energy_landing.md). -/
def ENG_STATUS_LOSTBY : Fld := ⟨0xa0004, 16, 3⟩
/-- ENG.LAND.MARGIN, bits 7:0, RW (spec/10_energy_landing.md). -/
def ENG_LAND_MARGIN : Fld := ⟨0xa0008, 0, 8⟩
/-- ENG.LAND.REPRIEVE, bits 13:8, RW (spec/10_energy_landing.md). -/
def ENG_LAND_REPRIEVE : Fld := ⟨0xa0008, 8, 6⟩
/-- ENG.LAND.HYST, bits 18:14, RW (spec/10_energy_landing.md). -/
def ENG_LAND_HYST : Fld := ⟨0xa0008, 14, 5⟩
/-- ENG.EDOWN.EDOWN, bits 31:0, RW (spec/10_energy_landing.md). -/
def ENG_EDOWN_EDOWN : Fld := ⟨0xa000c, 0, 32⟩
/-- ENG.INPUT.VFAIL, bits 15:0, RW (spec/10_energy_landing.md). -/
def ENG_INPUT_VFAIL : Fld := ⟨0xa0010, 0, 16⟩
/-- ENG.INPUT.FAILDB, bits 23:16, RW (spec/10_energy_landing.md). -/
def ENG_INPUT_FAILDB : Fld := ⟨0xa0010, 16, 8⟩
/-- ENG.INPUT.RETURNDB, bits 31:24, RW (spec/10_energy_landing.md). -/
def ENG_INPUT_RETURNDB : Fld := ⟨0xa0010, 24, 8⟩
/-- ENG.PHOLD.PHOLD, bits 12:0, RW (spec/10_energy_landing.md). -/
def ENG_PHOLD_PHOLD : Fld := ⟨0xa0014, 0, 13⟩
/-- ENG.TLAND.TLAND, bits 13:0, RW (spec/10_energy_landing.md). -/
def ENG_TLAND_TLAND (n : Nat) : Fld := ⟨0xa0100 + 0x10 * n, 0, 14⟩
/-- ENG.TLAND.USED, bits 31:31, RO (spec/10_energy_landing.md). -/
def ENG_TLAND_USED (n : Nat) : Fld := ⟨0xa0100 + 0x10 * n, 31, 1⟩
/-- ENG.PFLOOR.VALUE, bits 31:0, RW (spec/10_energy_landing.md). -/
def ENG_PFLOOR_VALUE (n : Nat) : Fld := ⟨0xa0104 + 0x10 * n, 0, 32⟩
/-- ENG.PLAND.VALUE, bits 31:0, RO (spec/10_energy_landing.md). -/
def ENG_PLAND_VALUE (n : Nat) : Fld := ⟨0xa0108 + 0x10 * n, 0, 32⟩
/-- ENG.PNONLAND.VALUE, bits 31:0, RO (spec/10_energy_landing.md). -/
def ENG_PNONLAND_VALUE : Fld := ⟨0xa0018, 0, 32⟩
/-- ENG.EAVAIL_LO.VALUE, bits 31:0, RO (spec/10_energy_landing.md). -/
def ENG_EAVAIL_LO_VALUE : Fld := ⟨0xa001c, 0, 32⟩
/-- ENG.EAVAIL_HI.VALUE, bits 31:0, RO (spec/10_energy_landing.md). -/
def ENG_EAVAIL_HI_VALUE : Fld := ⟨0xa0020, 0, 32⟩
/-- ENG.EBAT_LO.VALUE, bits 31:0, RO (spec/10_energy_landing.md). -/
def ENG_EBAT_LO_VALUE : Fld := ⟨0xa0024, 0, 32⟩
/-- ENG.EBAT_HI.VALUE, bits 31:0, RO (spec/10_energy_landing.md). -/
def ENG_EBAT_HI_VALUE : Fld := ⟨0xa0028, 0, 32⟩
/-- ENG.ECAP.VALUE, bits 31:0, RO (spec/10_energy_landing.md). -/
def ENG_ECAP_VALUE : Fld := ⟨0xa002c, 0, 32⟩
/-- ENG.ERECT.VALUE, bits 31:0, RO (spec/10_energy_landing.md). -/
def ENG_ERECT_VALUE : Fld := ⟨0xa0030, 0, 32⟩
/-- ENG.EREQ.VALUE, bits 31:0, RO (spec/10_energy_landing.md). -/
def ENG_EREQ_VALUE : Fld := ⟨0xa0034, 0, 32⟩
/-- ENG.ESHORT.VALUE, bits 31:0, RO (spec/10_energy_landing.md). -/
def ENG_ESHORT_VALUE : Fld := ⟨0xa0038, 0, 32⟩
/-- ENG.BUDGET.H, bits 31:0, RO (spec/10_energy_landing.md). -/
def ENG_BUDGET_H : Fld := ⟨0xa003c, 0, 32⟩
/-- ENG.PDIS.PDIS, bits 31:0, RO (spec/10_energy_landing.md). -/
def ENG_PDIS_PDIS : Fld := ⟨0xa0040, 0, 32⟩
/-- ENG.TWARN_LO.TICK, bits 31:0, RO (spec/10_energy_landing.md). -/
def ENG_TWARN_LO_TICK : Fld := ⟨0xa0044, 0, 32⟩
/-- ENG.TWARN_HI.TICK, bits 31:0, RO (spec/10_energy_landing.md). -/
def ENG_TWARN_HI_TICK : Fld := ⟨0xa0048, 0, 32⟩
/-- ENG.AUDITCFG.IMIN, bits 15:0, RW (spec/10_energy_landing.md). -/
def ENG_AUDITCFG_IMIN : Fld := ⟨0xa004c, 0, 16⟩
/-- ENG.AUDITCFG.WIN, bits 24:16, RW (spec/10_energy_landing.md). -/
def ENG_AUDITCFG_WIN : Fld := ⟨0xa004c, 16, 9⟩
/-- ENG.AUDITCFG.PERIOD, bits 31:25, RW (spec/10_energy_landing.md). -/
def ENG_AUDITCFG_PERIOD : Fld := ⟨0xa004c, 25, 7⟩
/-- ENG.CAUDIT.CEST, bits 23:0, RO (spec/10_energy_landing.md). -/
def ENG_CAUDIT_CEST (n : Nat) : Fld := ⟨0xa0200 + 0x8 * n, 0, 24⟩
/-- ENG.CAUDIT.N, bits 30:24, RO (spec/10_energy_landing.md). -/
def ENG_CAUDIT_N (n : Nat) : Fld := ⟨0xa0200 + 0x8 * n, 24, 7⟩
/-- ENG.CAUDIT.DONE, bits 31:31, RO (spec/10_energy_landing.md). -/
def ENG_CAUDIT_DONE (n : Nat) : Fld := ⟨0xa0200 + 0x8 * n, 31, 1⟩
/-- ENG.CUSE.CUSE, bits 23:0, RO (spec/10_energy_landing.md). -/
def ENG_CUSE_CUSE (n : Nat) : Fld := ⟨0xa0204 + 0x8 * n, 0, 24⟩
/-- ENG.CUSE.UC, bits 31:24, RO (spec/10_energy_landing.md). -/
def ENG_CUSE_UC (n : Nat) : Fld := ⟨0xa0204 + 0x8 * n, 24, 8⟩
/-- ENG.COUNTS.OVERRULED, bits 15:0, RO (spec/10_energy_landing.md). -/
def ENG_COUNTS_OVERRULED : Fld := ⟨0xa0050, 0, 16⟩
/-- ENG.COUNTS.WARNINGS, bits 23:16, RO (spec/10_energy_landing.md). -/
def ENG_COUNTS_WARNINGS : Fld := ⟨0xa0050, 16, 8⟩
/-- ENG.COUNTS.REPRIEVES, bits 31:24, RO (spec/10_energy_landing.md). -/
def ENG_COUNTS_REPRIEVES : Fld := ⟨0xa0050, 24, 8⟩
/-- MON.RESULT.CODE, bits 15:0, RO (spec/11_sequencing.md). -/
def MON_RESULT_CODE (n : Nat) : Fld := ⟨0x70000 + 0x10 * n, 0, 16⟩
/-- MON.RESULT.RAILV, bits 31:16, RO (spec/11_sequencing.md). -/
def MON_RESULT_RAILV (n : Nat) : Fld := ⟨0x70000 + 0x10 * n, 16, 16⟩
/-- MON.WIN.LO, bits 11:0, RW (spec/11_sequencing.md). -/
def MON_WIN_LO (n : Nat) : Fld := ⟨0x70004 + 0x10 * n, 0, 12⟩
/-- MON.WIN.HI, bits 27:16, RW (spec/11_sequencing.md). -/
def MON_WIN_HI (n : Nat) : Fld := ⟨0x70004 + 0x10 * n, 16, 12⟩
/-- MON.WIN.BELOW, bits 28:28, RO (spec/11_sequencing.md). -/
def MON_WIN_BELOW (n : Nat) : Fld := ⟨0x70004 + 0x10 * n, 28, 1⟩
/-- MON.WIN.ABOVE, bits 29:29, RO (spec/11_sequencing.md). -/
def MON_WIN_ABOVE (n : Nat) : Fld := ⟨0x70004 + 0x10 * n, 29, 1⟩
/-- MON.WIN.FAST, bits 30:30, RO (spec/11_sequencing.md). -/
def MON_WIN_FAST (n : Nat) : Fld := ⟨0x70004 + 0x10 * n, 30, 1⟩
/-- MON.HVM.RESULT.V, bits 15:0, RO (spec/11_sequencing.md). -/
def MON_HVM_RESULT_V (n : Nat) : Fld := ⟨0x70400 + 0x4 * n, 0, 16⟩
/-- MON.HVM.RESULT.BELOW, bits 16:16, RO (spec/11_sequencing.md). -/
def MON_HVM_RESULT_BELOW (n : Nat) : Fld := ⟨0x70400 + 0x4 * n, 16, 1⟩
/-- MON.HVM.RESULT.ABOVE, bits 17:17, RO (spec/11_sequencing.md). -/
def MON_HVM_RESULT_ABOVE (n : Nat) : Fld := ⟨0x70400 + 0x4 * n, 17, 1⟩
/-- MON.HVM.WIN.LO, bits 15:0, RW (spec/11_sequencing.md). -/
def MON_HVM_WIN_LO (n : Nat) : Fld := ⟨0x70420 + 0x4 * n, 0, 16⟩
/-- MON.HVM.WIN.HI, bits 31:16, RW (spec/11_sequencing.md). -/
def MON_HVM_WIN_HI (n : Nat) : Fld := ⟨0x70420 + 0x4 * n, 16, 16⟩
/-- SEQ.CTRL.FFCLAMP, bits 0:0, RWL (spec/11_sequencing.md). -/
def SEQ_CTRL_FFCLAMP : Fld := ⟨0xc0000, 0, 1⟩
/-- SEQ.CTRL.LOCK, bits 31:31, W1S (spec/11_sequencing.md). -/
def SEQ_CTRL_LOCK : Fld := ⟨0xc0000, 31, 1⟩
/-- SEQ.REQ.ON, bits 15:0, W1S (spec/11_sequencing.md). -/
def SEQ_REQ_ON : Fld := ⟨0xc0004, 0, 16⟩
/-- SEQ.REQ.OFF, bits 31:16, W1S (spec/11_sequencing.md). -/
def SEQ_REQ_OFF : Fld := ⟨0xc0004, 16, 16⟩
/-- SEQ.AUTO.ON, bits 15:0, RWL (spec/11_sequencing.md). -/
def SEQ_AUTO_ON : Fld := ⟨0xc0008, 0, 16⟩
/-- SEQ.REQUAL.REQUAL, bits 15:0, RW (spec/11_sequencing.md). -/
def SEQ_REQUAL_REQUAL : Fld := ⟨0xc000c, 0, 16⟩
/-- SEQ.REQUAL.MSETTLE, bits 31:16, RW (spec/11_sequencing.md). -/
def SEQ_REQUAL_MSETTLE : Fld := ⟨0xc000c, 16, 16⟩
/-- SEQ.ENGSET.GROUPS, bits 15:0, RO (spec/11_sequencing.md). -/
def SEQ_ENGSET_GROUPS : Fld := ⟨0xc0010, 0, 16⟩
/-- SEQ.STAT.STATE, bits 2:0, RO (spec/11_sequencing.md). -/
def SEQ_STAT_STATE (n : Nat) : Fld := ⟨0xc0100 + 0x8 * n, 0, 3⟩
/-- SEQ.STAT.REQON, bits 3:3, RO (spec/11_sequencing.md). -/
def SEQ_STAT_REQON (n : Nat) : Fld := ⟨0xc0100 + 0x8 * n, 3, 1⟩
/-- SEQ.MARGIN.MARGIN, bits 7:0, RW (spec/11_sequencing.md). -/
def SEQ_MARGIN_MARGIN (n : Nat) : Fld := ⟨0xc0104 + 0x8 * n, 0, 8⟩
/-- SEQ.STATE.STATE, bits 2:0, RO (spec/11_sequencing.md). -/
def SEQ_STATE_STATE (n : Nat) : Fld := ⟨0xc1000 + 0x4 * n, 0, 3⟩
/-- SEQ.STATE.REASON, bits 4:3, RO (spec/11_sequencing.md). -/
def SEQ_STATE_REASON (n : Nat) : Fld := ⟨0xc1000 + 0x4 * n, 3, 2⟩
/-- SEQ.STATE.WARN, bits 5:5, RO (spec/11_sequencing.md). -/
def SEQ_STATE_WARN (n : Nat) : Fld := ⟨0xc1000 + 0x4 * n, 5, 1⟩
/-- SEQ.STATE.FAILMARK, bits 6:6, STK (spec/11_sequencing.md). -/
def SEQ_STATE_FAILMARK (n : Nat) : Fld := ⟨0xc1000 + 0x4 * n, 6, 1⟩
/-- SEQ.STATE.STARTF, bits 7:7, STK (spec/11_sequencing.md). -/
def SEQ_STATE_STARTF (n : Nat) : Fld := ⟨0xc1000 + 0x4 * n, 7, 1⟩
/-- SEQ.STATE.STOPF, bits 8:8, STK (spec/11_sequencing.md). -/
def SEQ_STATE_STOPF (n : Nat) : Fld := ⟨0xc1000 + 0x4 * n, 8, 1⟩
/-- SEQ.STATE.KIND, bits 11:9, RO (spec/11_sequencing.md). -/
def SEQ_STATE_KIND (n : Nat) : Fld := ⟨0xc1000 + 0x4 * n, 9, 3⟩
/-- SEQ.STATE.GROUP, bits 15:12, RO (spec/11_sequencing.md). -/
def SEQ_STATE_GROUP (n : Nat) : Fld := ⟨0xc1000 + 0x4 * n, 12, 4⟩
/-- SEQ.STATE.READING, bits 31:16, RO (spec/11_sequencing.md). -/
def SEQ_STATE_READING (n : Nat) : Fld := ⟨0xc1000 + 0x4 * n, 16, 16⟩
/-- SEQ.FFSTAT.RAIL, bits 9:0, RO (spec/11_sequencing.md). -/
def SEQ_FFSTAT_RAIL : Fld := ⟨0xc0014, 0, 10⟩
/-- SEQ.FFSTAT.ARMED, bits 10:10, RO (spec/11_sequencing.md). -/
def SEQ_FFSTAT_ARMED : Fld := ⟨0xc0014, 10, 1⟩
/-- SEQ.FFSTAT.PENDING, bits 13:11, RO (spec/11_sequencing.md). -/
def SEQ_FFSTAT_PENDING : Fld := ⟨0xc0014, 11, 3⟩
/-- SEQ.FFSTAT.LOST, bits 23:16, RO (spec/11_sequencing.md). -/
def SEQ_FFSTAT_LOST : Fld := ⟨0xc0014, 16, 8⟩
/-- SEQ.FFSTAT.COUNT, bits 31:24, RO (spec/11_sequencing.md). -/
def SEQ_FFSTAT_COUNT : Fld := ⟨0xc0014, 24, 8⟩
/-- SEQ.REMOTE.STALE, bits 15:0, RO (spec/11_sequencing.md). -/
def SEQ_REMOTE_STALE : Fld := ⟨0xc0018, 0, 16⟩
/-- SEQ.COUNTS.OVERRULED, bits 15:0, RO (spec/11_sequencing.md). -/
def SEQ_COUNTS_OVERRULED : Fld := ⟨0xc001c, 0, 16⟩
/-- SEQ.COUNTS.REFUSED, bits 31:16, RO (spec/11_sequencing.md). -/
def SEQ_COUNTS_REFUSED : Fld := ⟨0xc001c, 16, 16⟩
/-- HSW.CTRL.EN, bits 0:0, RW (spec/12_hot_swap_slots.md). -/
def HSW_CTRL_EN (n : Nat) : Fld := ⟨0xd0000 + 0x40 * n, 0, 1⟩
/-- HSW.CTRL.AUTORETRY, bits 1:1, RWL (spec/12_hot_swap_slots.md). -/
def HSW_CTRL_AUTORETRY (n : Nat) : Fld := ⟨0xd0000 + 0x40 * n, 1, 1⟩
/-- HSW.CTRL.UNLOCK, bits 2:2, W1S (spec/12_hot_swap_slots.md). -/
def HSW_CTRL_UNLOCK (n : Nat) : Fld := ⟨0xd0000 + 0x40 * n, 2, 1⟩
/-- HSW.CTRL.LOCK, bits 31:31, W1S (spec/12_hot_swap_slots.md). -/
def HSW_CTRL_LOCK (n : Nat) : Fld := ⟨0xd0000 + 0x40 * n, 31, 1⟩
/-- HSW.CFG.PRESENT, bits 0:0, RO (spec/12_hot_swap_slots.md). -/
def HSW_CFG_PRESENT (n : Nat) : Fld := ⟨0xd0004 + 0x40 * n, 0, 1⟩
/-- HSW.CFG.SEQOWN, bits 1:1, RO (spec/12_hot_swap_slots.md). -/
def HSW_CFG_SEQOWN (n : Nat) : Fld := ⟨0xd0004 + 0x40 * n, 1, 1⟩
/-- HSW.CFG.PRIO, bits 5:2, RO (spec/12_hot_swap_slots.md). -/
def HSW_CFG_PRIO (n : Nat) : Fld := ⟨0xd0004 + 0x40 * n, 2, 4⟩
/-- HSW.CFG.KERF, bits 14:6, RO (spec/12_hot_swap_slots.md). -/
def HSW_CFG_KERF (n : Nat) : Fld := ⟨0xd0004 + 0x40 * n, 6, 9⟩
/-- HSW.CFG.IGATE, bits 24:15, RO (spec/12_hot_swap_slots.md). -/
def HSW_CFG_IGATE (n : Nat) : Fld := ⟨0xd0004 + 0x40 * n, 15, 10⟩
/-- HSW.ILIM.IINRUSH, bits 15:0, RW (spec/12_hot_swap_slots.md). -/
def HSW_ILIM_IINRUSH (n : Nat) : Fld := ⟨0xd0008 + 0x40 * n, 0, 16⟩
/-- HSW.ILIM.IOC, bits 31:16, RW (spec/12_hot_swap_slots.md). -/
def HSW_ILIM_IOC (n : Nat) : Fld := ⟨0xd0008 + 0x40 * n, 16, 16⟩
/-- HSW.SOA.PSOA, bits 15:0, RW (spec/12_hot_swap_slots.md). -/
def HSW_SOA_PSOA (n : Nat) : Fld := ⟨0xd000c + 0x40 * n, 0, 16⟩
/-- HSW.SOA.TSOA, bits 31:16, RW (spec/12_hot_swap_slots.md). -/
def HSW_SOA_TSOA (n : Nat) : Fld := ⟨0xd000c + 0x40 * n, 16, 16⟩
/-- HSW.TIMES.TOC, bits 7:0, RW (spec/12_hot_swap_slots.md). -/
def HSW_TIMES_TOC (n : Nat) : Fld := ⟨0xd0010 + 0x40 * n, 0, 8⟩
/-- HSW.TIMES.TRAMP, bits 15:8, RW (spec/12_hot_swap_slots.md). -/
def HSW_TIMES_TRAMP (n : Nat) : Fld := ⟨0xd0010 + 0x40 * n, 8, 8⟩
/-- HSW.TIMES.PGDELAY, bits 23:16, RW (spec/12_hot_swap_slots.md). -/
def HSW_TIMES_PGDELAY (n : Nat) : Fld := ⟨0xd0010 + 0x40 * n, 16, 8⟩
/-- HSW.TIMES.TSEAT, bits 31:24, RW (spec/12_hot_swap_slots.md). -/
def HSW_TIMES_TSEAT (n : Nat) : Fld := ⟨0xd0010 + 0x40 * n, 24, 8⟩
/-- HSW.FET.VDSMAX, bits 11:0, RW (spec/12_hot_swap_slots.md). -/
def HSW_FET_VDSMAX (n : Nat) : Fld := ⟨0xd0014 + 0x40 * n, 0, 12⟩
/-- HSW.FET.FETDB, bits 19:12, RW (spec/12_hot_swap_slots.md). -/
def HSW_FET_FETDB (n : Nat) : Fld := ⟨0xd0014 + 0x40 * n, 12, 8⟩
/-- HSW.FET.ICHECK, bits 31:20, RW (spec/12_hot_swap_slots.md). -/
def HSW_FET_ICHECK (n : Nat) : Fld := ⟨0xd0014 + 0x40 * n, 20, 12⟩
/-- HSW.RETRY.TRETRY, bits 11:0, RW (spec/12_hot_swap_slots.md). -/
def HSW_RETRY_TRETRY (n : Nat) : Fld := ⟨0xd0018 + 0x40 * n, 0, 12⟩
/-- HSW.RETRY.NRETRY, bits 15:12, RW (spec/12_hot_swap_slots.md). -/
def HSW_RETRY_NRETRY (n : Nat) : Fld := ⟨0xd0018 + 0x40 * n, 12, 4⟩
/-- HSW.RETRY.TCLEAN, bits 31:16, RW (spec/12_hot_swap_slots.md). -/
def HSW_RETRY_TCLEAN (n : Nat) : Fld := ⟨0xd0018 + 0x40 * n, 16, 16⟩
/-- HSW.STATUS.STATE, bits 3:0, RO (spec/12_hot_swap_slots.md). -/
def HSW_STATUS_STATE (n : Nat) : Fld := ⟨0xd001c + 0x40 * n, 0, 4⟩
/-- HSW.STATUS.PG, bits 4:4, RO (spec/12_hot_swap_slots.md). -/
def HSW_STATUS_PG (n : Nat) : Fld := ⟨0xd001c + 0x40 * n, 4, 1⟩
/-- HSW.STATUS.SEATA, bits 5:5, RO (spec/12_hot_swap_slots.md). -/
def HSW_STATUS_SEATA (n : Nat) : Fld := ⟨0xd001c + 0x40 * n, 5, 1⟩
/-- HSW.STATUS.SEATB, bits 6:6, RO (spec/12_hot_swap_slots.md). -/
def HSW_STATUS_SEATB (n : Nat) : Fld := ⟨0xd001c + 0x40 * n, 6, 1⟩
/-- HSW.STATUS.RETRYWAIT, bits 7:7, RO (spec/12_hot_swap_slots.md). -/
def HSW_STATUS_RETRYWAIT (n : Nat) : Fld := ⟨0xd001c + 0x40 * n, 7, 1⟩
/-- HSW.STATUS.COUNT, bits 11:8, RO (spec/12_hot_swap_slots.md). -/
def HSW_STATUS_COUNT (n : Nat) : Fld := ⟨0xd001c + 0x40 * n, 8, 4⟩
/-- HSW.STATUS.LFAIL, bits 14:12, RO (spec/12_hot_swap_slots.md). -/
def HSW_STATUS_LFAIL (n : Nat) : Fld := ⟨0xd001c + 0x40 * n, 12, 3⟩
/-- HSW.STATUS.LSUSP, bits 17:15, RO (spec/12_hot_swap_slots.md). -/
def HSW_STATUS_LSUSP (n : Nat) : Fld := ⟨0xd001c + 0x40 * n, 15, 3⟩
/-- HSW.STATUS.LRAW, bits 20:18, RO (spec/12_hot_swap_slots.md). -/
def HSW_STATUS_LRAW (n : Nat) : Fld := ⟨0xd001c + 0x40 * n, 18, 3⟩
/-- HSW.STATUS.CAUSE, bits 24:21, RO (spec/12_hot_swap_slots.md). -/
def HSW_STATUS_CAUSE (n : Nat) : Fld := ⟨0xd001c + 0x40 * n, 21, 4⟩
/-- HSW.STATUS.SHEDBY, bits 25:25, RO (spec/12_hot_swap_slots.md). -/
def HSW_STATUS_SHEDBY (n : Nat) : Fld := ⟨0xd001c + 0x40 * n, 25, 1⟩
/-- HSW.IMEAN.IMEAN, bits 31:0, RO (spec/12_hot_swap_slots.md). -/
def HSW_IMEAN_IMEAN (n : Nat) : Fld := ⟨0xd0020 + 0x40 * n, 0, 32⟩
/-- HSW.VOLT.VS, bits 15:0, RO (spec/12_hot_swap_slots.md). -/
def HSW_VOLT_VS (n : Nat) : Fld := ⟨0xd0024 + 0x40 * n, 0, 16⟩
/-- HSW.VOLT.VDS, bits 31:16, RO (spec/12_hot_swap_slots.md). -/
def HSW_VOLT_VDS (n : Nat) : Fld := ⟨0xd0024 + 0x40 * n, 16, 16⟩
/-- HSW.TIMERS.RETRYLEFT, bits 15:0, RO (spec/12_hot_swap_slots.md). -/
def HSW_TIMERS_RETRYLEFT (n : Nat) : Fld := ⟨0xd0028 + 0x40 * n, 0, 16⟩
/-- HSW.TIMERS.COOLLEFT, bits 31:16, RO (spec/12_hot_swap_slots.md). -/
def HSW_TIMERS_COOLLEFT (n : Nat) : Fld := ⟨0xd0028 + 0x40 * n, 16, 16⟩
/-- HSW.LANETEST.PERIOD, bits 13:0, RWL (spec/12_hot_swap_slots.md). -/
def HSW_LANETEST_PERIOD : Fld := ⟨0xd0400, 0, 14⟩
/-- HSW.LANETEST.PASSES, bits 31:14, RO (spec/12_hot_swap_slots.md). -/
def HSW_LANETEST_PASSES : Fld := ⟨0xd0400, 14, 18⟩
/-- HSW.COUNTS.OVERRULED, bits 15:0, RO (spec/12_hot_swap_slots.md). -/
def HSW_COUNTS_OVERRULED : Fld := ⟨0xd0404, 0, 16⟩
/-- HSW.COUNTS.TRIPS, bits 31:16, RO (spec/12_hot_swap_slots.md). -/
def HSW_COUNTS_TRIPS : Fld := ⟨0xd0404, 16, 16⟩
/-- BAT.CTRL.REST, bits 0:0, RW (spec/13_battery_strings.md). -/
def BAT_CTRL_REST (n : Nat) : Fld := ⟨0xb0000 + 0x40 * n, 0, 1⟩
/-- BAT.CTRL.NEWSTRING, bits 1:1, W1S (spec/13_battery_strings.md). -/
def BAT_CTRL_NEWSTRING (n : Nat) : Fld := ⟨0xb0000 + 0x40 * n, 1, 1⟩
/-- BAT.CTRL.CHGINH, bits 2:2, RW (spec/13_battery_strings.md). -/
def BAT_CTRL_CHGINH (n : Nat) : Fld := ⟨0xb0000 + 0x40 * n, 2, 1⟩
/-- BAT.CTRL.DISINH, bits 3:3, RW (spec/13_battery_strings.md). -/
def BAT_CTRL_DISINH (n : Nat) : Fld := ⟨0xb0000 + 0x40 * n, 3, 1⟩
/-- BAT.FLAGS.PRESENT, bits 0:0, RO (spec/13_battery_strings.md). -/
def BAT_FLAGS_PRESENT (n : Nat) : Fld := ⟨0xb0004 + 0x40 * n, 0, 1⟩
/-- BAT.FLAGS.CHGOK, bits 1:1, RO (spec/13_battery_strings.md). -/
def BAT_FLAGS_CHGOK (n : Nat) : Fld := ⟨0xb0004 + 0x40 * n, 1, 1⟩
/-- BAT.FLAGS.DISOK, bits 2:2, RO (spec/13_battery_strings.md). -/
def BAT_FLAGS_DISOK (n : Nat) : Fld := ⟨0xb0004 + 0x40 * n, 2, 1⟩
/-- BAT.FLAGS.RESTING, bits 3:3, RO (spec/13_battery_strings.md). -/
def BAT_FLAGS_RESTING (n : Nat) : Fld := ⟨0xb0004 + 0x40 * n, 3, 1⟩
/-- BAT.FLAGS.RESTREQ, bits 4:4, RO (spec/13_battery_strings.md). -/
def BAT_FLAGS_RESTREQ (n : Nat) : Fld := ⟨0xb0004 + 0x40 * n, 4, 1⟩
/-- BAT.FLAGS.INCONSISTENT, bits 5:5, RO (spec/13_battery_strings.md). -/
def BAT_FLAGS_INCONSISTENT (n : Nat) : Fld := ⟨0xb0004 + 0x40 * n, 5, 1⟩
/-- BAT.FLAGS.REF_STALE, bits 6:6, RO (spec/13_battery_strings.md). -/
def BAT_FLAGS_REF_STALE (n : Nat) : Fld := ⟨0xb0004 + 0x40 * n, 6, 1⟩
/-- BAT.FLAGS.FLOOR, bits 7:7, RO (spec/13_battery_strings.md). -/
def BAT_FLAGS_FLOOR (n : Nat) : Fld := ⟨0xb0004 + 0x40 * n, 7, 1⟩
/-- BAT.FLAGS.TFAULT, bits 8:8, RO (spec/13_battery_strings.md). -/
def BAT_FLAGS_TFAULT (n : Nat) : Fld := ⟨0xb0004 + 0x40 * n, 8, 1⟩
/-- BAT.FLAGS.SLOW, bits 9:9, RO (spec/13_battery_strings.md). -/
def BAT_FLAGS_SLOW (n : Nat) : Fld := ⟨0xb0004 + 0x40 * n, 9, 1⟩
/-- BAT.FLAGS.PENDING, bits 10:10, RO (spec/13_battery_strings.md). -/
def BAT_FLAGS_PENDING (n : Nat) : Fld := ⟨0xb0004 + 0x40 * n, 10, 1⟩
/-- BAT.FLAGS.CONF, bits 23:16, RO (spec/13_battery_strings.md). -/
def BAT_FLAGS_CONF (n : Nat) : Fld := ⟨0xb0004 + 0x40 * n, 16, 8⟩
/-- BAT.SOC.SOC, bits 9:0, RO (spec/13_battery_strings.md). -/
def BAT_SOC_SOC (n : Nat) : Fld := ⟨0xb0008 + 0x40 * n, 0, 10⟩
/-- BAT.SOC.UNC, bits 25:16, RO (spec/13_battery_strings.md). -/
def BAT_SOC_UNC (n : Nat) : Fld := ⟨0xb0008 + 0x40 * n, 16, 10⟩
/-- BAT.IBAT.I, bits 31:0, RO (spec/13_battery_strings.md). -/
def BAT_IBAT_I (n : Nat) : Fld := ⟨0xb000c + 0x40 * n, 0, 32⟩
/-- BAT.VBAT.VBAT, bits 15:0, RO (spec/13_battery_strings.md). -/
def BAT_VBAT_VBAT (n : Nat) : Fld := ⟨0xb0010 + 0x40 * n, 0, 16⟩
/-- BAT.VBAT.VOC, bits 31:16, RO (spec/13_battery_strings.md). -/
def BAT_VBAT_VOC (n : Nat) : Fld := ⟨0xb0010 + 0x40 * n, 16, 16⟩
/-- BAT.TEMP.TA, bits 11:0, RO (spec/13_battery_strings.md). -/
def BAT_TEMP_TA (n : Nat) : Fld := ⟨0xb0014 + 0x40 * n, 0, 12⟩
/-- BAT.TEMP.TB, bits 27:16, RO (spec/13_battery_strings.md). -/
def BAT_TEMP_TB (n : Nat) : Fld := ⟨0xb0014 + 0x40 * n, 16, 12⟩
/-- BAT.EBAT_LO.VALUE, bits 31:0, RO (spec/13_battery_strings.md). -/
def BAT_EBAT_LO_VALUE (n : Nat) : Fld := ⟨0xb0018 + 0x40 * n, 0, 32⟩
/-- BAT.EBAT_HI.VALUE, bits 31:0, RO (spec/13_battery_strings.md). -/
def BAT_EBAT_HI_VALUE (n : Nat) : Fld := ⟨0xb001c + 0x40 * n, 0, 32⟩
/-- BAT.PDIS.PDIS, bits 31:0, RO (spec/13_battery_strings.md). -/
def BAT_PDIS_PDIS (n : Nat) : Fld := ⟨0xb0020 + 0x40 * n, 0, 32⟩
/-- BAT.LEARN.CAP, bits 23:0, RO (spec/13_battery_strings.md). -/
def BAT_LEARN_CAP (n : Nat) : Fld := ⟨0xb0024 + 0x40 * n, 0, 24⟩
/-- BAT.LEARN.UCAP, bits 31:24, RO (spec/13_battery_strings.md). -/
def BAT_LEARN_UCAP (n : Nat) : Fld := ⟨0xb0024 + 0x40 * n, 24, 8⟩
/-- BAT.RINT.RINT, bits 15:0, RO (spec/13_battery_strings.md). -/
def BAT_RINT_RINT (n : Nat) : Fld := ⟨0xb0028 + 0x40 * n, 0, 16⟩
/-- BAT.RINT.AGE, bits 31:16, RO (spec/13_battery_strings.md). -/
def BAT_RINT_AGE (n : Nat) : Fld := ⟨0xb0028 + 0x40 * n, 16, 16⟩
/-- BAT.COUNTS.OVERRULED, bits 15:0, RO (spec/13_battery_strings.md). -/
def BAT_COUNTS_OVERRULED : Fld := ⟨0xb0100, 0, 16⟩
/-- BAT.COUNTS.RESTS, bits 31:16, RO (spec/13_battery_strings.md). -/
def BAT_COUNTS_RESTS : Fld := ⟨0xb0100, 16, 16⟩
/-- PRO.STICKY.STICKY, bits 31:0, STK (spec/14_faults_safe_state.md). -/
def PRO_STICKY_STICKY (n : Nat) : Fld := ⟨0xe0100 + 0x4 * n, 0, 32⟩
/-- PRO.ACK.ACK, bits 31:0, W1S (spec/14_faults_safe_state.md). -/
def PRO_ACK_ACK (n : Nat) : Fld := ⟨0xe0200 + 0x4 * n, 0, 32⟩
/-- PRO.ESC.ESC, bits 31:0, RO (spec/14_faults_safe_state.md). -/
def PRO_ESC_ESC (n : Nat) : Fld := ⟨0xe0300 + 0x4 * n, 0, 32⟩
/-- PRO.CAUSE.CAUSE, bits 31:0, RO (spec/14_faults_safe_state.md). -/
def PRO_CAUSE_CAUSE (n : Nat) : Fld := ⟨0xe0400 + 0x4 * n, 0, 32⟩
/-- PRO.STATUS.STATE, bits 1:0, RO (spec/14_faults_safe_state.md). -/
def PRO_STATUS_STATE : Fld := ⟨0xe0000, 0, 2⟩
/-- PRO.STATUS.ALERT, bits 2:2, RO (spec/14_faults_safe_state.md). -/
def PRO_STATUS_ALERT : Fld := ⟨0xe0000, 2, 1⟩
/-- PRO.STATUS.KILLDRV, bits 3:3, RO (spec/14_faults_safe_state.md). -/
def PRO_STATUS_KILLDRV : Fld := ⟨0xe0000, 3, 1⟩
/-- PRO.STATUS.KILLLINE, bits 4:4, RO (spec/14_faults_safe_state.md). -/
def PRO_STATUS_KILLLINE : Fld := ⟨0xe0000, 4, 1⟩
/-- PRO.STATUS.SAFEWIRE, bits 5:5, RO (spec/14_faults_safe_state.md). -/
def PRO_STATUS_SAFEWIRE : Fld := ⟨0xe0000, 5, 1⟩
/-- PRO.STATUS.SAFELINE, bits 6:6, RO (spec/14_faults_safe_state.md). -/
def PRO_STATUS_SAFELINE : Fld := ⟨0xe0000, 6, 1⟩
/-- PRO.UNACK.NOTE, bits 7:0, RO (spec/14_faults_safe_state.md). -/
def PRO_UNACK_NOTE : Fld := ⟨0xe0004, 0, 8⟩
/-- PRO.UNACK.WARN, bits 15:8, RO (spec/14_faults_safe_state.md). -/
def PRO_UNACK_WARN : Fld := ⟨0xe0004, 8, 8⟩
/-- PRO.UNACK.TRIP, bits 23:16, RO (spec/14_faults_safe_state.md). -/
def PRO_UNACK_TRIP : Fld := ⟨0xe0004, 16, 8⟩
/-- PRO.UNACK.HALT, bits 31:24, RO (spec/14_faults_safe_state.md). -/
def PRO_UNACK_HALT : Fld := ⟨0xe0004, 24, 8⟩
/-- PRO.FORCED.BENCH, bits 15:0, RO (spec/14_faults_safe_state.md). -/
def PRO_FORCED_BENCH : Fld := ⟨0xe0008, 0, 16⟩
/-- PRO.FORCED.SLOT, bits 31:16, RO (spec/14_faults_safe_state.md). -/
def PRO_FORCED_SLOT : Fld := ⟨0xe0008, 16, 16⟩
/-- PRO.LINES.THR, bits 7:0, RO (spec/14_faults_safe_state.md). -/
def PRO_LINES_THR : Fld := ⟨0xe000c, 0, 8⟩
/-- PRO.LINES.PFW, bits 15:8, RO (spec/14_faults_safe_state.md). -/
def PRO_LINES_PFW : Fld := ⟨0xe000c, 8, 8⟩
/-- PRO.LINES.SHARE, bits 19:16, RO (spec/14_faults_safe_state.md). -/
def PRO_LINES_SHARE : Fld := ⟨0xe000c, 16, 4⟩
/-- PRO.FWRAISE0.RAISE, bits 31:0, WO (spec/14_faults_safe_state.md). -/
def PRO_FWRAISE0_RAISE : Fld := ⟨0xe0010, 0, 32⟩
/-- PRO.FWRAISE1.RAISE, bits 31:0, WO (spec/14_faults_safe_state.md). -/
def PRO_FWRAISE1_RAISE : Fld := ⟨0xe0014, 0, 32⟩
/-- PRO.SEL.SOURCE, bits 9:0, RW (spec/14_faults_safe_state.md). -/
def PRO_SEL_SOURCE : Fld := ⟨0xe0018, 0, 10⟩
/-- PRO.INFO.BASE, bits 1:0, RO (spec/14_faults_safe_state.md). -/
def PRO_INFO_BASE : Fld := ⟨0xe001c, 0, 2⟩
/-- PRO.INFO.EFF, bits 3:2, RO (spec/14_faults_safe_state.md). -/
def PRO_INFO_EFF : Fld := ⟨0xe001c, 2, 2⟩
/-- PRO.INFO.FIXED, bits 4:4, RO (spec/14_faults_safe_state.md). -/
def PRO_INFO_FIXED : Fld := ⟨0xe001c, 4, 1⟩
/-- PRO.INFO.USED, bits 5:5, RO (spec/14_faults_safe_state.md). -/
def PRO_INFO_USED : Fld := ⟨0xe001c, 5, 1⟩
/-- PRO.INFO.STICKY, bits 6:6, RO (spec/14_faults_safe_state.md). -/
def PRO_INFO_STICKY : Fld := ⟨0xe001c, 6, 1⟩
/-- PRO.INFO.ACK, bits 7:7, RO (spec/14_faults_safe_state.md). -/
def PRO_INFO_ACK : Fld := ⟨0xe001c, 7, 1⟩
/-- PRO.INFO.CAUSE, bits 8:8, RO (spec/14_faults_safe_state.md). -/
def PRO_INFO_CAUSE : Fld := ⟨0xe001c, 8, 1⟩
/-- PRO.INFO.FLAGS, bits 13:9, RO (spec/14_faults_safe_state.md). -/
def PRO_INFO_FLAGS : Fld := ⟨0xe001c, 9, 5⟩
/-- PRO.INFOTAG.TAG, bits 31:0, RO (spec/14_faults_safe_state.md). -/
def PRO_INFOTAG_TAG : Fld := ⟨0xe0020, 0, 32⟩
/-- PRO.CLEAR_REFUSED.COUNT, bits 15:0, RO (spec/14_faults_safe_state.md). -/
def PRO_CLEAR_REFUSED_COUNT : Fld := ⟨0xe0024, 0, 16⟩
/-- PRO.COUNTS.ESCAL, bits 15:0, RO (spec/14_faults_safe_state.md). -/
def PRO_COUNTS_ESCAL : Fld := ⟨0xe0028, 0, 16⟩
/-- PRO.COUNTS.RAISES, bits 31:16, RO (spec/14_faults_safe_state.md). -/
def PRO_COUNTS_RAISES : Fld := ⟨0xe0028, 16, 16⟩
/-- THM.TEMP.T, bits 11:0, RO (spec/15_thermal.md). -/
def THM_TEMP_T (n : Nat) : Fld := ⟨0xf0000 + 0x10 * n, 0, 12⟩
/-- THM.TEMP.FAULT, bits 12:12, RO (spec/15_thermal.md). -/
def THM_TEMP_FAULT (n : Nat) : Fld := ⟨0xf0000 + 0x10 * n, 12, 1⟩
/-- THM.LIM1.WARN, bits 11:0, RW (spec/15_thermal.md). -/
def THM_LIM1_WARN (n : Nat) : Fld := ⟨0xf0004 + 0x10 * n, 0, 12⟩
/-- THM.LIM1.THR, bits 27:16, RW (spec/15_thermal.md). -/
def THM_LIM1_THR (n : Nat) : Fld := ⟨0xf0004 + 0x10 * n, 16, 12⟩
/-- THM.LIM2.SHUT, bits 11:0, RW (spec/15_thermal.md). -/
def THM_LIM2_SHUT (n : Nat) : Fld := ⟨0xf0008 + 0x10 * n, 0, 12⟩
/-- THM.LIM2.RESTART, bits 27:16, RW (spec/15_thermal.md). -/
def THM_LIM2_RESTART (n : Nat) : Fld := ⟨0xf0008 + 0x10 * n, 16, 12⟩
/-- THM.STATUS.WARNACT, bits 5:0, RO (spec/15_thermal.md). -/
def THM_STATUS_WARNACT : Fld := ⟨0xf0100, 0, 6⟩
/-- THM.STATUS.THRACT, bits 13:8, RO (spec/15_thermal.md). -/
def THM_STATUS_THRACT : Fld := ⟨0xf0100, 8, 6⟩
/-- THM.STATUS.SHUTACT, bits 21:16, RO (spec/15_thermal.md). -/
def THM_STATUS_SHUTACT : Fld := ⟨0xf0100, 16, 6⟩
/-- THM.STATUS.SAFELINE, bits 22:22, RO (spec/15_thermal.md). -/
def THM_STATUS_SAFELINE : Fld := ⟨0xf0100, 22, 1⟩
/-- THM.STATUS.VAULTINH, bits 23:23, RO (spec/15_thermal.md). -/
def THM_STATUS_VAULTINH : Fld := ⟨0xf0100, 23, 1⟩
/-- THM.STATUS.THRLINES, bits 31:24, RO (spec/15_thermal.md). -/
def THM_STATUS_THRLINES : Fld := ⟨0xf0100, 24, 8⟩
/-- THM.RESTLEFT.SECONDS, bits 15:0, RO (spec/15_thermal.md). -/
def THM_RESTLEFT_SECONDS : Fld := ⟨0xf0104, 0, 16⟩
/-- THM.COUNTS.OVERRULED, bits 15:0, RO (spec/15_thermal.md). -/
def THM_COUNTS_OVERRULED : Fld := ⟨0xf0108, 0, 16⟩
/-- THM.COUNTS.SHUTDOWNS, bits 31:16, RO (spec/15_thermal.md). -/
def THM_COUNTS_SHUTDOWNS : Fld := ⟨0xf0108, 16, 16⟩
/-- DPX.CTRL.HANDOVER, bits 0:0, W1S (spec/16_duplex_pair.md). -/
def DPX_CTRL_HANDOVER : Fld := ⟨0x100000, 0, 1⟩
/-- DPX.CTRL.TAKE, bits 1:1, W1S (spec/16_duplex_pair.md). -/
def DPX_CTRL_TAKE : Fld := ⟨0x100000, 1, 1⟩
/-- DPX.CTRL.REJOIN, bits 2:2, W1S (spec/16_duplex_pair.md). -/
def DPX_CTRL_REJOIN : Fld := ⟨0x100000, 2, 1⟩
/-- DPX.CFG.ARBITER, bits 1:0, RO (spec/16_duplex_pair.md). -/
def DPX_CFG_ARBITER : Fld := ⟨0x100004, 0, 2⟩
/-- DPX.CFG.SIDE, bits 2:2, RO (spec/16_duplex_pair.md). -/
def DPX_CFG_SIDE : Fld := ⟨0x100004, 2, 1⟩
/-- DPX.CFG.RESOLVE_T, bits 31:16, RO (spec/16_duplex_pair.md). -/
def DPX_CFG_RESOLVE_T : Fld := ⟨0x100004, 16, 16⟩
/-- DPX.STATUS.STATE, bits 2:0, RO (spec/16_duplex_pair.md). -/
def DPX_STATUS_STATE : Fld := ⟨0x100008, 0, 3⟩
/-- DPX.STATUS.PSTATE, bits 5:3, RO (spec/16_duplex_pair.md). -/
def DPX_STATUS_PSTATE : Fld := ⟨0x100008, 3, 3⟩
/-- DPX.STATUS.LOCKSTEP, bits 6:6, RO (spec/16_duplex_pair.md). -/
def DPX_STATUS_LOCKSTEP : Fld := ⟨0x100008, 6, 1⟩
/-- DPX.STATUS.SELFOK, bits 7:7, RO (spec/16_duplex_pair.md). -/
def DPX_STATUS_SELFOK : Fld := ⟨0x100008, 7, 1⟩
/-- DPX.STATUS.HBIN, bits 8:8, RO (spec/16_duplex_pair.md). -/
def DPX_STATUS_HBIN : Fld := ⟨0x100008, 8, 1⟩
/-- DPX.STATUS.REFACT, bits 9:9, RO (spec/16_duplex_pair.md). -/
def DPX_STATUS_REFACT : Fld := ⟨0x100008, 9, 1⟩
/-- DPX.STATUS.REQ, bits 10:10, RO (spec/16_duplex_pair.md). -/
def DPX_STATUS_REQ : Fld := ⟨0x100008, 10, 1⟩
/-- DPX.STATUS.PIPE, bits 11:11, RO (spec/16_duplex_pair.md). -/
def DPX_STATUS_PIPE : Fld := ⟨0x100008, 11, 1⟩
/-- DPX.STATUS.DIGCHK, bits 12:12, RO (spec/16_duplex_pair.md). -/
def DPX_STATUS_DIGCHK : Fld := ⟨0x100008, 12, 1⟩
/-- DPX.STATUS.CAUSE, bits 14:13, RO (spec/16_duplex_pair.md). -/
def DPX_STATUS_CAUSE : Fld := ⟨0x100008, 13, 2⟩
/-- DPX.DIGEST.OWN, bits 31:0, RO (spec/16_duplex_pair.md). -/
def DPX_DIGEST_OWN : Fld := ⟨0x10000c, 0, 32⟩
/-- DPX.PDIGEST.PARTNER, bits 31:0, RO (spec/16_duplex_pair.md). -/
def DPX_PDIGEST_PARTNER : Fld := ⟨0x100010, 0, 32⟩
/-- DPX.SWTICK_LO.TICK, bits 31:0, RO (spec/16_duplex_pair.md). -/
def DPX_SWTICK_LO_TICK : Fld := ⟨0x100014, 0, 32⟩
/-- DPX.SWTICK_HI.TICK, bits 31:0, RO (spec/16_duplex_pair.md). -/
def DPX_SWTICK_HI_TICK : Fld := ⟨0x100018, 0, 32⟩
/-- DPX.ERRORS.CRC, bits 15:0, RO (spec/16_duplex_pair.md). -/
def DPX_ERRORS_CRC : Fld := ⟨0x10001c, 0, 16⟩
/-- DPX.ERRORS.LATE, bits 31:16, RO (spec/16_duplex_pair.md). -/
def DPX_ERRORS_LATE : Fld := ⟨0x10001c, 16, 16⟩
/-- DPX.COUNTS.SWITCHES, bits 7:0, RO (spec/16_duplex_pair.md). -/
def DPX_COUNTS_SWITCHES : Fld := ⟨0x100020, 0, 8⟩
/-- DPX.COUNTS.SPLITS, bits 15:8, RO (spec/16_duplex_pair.md). -/
def DPX_COUNTS_SPLITS : Fld := ⟨0x100020, 8, 8⟩
/-- DPX.COUNTS.REFUSED, bits 31:16, RO (spec/16_duplex_pair.md). -/
def DPX_COUNTS_REFUSED : Fld := ⟨0x100020, 16, 16⟩
/-- LNK.CFG.ROLE, bits 1:0, RO (spec/17_igkulink_hierarchy.md). -/
def LNK_CFG_ROLE : Fld := ⟨0x110000, 0, 2⟩
/-- LNK.CFG.ADDR, bits 17:2, RO (spec/17_igkulink_hierarchy.md). -/
def LNK_CFG_ADDR : Fld := ⟨0x110000, 2, 16⟩
/-- LNK.CFG.NODES, bits 23:18, RO (spec/17_igkulink_hierarchy.md). -/
def LNK_CFG_NODES : Fld := ⟨0x110000, 18, 6⟩
/-- LNK.CFG.INDEX, bits 29:24, RO (spec/17_igkulink_hierarchy.md). -/
def LNK_CFG_INDEX : Fld := ⟨0x110000, 24, 6⟩
/-- LNK.CFG.CLAMPSCOPE, bits 31:30, RW (spec/17_igkulink_hierarchy.md). -/
def LNK_CFG_CLAMPSCOPE : Fld := ⟨0x110000, 30, 2⟩
/-- LNK.STATUS.STATE, bits 2:0, RO (spec/17_igkulink_hierarchy.md). -/
def LNK_STATUS_STATE (n : Nat) : Fld := ⟨0x110040 + 0x8 * n, 0, 3⟩
/-- LNK.STATUS.NEIGH, bits 23:8, RO (spec/17_igkulink_hierarchy.md). -/
def LNK_STATUS_NEIGH (n : Nat) : Fld := ⟨0x110040 + 0x8 * n, 8, 16⟩
/-- LNK.STATUS.TRAINS, bits 31:24, RO (spec/17_igkulink_hierarchy.md). -/
def LNK_STATUS_TRAINS (n : Nat) : Fld := ⟨0x110040 + 0x8 * n, 24, 8⟩
/-- LNK.ERRORS.CODE, bits 15:0, RO (spec/17_igkulink_hierarchy.md). -/
def LNK_ERRORS_CODE (n : Nat) : Fld := ⟨0x110044 + 0x8 * n, 0, 16⟩
/-- LNK.ERRORS.CRC, bits 31:16, RO (spec/17_igkulink_hierarchy.md). -/
def LNK_ERRORS_CRC (n : Nat) : Fld := ⟨0x110044 + 0x8 * n, 16, 16⟩
/-- LNK.RING.BREAK, bits 0:0, RO (spec/17_igkulink_hierarchy.md). -/
def LNK_RING_BREAK : Fld := ⟨0x110004, 0, 1⟩
/-- LNK.RING.EASTEND, bits 6:1, RO (spec/17_igkulink_hierarchy.md). -/
def LNK_RING_EASTEND : Fld := ⟨0x110004, 1, 6⟩
/-- LNK.RING.WESTEND, bits 12:7, RO (spec/17_igkulink_hierarchy.md). -/
def LNK_RING_WESTEND : Fld := ⟨0x110004, 7, 6⟩
/-- LNK.RING.PATHCHG, bits 31:24, RO (spec/17_igkulink_hierarchy.md). -/
def LNK_RING_PATHCHG : Fld := ⟨0x110004, 24, 8⟩
/-- LNK.NODE.SEEN, bits 0:0, RO (spec/17_igkulink_hierarchy.md). -/
def LNK_NODE_SEEN (n : Nat) : Fld := ⟨0x110100 + 0x4 * n, 0, 1⟩
/-- LNK.NODE.PRO, bits 2:1, RO (spec/17_igkulink_hierarchy.md). -/
def LNK_NODE_PRO (n : Nat) : Fld := ⟨0x110100 + 0x4 * n, 1, 2⟩
/-- LNK.NODE.DPX, bits 5:3, RO (spec/17_igkulink_hierarchy.md). -/
def LNK_NODE_DPX (n : Nat) : Fld := ⟨0x110100 + 0x4 * n, 3, 3⟩
/-- LNK.NODE.UTRIP, bits 15:8, RO (spec/17_igkulink_hierarchy.md). -/
def LNK_NODE_UTRIP (n : Nat) : Fld := ⟨0x110100 + 0x4 * n, 8, 8⟩
/-- LNK.NODE.UHALT, bits 23:16, RO (spec/17_igkulink_hierarchy.md). -/
def LNK_NODE_UHALT (n : Nat) : Fld := ⟨0x110100 + 0x4 * n, 16, 8⟩
/-- LNK.NODE.AGE, bits 31:24, RO (spec/17_igkulink_hierarchy.md). -/
def LNK_NODE_AGE (n : Nat) : Fld := ⟨0x110100 + 0x4 * n, 24, 8⟩
/-- LNK.TUN_ADDR.VALUE, bits 31:0, RW (spec/17_igkulink_hierarchy.md). -/
def LNK_TUN_ADDR_VALUE : Fld := ⟨0x110008, 0, 32⟩
/-- LNK.TUN_REG.VALUE, bits 31:0, RW (spec/17_igkulink_hierarchy.md). -/
def LNK_TUN_REG_VALUE : Fld := ⟨0x11000c, 0, 32⟩
/-- LNK.TUN_DATA.VALUE, bits 31:0, RW (spec/17_igkulink_hierarchy.md). -/
def LNK_TUN_DATA_VALUE : Fld := ⟨0x110010, 0, 32⟩
/-- LNK.TUN_CTRL.GO, bits 0:0, W1S (spec/17_igkulink_hierarchy.md). -/
def LNK_TUN_CTRL_GO : Fld := ⟨0x110014, 0, 1⟩
/-- LNK.TUN_CTRL.WRITE, bits 1:1, RW (spec/17_igkulink_hierarchy.md). -/
def LNK_TUN_CTRL_WRITE : Fld := ⟨0x110014, 1, 1⟩
/-- LNK.TUN_CTRL.STATUS, bits 3:2, RO (spec/17_igkulink_hierarchy.md). -/
def LNK_TUN_CTRL_STATUS : Fld := ⟨0x110014, 2, 2⟩
/-- TIM.NOW_LO.TICK, bits 31:0, RO (spec/17_igkulink_hierarchy.md). -/
def TIM_NOW_LO_TICK : Fld := ⟨0x120000, 0, 32⟩
/-- TIM.NOW_HI.TICK, bits 31:0, RO (spec/17_igkulink_hierarchy.md). -/
def TIM_NOW_HI_TICK : Fld := ⟨0x120004, 0, 32⟩
/-- TIM.STATUS.ROOT, bits 0:0, RO (spec/17_igkulink_hierarchy.md). -/
def TIM_STATUS_ROOT : Fld := ⟨0x120008, 0, 1⟩
/-- TIM.STATUS.SYNC, bits 1:1, RO (spec/17_igkulink_hierarchy.md). -/
def TIM_STATUS_SYNC : Fld := ⟨0x120008, 1, 1⟩
/-- TIM.STATUS.HOLDOVER, bits 2:2, RO (spec/17_igkulink_hierarchy.md). -/
def TIM_STATUS_HOLDOVER : Fld := ⟨0x120008, 2, 1⟩
/-- TIM.STATUS.PARENT, bits 4:3, RO (spec/17_igkulink_hierarchy.md). -/
def TIM_STATUS_PARENT : Fld := ⟨0x120008, 3, 2⟩
/-- TIM.STATUS.STEPS, bits 23:16, RO (spec/17_igkulink_hierarchy.md). -/
def TIM_STATUS_STEPS : Fld := ⟨0x120008, 16, 8⟩
/-- TIM.OFFSET.OFFSET, bits 31:0, RO (spec/17_igkulink_hierarchy.md). -/
def TIM_OFFSET_OFFSET : Fld := ⟨0x12000c, 0, 32⟩
/-- TIM.DELAY.DELAY, bits 31:0, RO (spec/17_igkulink_hierarchy.md). -/
def TIM_DELAY_DELAY : Fld := ⟨0x120010, 0, 32⟩
/-- SNP.CTRL.FIRE, bits 0:0, W1S (spec/18_recorder_snapshots.md). -/
def SNP_CTRL_FIRE : Fld := ⟨0x130000, 0, 1⟩
/-- SNP.CTRL.REARM, bits 1:1, W1S (spec/18_recorder_snapshots.md). -/
def SNP_CTRL_REARM : Fld := ⟨0x130000, 1, 1⟩
/-- SNP.CTRL.KEEP, bits 2:2, RW (spec/18_recorder_snapshots.md). -/
def SNP_CTRL_KEEP : Fld := ⟨0x130000, 2, 1⟩
/-- SNP.CTRL.PINEN, bits 3:3, RW (spec/18_recorder_snapshots.md). -/
def SNP_CTRL_PINEN : Fld := ⟨0x130000, 3, 1⟩
/-- SNP.CTRL.PINRELAY, bits 4:4, RW (spec/18_recorder_snapshots.md). -/
def SNP_CTRL_PINRELAY : Fld := ⟨0x130000, 4, 1⟩
/-- SNP.STATUS.HELD, bits 0:0, RO (spec/18_recorder_snapshots.md). -/
def SNP_STATUS_HELD : Fld := ⟨0x130004, 0, 1⟩
/-- SNP.STATUS.CAUSE, bits 8:1, RO (spec/18_recorder_snapshots.md). -/
def SNP_STATUS_CAUSE : Fld := ⟨0x130004, 1, 8⟩
/-- SNP.STATUS.ORIGIN, bits 24:9, RO (spec/18_recorder_snapshots.md). -/
def SNP_STATUS_ORIGIN : Fld := ⟨0x130004, 9, 16⟩
/-- SNP.REF_LO.TICK, bits 31:0, RO (spec/18_recorder_snapshots.md). -/
def SNP_REF_LO_TICK : Fld := ⟨0x130008, 0, 32⟩
/-- SNP.REF_HI.TICK, bits 31:0, RO (spec/18_recorder_snapshots.md). -/
def SNP_REF_HI_TICK : Fld := ⟨0x13000c, 0, 32⟩
/-- SNP.LATCH_LO.TICK, bits 31:0, RO (spec/18_recorder_snapshots.md). -/
def SNP_LATCH_LO_TICK : Fld := ⟨0x130010, 0, 32⟩
/-- SNP.LATCH_HI.TICK, bits 31:0, RO (spec/18_recorder_snapshots.md). -/
def SNP_LATCH_HI_TICK : Fld := ⟨0x130014, 0, 32⟩
/-- SNP.NUMBER.NUMBER, bits 31:0, RO (spec/18_recorder_snapshots.md). -/
def SNP_NUMBER_NUMBER : Fld := ⟨0x130018, 0, 32⟩
/-- SNP.COUNTS.MERGED, bits 15:0, RO (spec/18_recorder_snapshots.md). -/
def SNP_COUNTS_MERGED : Fld := ⟨0x13001c, 0, 16⟩
/-- SNP.COUNTS.MISSED, bits 31:16, RO (spec/18_recorder_snapshots.md). -/
def SNP_COUNTS_MISSED : Fld := ⟨0x13001c, 16, 16⟩
/-- EVR.CTRL.EN, bits 0:0, RW (spec/18_recorder_snapshots.md). -/
def EVR_CTRL_EN : Fld := ⟨0x140000, 0, 1⟩
/-- EVR.CTRL.FLUSHNOW, bits 1:1, W1S (spec/18_recorder_snapshots.md). -/
def EVR_CTRL_FLUSHNOW : Fld := ⟨0x140000, 1, 1⟩
/-- EVR.CTRL.FLUSH, bits 13:2, RW (spec/18_recorder_snapshots.md). -/
def EVR_CTRL_FLUSH : Fld := ⟨0x140000, 2, 12⟩
/-- EVR.STATUS.STALLED, bits 0:0, RO (spec/18_recorder_snapshots.md). -/
def EVR_STATUS_STALLED : Fld := ⟨0x140004, 0, 1⟩
/-- EVR.STATUS.WFROZEN, bits 1:1, RO (spec/18_recorder_snapshots.md). -/
def EVR_STATUS_WFROZEN : Fld := ⟨0x140004, 1, 1⟩
/-- EVR.STATUS.FILL, bits 8:2, RO (spec/18_recorder_snapshots.md). -/
def EVR_STATUS_FILL : Fld := ⟨0x140004, 2, 7⟩
/-- EVR.STATUS.CLRSTAT, bits 11:9, RO (spec/18_recorder_snapshots.md). -/
def EVR_STATUS_CLRSTAT : Fld := ⟨0x140004, 9, 3⟩
/-- EVR.NEXTSEQ.SEQ, bits 31:0, RO (spec/18_recorder_snapshots.md). -/
def EVR_NEXTSEQ_SEQ : Fld := ⟨0x140008, 0, 32⟩
/-- EVR.OLDEST.SEQ, bits 31:0, RO (spec/18_recorder_snapshots.md). -/
def EVR_OLDEST_SEQ : Fld := ⟨0x14000c, 0, 32⟩
/-- EVR.RD_SEQ.SEQ, bits 31:0, RW (spec/18_recorder_snapshots.md). -/
def EVR_RD_SEQ_SEQ : Fld := ⟨0x140010, 0, 32⟩
/-- EVR.RD_NEXT.SEQ, bits 31:0, RO (spec/18_recorder_snapshots.md). -/
def EVR_RD_NEXT_SEQ : Fld := ⟨0x140014, 0, 32⟩
/-- EVR.CLR_UPTO.SEQ, bits 31:0, RW (spec/18_recorder_snapshots.md). -/
def EVR_CLR_UPTO_SEQ : Fld := ⟨0x14001c, 0, 32⟩
/-- EVR.RD_CTRL.PAGE, bits 5:0, RW (spec/18_recorder_snapshots.md). -/
def EVR_RD_CTRL_PAGE : Fld := ⟨0x140018, 0, 6⟩
/-- EVR.RD_CTRL.RET, bits 6:6, RW (spec/18_recorder_snapshots.md). -/
def EVR_RD_CTRL_RET : Fld := ⟨0x140018, 6, 1⟩
/-- EVR.RD_CTRL.SKIPPED, bits 7:7, RO (spec/18_recorder_snapshots.md). -/
def EVR_RD_CTRL_SKIPPED : Fld := ⟨0x140018, 7, 1⟩
/-- EVR.RD_CTRL.GO, bits 31:31, W1S (spec/18_recorder_snapshots.md). -/
def EVR_RD_CTRL_GO : Fld := ⟨0x140018, 31, 1⟩
/-- EVR.WCFG.WEN, bits 0:0, RW (spec/18_recorder_snapshots.md). -/
def EVR_WCFG_WEN : Fld := ⟨0x140024, 0, 1⟩
/-- EVR.WCFG.NCH, bits 5:1, RW (spec/18_recorder_snapshots.md). -/
def EVR_WCFG_NCH : Fld := ⟨0x140024, 1, 5⟩
/-- EVR.WCFG.DLOG, bits 10:6, RW (spec/18_recorder_snapshots.md). -/
def EVR_WCFG_DLOG : Fld := ⟨0x140024, 6, 5⟩
/-- EVR.WCFG.PRE, bits 14:11, RW (spec/18_recorder_snapshots.md). -/
def EVR_WCFG_PRE : Fld := ⟨0x140024, 11, 4⟩
/-- EVR.WCFG.EARLYMISS, bits 15:15, STK (spec/18_recorder_snapshots.md). -/
def EVR_WCFG_EARLYMISS : Fld := ⟨0x140024, 15, 1⟩
/-- EVR.WSEL.CODES, bits 31:0, RW (spec/18_recorder_snapshots.md). -/
def EVR_WSEL_CODES (n : Nat) : Fld := ⟨0x140040 + 0x4 * n, 0, 32⟩
/-- EVR.NONCE.WORD, bits 31:0, RO (spec/18_recorder_snapshots.md). -/
def EVR_NONCE_WORD (n : Nat) : Fld := ⟨0x140060 + 0x4 * n, 0, 32⟩
/-- EVR.CLR_MAC.WORD, bits 31:0, WO (spec/18_recorder_snapshots.md). -/
def EVR_CLR_MAC_WORD (n : Nat) : Fld := ⟨0x140080 + 0x4 * n, 0, 32⟩
/-- EVR.CLR_CTRL.GO, bits 0:0, W1S (spec/18_recorder_snapshots.md). -/
def EVR_CLR_CTRL_GO : Fld := ⟨0x140020, 0, 1⟩
/-- EVR.CLR_CTRL.ALL, bits 1:1, RW (spec/18_recorder_snapshots.md). -/
def EVR_CLR_CTRL_ALL : Fld := ⟨0x140020, 1, 1⟩
/-- EVR.CLR_CTRL.MODE, bits 3:2, RW (spec/18_recorder_snapshots.md). -/
def EVR_CLR_CTRL_MODE : Fld := ⟨0x140020, 2, 2⟩
/-- EVR.CLR_CTRL.FAILS, bits 11:8, RO (spec/18_recorder_snapshots.md). -/
def EVR_CLR_CTRL_FAILS : Fld := ⟨0x140020, 8, 4⟩
/-- EVR.FW_CTRL.PAGE, bits 5:0, RW (spec/18_recorder_snapshots.md). -/
def EVR_FW_CTRL_PAGE : Fld := ⟨0x140028, 0, 6⟩
/-- EVR.FW_CTRL.LEN, bits 16:8, RW (spec/18_recorder_snapshots.md). -/
def EVR_FW_CTRL_LEN : Fld := ⟨0x140028, 8, 9⟩
/-- EVR.FW_CTRL.GO, bits 31:31, W1S (spec/18_recorder_snapshots.md). -/
def EVR_FW_CTRL_GO : Fld := ⟨0x140028, 31, 1⟩
/-- EVR.COUNTS.LOST, bits 15:0, RO (spec/18_recorder_snapshots.md). -/
def EVR_COUNTS_LOST : Fld := ⟨0x14002c, 0, 16⟩
/-- EVR.COUNTS.BAD, bits 31:16, RO (spec/18_recorder_snapshots.md). -/
def EVR_COUNTS_BAD : Fld := ⟨0x14002c, 16, 16⟩
/-- NVS.CFG.MODE, bits 1:0, RO (spec/18_recorder_snapshots.md). -/
def NVS_CFG_MODE : Fld := ⟨0x150000, 0, 2⟩
/-- NVS.CFG.UWEN, bits 2:2, RW (spec/18_recorder_snapshots.md). -/
def NVS_CFG_UWEN : Fld := ⟨0x150000, 2, 1⟩
/-- NVS.STATUS.NVA, bits 0:0, RO (spec/18_recorder_snapshots.md). -/
def NVS_STATUS_NVA : Fld := ⟨0x150004, 0, 1⟩
/-- NVS.STATUS.NVB, bits 1:1, RO (spec/18_recorder_snapshots.md). -/
def NVS_STATUS_NVB : Fld := ⟨0x150004, 1, 1⟩
/-- NVS.STATUS.DEGRADED, bits 2:2, RO (spec/18_recorder_snapshots.md). -/
def NVS_STATUS_DEGRADED : Fld := ⟨0x150004, 2, 1⟩
/-- NVS.STATUS.VREFUSED, bits 3:3, STK (spec/18_recorder_snapshots.md). -/
def NVS_STATUS_VREFUSED : Fld := ⟨0x150004, 3, 1⟩
/-- NVS.STATUS.VAULTOK, bits 4:4, RO (spec/18_recorder_snapshots.md). -/
def NVS_STATUS_VAULTOK : Fld := ⟨0x150004, 4, 1⟩
/-- NVS.SIZE.MB, bits 15:0, RO (spec/18_recorder_snapshots.md). -/
def NVS_SIZE_MB (n : Nat) : Fld := ⟨0x150010 + 0x4 * n, 0, 16⟩
/-- NVS.SIZE.BADBLK, bits 31:16, RO (spec/18_recorder_snapshots.md). -/
def NVS_SIZE_BADBLK (n : Nat) : Fld := ⟨0x150010 + 0x4 * n, 16, 16⟩
/-- NVS.VAULT.WORD, bits 31:0, RW (spec/18_recorder_snapshots.md). -/
def NVS_VAULT_WORD (n : Nat) : Fld := ⟨0x152000 + 0x4 * n, 0, 32⟩
/-- HST.CFG.DUMMY, bits 6:0, RWL (spec/19_host_drawer_dma.md). -/
def HST_CFG_DUMMY : Fld := ⟨0x160000, 0, 7⟩
/-- HST.CFG.HDQS_EN, bits 7:7, RW (spec/19_host_drawer_dma.md). -/
def HST_CFG_HDQS_EN : Fld := ⟨0x160000, 7, 1⟩
/-- HST.CFG.LOCK, bits 31:31, W1S (spec/19_host_drawer_dma.md). -/
def HST_CFG_LOCK : Fld := ⟨0x160000, 31, 1⟩
/-- HST.ACL0.WR, bits 31:0, RWL (spec/19_host_drawer_dma.md). -/
def HST_ACL0_WR : Fld := ⟨0x160004, 0, 32⟩
/-- HST.ACL1.WR, bits 31:0, RWL (spec/19_host_drawer_dma.md). -/
def HST_ACL1_WR : Fld := ⟨0x160008, 0, 32⟩
/-- HST.IRQ_STAT.BELL, bits 0:0, RO (spec/19_host_drawer_dma.md). -/
def HST_IRQ_STAT_BELL : Fld := ⟨0x16000c, 0, 1⟩
/-- HST.IRQ_STAT.OWN, bits 1:1, W1C (spec/19_host_drawer_dma.md). -/
def HST_IRQ_STAT_OWN : Fld := ⟨0x16000c, 1, 1⟩
/-- HST.IRQ_STAT.PROWARN, bits 2:2, RO (spec/19_host_drawer_dma.md). -/
def HST_IRQ_STAT_PROWARN : Fld := ⟨0x16000c, 2, 1⟩
/-- HST.IRQ_STAT.RESET, bits 3:3, RO (spec/19_host_drawer_dma.md). -/
def HST_IRQ_STAT_RESET : Fld := ⟨0x16000c, 3, 1⟩
/-- HST.IRQ_STAT.RECLAIM, bits 4:4, W1C (spec/19_host_drawer_dma.md). -/
def HST_IRQ_STAT_RECLAIM : Fld := ⟨0x16000c, 4, 1⟩
/-- HST.IRQ_STAT.DMAHALF, bits 15:8, RO (spec/19_host_drawer_dma.md). -/
def HST_IRQ_STAT_DMAHALF : Fld := ⟨0x16000c, 8, 8⟩
/-- HST.IRQ_STAT.DMAFULL, bits 23:16, RO (spec/19_host_drawer_dma.md). -/
def HST_IRQ_STAT_DMAFULL : Fld := ⟨0x16000c, 16, 8⟩
/-- HST.IRQ_EN.BELL, bits 0:0, RW (spec/19_host_drawer_dma.md). -/
def HST_IRQ_EN_BELL : Fld := ⟨0x160010, 0, 1⟩
/-- HST.IRQ_EN.OWN, bits 1:1, RW (spec/19_host_drawer_dma.md). -/
def HST_IRQ_EN_OWN : Fld := ⟨0x160010, 1, 1⟩
/-- HST.IRQ_EN.PROWARN, bits 2:2, RW (spec/19_host_drawer_dma.md). -/
def HST_IRQ_EN_PROWARN : Fld := ⟨0x160010, 2, 1⟩
/-- HST.IRQ_EN.RESET, bits 3:3, RW (spec/19_host_drawer_dma.md). -/
def HST_IRQ_EN_RESET : Fld := ⟨0x160010, 3, 1⟩
/-- HST.IRQ_EN.RECLAIM, bits 4:4, RW (spec/19_host_drawer_dma.md). -/
def HST_IRQ_EN_RECLAIM : Fld := ⟨0x160010, 4, 1⟩
/-- HST.IRQ_EN.DMAHALF, bits 15:8, RW (spec/19_host_drawer_dma.md). -/
def HST_IRQ_EN_DMAHALF : Fld := ⟨0x160010, 8, 8⟩
/-- HST.IRQ_EN.DMAFULL, bits 23:16, RW (spec/19_host_drawer_dma.md). -/
def HST_IRQ_EN_DMAFULL : Fld := ⟨0x160010, 16, 8⟩
/-- HST.HOSTBELL.BELL, bits 31:0, W1S (spec/19_host_drawer_dma.md). -/
def HST_HOSTBELL_BELL : Fld := ⟨0x160014, 0, 32⟩
/-- HST.COREBELL.BELL, bits 31:0, W1C (spec/19_host_drawer_dma.md). -/
def HST_COREBELL_BELL : Fld := ⟨0x160018, 0, 32⟩
/-- HST.HSTICKY.WDROP, bits 0:0, STK (spec/19_host_drawer_dma.md). -/
def HST_HSTICKY_WDROP : Fld := ⟨0x16001c, 0, 1⟩
/-- HST.HSTICKY.RESET, bits 1:1, STK (spec/19_host_drawer_dma.md). -/
def HST_HSTICKY_RESET : Fld := ⟨0x16001c, 1, 1⟩
/-- HST.HSTICKY.RECLAIMED, bits 2:2, STK (spec/19_host_drawer_dma.md). -/
def HST_HSTICKY_RECLAIMED : Fld := ⟨0x16001c, 2, 1⟩
/-- HST.STATUS.PENDING, bits 0:0, RO (spec/19_host_drawer_dma.md). -/
def HST_STATUS_PENDING : Fld := ⟨0x160020, 0, 1⟩
/-- HST.STATUS.HELD, bits 1:1, RO (spec/19_host_drawer_dma.md). -/
def HST_STATUS_HELD : Fld := ⟨0x160020, 1, 1⟩
/-- HST.STATUS.PCMD, bits 9:2, RO (spec/19_host_drawer_dma.md). -/
def HST_STATUS_PCMD : Fld := ⟨0x160020, 2, 8⟩
/-- HST.COUNTS.BUSY, bits 11:0, RO (spec/19_host_drawer_dma.md). -/
def HST_COUNTS_BUSY : Fld := ⟨0x160024, 0, 12⟩
/-- HST.COUNTS.DENIED, bits 21:12, RO (spec/19_host_drawer_dma.md). -/
def HST_COUNTS_DENIED : Fld := ⟨0x160024, 12, 10⟩
/-- HST.COUNTS.PROTO, bits 31:22, RO (spec/19_host_drawer_dma.md). -/
def HST_COUNTS_PROTO : Fld := ⟨0x160024, 22, 10⟩
/-- HST.H_LAST.CMD, bits 7:0, RO (spec/19_host_drawer_dma.md). -/
def HST_H_LAST_CMD : Fld := ⟨0x160100, 0, 8⟩
/-- HST.H_LAST.ADDR, bits 31:8, RO (spec/19_host_drawer_dma.md). -/
def HST_H_LAST_ADDR : Fld := ⟨0x160100, 8, 24⟩
/-- WIN.OWN.OWN, bits 31:0, RO (spec/19_host_drawer_dma.md). -/
def WIN_OWN_OWN (n : Nat) : Fld := ⟨0x170000 + 0x4 * n, 0, 32⟩
/-- WIN.XFER.PAGE, bits 5:0, RW (spec/19_host_drawer_dma.md). -/
def WIN_XFER_PAGE : Fld := ⟨0x170010, 0, 6⟩
/-- WIN.XFER.FROM, bits 9:8, RW (spec/19_host_drawer_dma.md). -/
def WIN_XFER_FROM : Fld := ⟨0x170010, 8, 2⟩
/-- WIN.XFER.TO, bits 11:10, RW (spec/19_host_drawer_dma.md). -/
def WIN_XFER_TO : Fld := ⟨0x170010, 10, 2⟩
/-- WIN.XFER.RESULT, bits 14:12, RO (spec/19_host_drawer_dma.md). -/
def WIN_XFER_RESULT : Fld := ⟨0x170010, 12, 3⟩
/-- WIN.XFER.KEY, bits 31:16, WO (spec/19_host_drawer_dma.md). -/
def WIN_XFER_KEY : Fld := ⟨0x170010, 16, 16⟩
/-- WIN.ENGINE0.HELD, bits 31:0, RO (spec/19_host_drawer_dma.md). -/
def WIN_ENGINE0_HELD : Fld := ⟨0x170014, 0, 32⟩
/-- WIN.ENGINE1.HELD, bits 31:0, RO (spec/19_host_drawer_dma.md). -/
def WIN_ENGINE1_HELD : Fld := ⟨0x170018, 0, 32⟩
/-- WIN.STATUS.LATEWR, bits 0:0, STK (spec/19_host_drawer_dma.md). -/
def WIN_STATUS_LATEWR : Fld := ⟨0x17001c, 0, 1⟩
/-- WIN.STATUS.CFAULT, bits 1:1, STK (spec/19_host_drawer_dma.md). -/
def WIN_STATUS_CFAULT : Fld := ⟨0x17001c, 1, 1⟩
/-- WIN.STATUS.LASTLATE, bits 7:2, RO (spec/19_host_drawer_dma.md). -/
def WIN_STATUS_LASTLATE : Fld := ⟨0x17001c, 2, 6⟩
/-- WIN.STATUS.BADPAGES, bits 14:8, RO (spec/19_host_drawer_dma.md). -/
def WIN_STATUS_BADPAGES : Fld := ⟨0x17001c, 8, 7⟩
/-- DMA.SRC.ADDR, bits 31:0, RW (spec/19_host_drawer_dma.md). -/
def DMA_SRC_ADDR (n : Nat) : Fld := ⟨0x180100 + 0x20 * n, 0, 32⟩
/-- DMA.DST.ADDR, bits 31:0, RW (spec/19_host_drawer_dma.md). -/
def DMA_DST_ADDR (n : Nat) : Fld := ⟨0x180104 + 0x20 * n, 0, 32⟩
/-- DMA.COUNT.BYTES, bits 23:0, RW (spec/19_host_drawer_dma.md). -/
def DMA_COUNT_BYTES (n : Nat) : Fld := ⟨0x180108 + 0x20 * n, 0, 24⟩
/-- DMA.CTRL.GO, bits 0:0, RW (spec/19_host_drawer_dma.md). -/
def DMA_CTRL_GO (n : Nat) : Fld := ⟨0x18010c + 0x20 * n, 0, 1⟩
/-- DMA.CTRL.RESUME, bits 1:1, W1S (spec/19_host_drawer_dma.md). -/
def DMA_CTRL_RESUME (n : Nat) : Fld := ⟨0x18010c + 0x20 * n, 1, 1⟩
/-- DMA.CTRL.SFIX, bits 2:2, RW (spec/19_host_drawer_dma.md). -/
def DMA_CTRL_SFIX (n : Nat) : Fld := ⟨0x18010c + 0x20 * n, 2, 1⟩
/-- DMA.CTRL.DFIX, bits 3:3, RW (spec/19_host_drawer_dma.md). -/
def DMA_CTRL_DFIX (n : Nat) : Fld := ⟨0x18010c + 0x20 * n, 3, 1⟩
/-- DMA.CTRL.HALFIE, bits 4:4, RW (spec/19_host_drawer_dma.md). -/
def DMA_CTRL_HALFIE (n : Nat) : Fld := ⟨0x18010c + 0x20 * n, 4, 1⟩
/-- DMA.CTRL.FULLIE, bits 5:5, RW (spec/19_host_drawer_dma.md). -/
def DMA_CTRL_FULLIE (n : Nat) : Fld := ⟨0x18010c + 0x20 * n, 5, 1⟩
/-- DMA.CTRL.IRQDST, bits 6:6, RW (spec/19_host_drawer_dma.md). -/
def DMA_CTRL_IRQDST (n : Nat) : Fld := ⟨0x18010c + 0x20 * n, 6, 1⟩
/-- DMA.CTRL.CIRC, bits 7:7, RW (spec/19_host_drawer_dma.md). -/
def DMA_CTRL_CIRC (n : Nat) : Fld := ⟨0x18010c + 0x20 * n, 7, 1⟩
/-- DMA.CTRL.HANDOFF, bits 8:8, RW (spec/19_host_drawer_dma.md). -/
def DMA_CTRL_HANDOFF (n : Nat) : Fld := ⟨0x18010c + 0x20 * n, 8, 1⟩
/-- DMA.STATUS.BUSY, bits 0:0, RO (spec/19_host_drawer_dma.md). -/
def DMA_STATUS_BUSY (n : Nat) : Fld := ⟨0x180110 + 0x20 * n, 0, 1⟩
/-- DMA.STATUS.HALF, bits 1:1, W1C (spec/19_host_drawer_dma.md). -/
def DMA_STATUS_HALF (n : Nat) : Fld := ⟨0x180110 + 0x20 * n, 1, 1⟩
/-- DMA.STATUS.FULL, bits 2:2, W1C (spec/19_host_drawer_dma.md). -/
def DMA_STATUS_FULL (n : Nat) : Fld := ⟨0x180110 + 0x20 * n, 2, 1⟩
/-- DMA.STATUS.OVER, bits 3:3, STK (spec/19_host_drawer_dma.md). -/
def DMA_STATUS_OVER (n : Nat) : Fld := ⟨0x180110 + 0x20 * n, 3, 1⟩
/-- DMA.STATUS.WAITOWN, bits 4:4, RO (spec/19_host_drawer_dma.md). -/
def DMA_STATUS_WAITOWN (n : Nat) : Fld := ⟨0x180110 + 0x20 * n, 4, 1⟩
/-- DMA.STATUS.STOPPED, bits 5:5, RO (spec/19_host_drawer_dma.md). -/
def DMA_STATUS_STOPPED (n : Nat) : Fld := ⟨0x180110 + 0x20 * n, 5, 1⟩
/-- DMA.STATUS.ERR, bits 7:6, RO (spec/19_host_drawer_dma.md). -/
def DMA_STATUS_ERR (n : Nat) : Fld := ⟨0x180110 + 0x20 * n, 6, 2⟩
/-- DMA.STATUS.REMAIN, bits 31:8, RO (spec/19_host_drawer_dma.md). -/
def DMA_STATUS_REMAIN (n : Nat) : Fld := ⟨0x180110 + 0x20 * n, 8, 24⟩
/-- DMA.CTRL.CLEAR, bits 0:0, W1S (spec/19_host_drawer_dma.md). -/
def DMA_GCTRL_CLEAR : Fld := ⟨0x180000, 0, 1⟩
/-- DMA.STATUS.BUSERR, bits 0:0, RO (spec/19_host_drawer_dma.md). -/
def DMA_GSTATUS_BUSERR : Fld := ⟨0x180004, 0, 1⟩
/-- DMA.STATUS.ERRWR, bits 1:1, RO (spec/19_host_drawer_dma.md). -/
def DMA_GSTATUS_ERRWR : Fld := ⟨0x180004, 1, 1⟩
/-- DMA.STATUS.ACTIVE, bits 15:8, RO (spec/19_host_drawer_dma.md). -/
def DMA_GSTATUS_ACTIVE : Fld := ⟨0x180004, 8, 8⟩
/-- DMA.STATUS.ERRORS, bits 31:16, RO (spec/19_host_drawer_dma.md). -/
def DMA_GSTATUS_ERRORS : Fld := ⟨0x180004, 16, 16⟩
/-- DMA.ERRADDR.ADDR, bits 31:0, RO (spec/19_host_drawer_dma.md). -/
def DMA_ERRADDR_ADDR : Fld := ⟨0x180008, 0, 32⟩
/-- TWB.CFG.EN, bits 0:0, RW (spec/20_two_wire_buses.md). -/
def TWB_CFG_EN (n : Nat) : Fld := ⟨0x190000 + 0x100 * n, 0, 1⟩
/-- TWB.CFG.SPEED, bits 2:1, RWL (spec/20_two_wire_buses.md). -/
def TWB_CFG_SPEED (n : Nat) : Fld := ⟨0x190000 + 0x100 * n, 1, 2⟩
/-- TWB.CFG.PEC, bits 3:3, RWL (spec/20_two_wire_buses.md). -/
def TWB_CFG_PEC (n : Nat) : Fld := ⟨0x190000 + 0x100 * n, 3, 1⟩
/-- TWB.CFG.TGT_EN, bits 4:4, RO (spec/20_two_wire_buses.md). -/
def TWB_CFG_TGT_EN (n : Nat) : Fld := ⟨0x190000 + 0x100 * n, 4, 1⟩
/-- TWB.CFG.TADDR, bits 11:5, RO (spec/20_two_wire_buses.md). -/
def TWB_CFG_TADDR (n : Nat) : Fld := ⟨0x190000 + 0x100 * n, 5, 7⟩
/-- TWB.CFG.ALERT_EN, bits 12:12, RW (spec/20_two_wire_buses.md). -/
def TWB_CFG_ALERT_EN (n : Nat) : Fld := ⟨0x190000 + 0x100 * n, 12, 1⟩
/-- TWB.CFG.LOCK, bits 31:31, W1S (spec/20_two_wire_buses.md). -/
def TWB_CFG_LOCK (n : Nat) : Fld := ⟨0x190000 + 0x100 * n, 31, 1⟩
/-- TWB.TIMING.STRETCH, bits 11:0, RW (spec/20_two_wire_buses.md). -/
def TWB_TIMING_STRETCH (n : Nat) : Fld := ⟨0x190004 + 0x100 * n, 0, 12⟩
/-- TWB.CMD.ADDR, bits 6:0, RW (spec/20_two_wire_buses.md). -/
def TWB_CMD_ADDR (n : Nat) : Fld := ⟨0x190008 + 0x100 * n, 0, 7⟩
/-- TWB.CMD.CODE, bits 15:8, RW (spec/20_two_wire_buses.md). -/
def TWB_CMD_CODE (n : Nat) : Fld := ⟨0x190008 + 0x100 * n, 8, 8⟩
/-- TWB.CMD.PROTO, bits 18:16, RW (spec/20_two_wire_buses.md). -/
def TWB_CMD_PROTO (n : Nat) : Fld := ⟨0x190008 + 0x100 * n, 16, 3⟩
/-- TWB.CMD.LEN, bits 24:19, RW (spec/20_two_wire_buses.md). -/
def TWB_CMD_LEN (n : Nat) : Fld := ⟨0x190008 + 0x100 * n, 19, 6⟩
/-- TWB.CMD.GO, bits 31:31, W1S (spec/20_two_wire_buses.md). -/
def TWB_CMD_GO (n : Nat) : Fld := ⟨0x190008 + 0x100 * n, 31, 1⟩
/-- TWB.DATA.BYTES, bits 31:0, RW (spec/20_two_wire_buses.md). -/
def TWB_DATA_BYTES (n : Nat) (k : Nat) : Fld := ⟨0x190020 + 0x100 * n + 0x4 * k, 0, 32⟩
/-- TWB.RESULT.CODE, bits 3:0, RO (spec/20_two_wire_buses.md). -/
def TWB_RESULT_CODE (n : Nat) : Fld := ⟨0x19000c + 0x100 * n, 0, 4⟩
/-- TWB.RESULT.ATTEMPTS, bits 5:4, RO (spec/20_two_wire_buses.md). -/
def TWB_RESULT_ATTEMPTS (n : Nat) : Fld := ⟨0x19000c + 0x100 * n, 4, 2⟩
/-- TWB.RESULT.RXLEN, bits 11:6, RO (spec/20_two_wire_buses.md). -/
def TWB_RESULT_RXLEN (n : Nat) : Fld := ⟨0x19000c + 0x100 * n, 6, 6⟩
/-- TWB.STATUS.IDLE, bits 0:0, RO (spec/20_two_wire_buses.md). -/
def TWB_STATUS_IDLE (n : Nat) : Fld := ⟨0x190010 + 0x100 * n, 0, 1⟩
/-- TWB.STATUS.STUCK, bits 1:1, RO (spec/20_two_wire_buses.md). -/
def TWB_STATUS_STUCK (n : Nat) : Fld := ⟨0x190010 + 0x100 * n, 1, 1⟩
/-- TWB.STATUS.ALERT, bits 2:2, RO (spec/20_two_wire_buses.md). -/
def TWB_STATUS_ALERT (n : Nat) : Fld := ⟨0x190010 + 0x100 * n, 2, 1⟩
/-- TWB.STATUS.QUEUED, bits 3:3, RO (spec/20_two_wire_buses.md). -/
def TWB_STATUS_QUEUED (n : Nat) : Fld := ⟨0x190010 + 0x100 * n, 3, 1⟩
/-- TWB.STATUS.ARB_BYTE, bits 13:8, RO (spec/20_two_wire_buses.md). -/
def TWB_STATUS_ARB_BYTE (n : Nat) : Fld := ⟨0x190010 + 0x100 * n, 8, 6⟩
/-- TWB.STATUS.ARB_BIT, bits 16:14, RO (spec/20_two_wire_buses.md). -/
def TWB_STATUS_ARB_BIT (n : Nat) : Fld := ⟨0x190010 + 0x100 * n, 14, 3⟩
/-- TWB.MODEERR.ADDR, bits 6:0, RO (spec/20_two_wire_buses.md). -/
def TWB_MODEERR_ADDR (n : Nat) : Fld := ⟨0x190014 + 0x100 * n, 0, 7⟩
/-- TWB.MODEERR.COUNT, bits 23:16, RO (spec/20_two_wire_buses.md). -/
def TWB_MODEERR_COUNT (n : Nat) : Fld := ⟨0x190014 + 0x100 * n, 16, 8⟩
/-- TWB.COUNTS.ARB_LOST, bits 7:0, RO (spec/20_two_wire_buses.md). -/
def TWB_COUNTS_ARB_LOST (n : Nat) : Fld := ⟨0x190018 + 0x100 * n, 0, 8⟩
/-- TWB.COUNTS.NACK, bits 15:8, RO (spec/20_two_wire_buses.md). -/
def TWB_COUNTS_NACK (n : Nat) : Fld := ⟨0x190018 + 0x100 * n, 8, 8⟩
/-- TWB.COUNTS.TIMEOUT, bits 23:16, RO (spec/20_two_wire_buses.md). -/
def TWB_COUNTS_TIMEOUT (n : Nat) : Fld := ⟨0x190018 + 0x100 * n, 16, 8⟩
/-- TWB.COUNTS.CLEARS, bits 31:24, RO (spec/20_two_wire_buses.md). -/
def TWB_COUNTS_CLEARS (n : Nat) : Fld := ⟨0x190018 + 0x100 * n, 24, 8⟩
/-- TWB.PROTO_ERR.COUNT, bits 15:0, RO (spec/20_two_wire_buses.md). -/
def TWB_PROTO_ERR_COUNT (n : Nat) : Fld := ⟨0x19001c + 0x100 * n, 0, 16⟩
/-- CPD.CTRL.USBEN, bits 0:0, RWL (spec/21_service_port.md). -/
def CPD_CTRL_USBEN : Fld := ⟨0x1a0000, 0, 1⟩
/-- CPD.CTRL.SRCEN, bits 1:1, RWL (spec/21_service_port.md). -/
def CPD_CTRL_SRCEN : Fld := ⟨0x1a0000, 1, 1⟩
/-- CPD.CTRL.FRSEN, bits 2:2, RWL (spec/21_service_port.md). -/
def CPD_CTRL_FRSEN : Fld := ⟨0x1a0000, 2, 1⟩
/-- CPD.CTRL.HARDRST, bits 3:3, W1S (spec/21_service_port.md). -/
def CPD_CTRL_HARDRST : Fld := ⟨0x1a0000, 3, 1⟩
/-- CPD.CTRL.LOCK, bits 31:31, W1S (spec/21_service_port.md). -/
def CPD_CTRL_LOCK : Fld := ⟨0x1a0000, 31, 1⟩
/-- CPD.STATUS.STATE, bits 2:0, RO (spec/21_service_port.md). -/
def CPD_STATUS_STATE : Fld := ⟨0x1a0004, 0, 3⟩
/-- CPD.STATUS.CONTRACT, bits 3:3, RO (spec/21_service_port.md). -/
def CPD_STATUS_CONTRACT : Fld := ⟨0x1a0004, 3, 1⟩
/-- CPD.STATUS.UFP, bits 4:4, RO (spec/21_service_port.md). -/
def CPD_STATUS_UFP : Fld := ⟨0x1a0004, 4, 1⟩
/-- CPD.STATUS.ORIENT, bits 5:5, RO (spec/21_service_port.md). -/
def CPD_STATUS_ORIENT : Fld := ⟨0x1a0004, 5, 1⟩
/-- CPD.STATUS.USBCFG, bits 6:6, RO (spec/21_service_port.md). -/
def CPD_STATUS_USBCFG : Fld := ⟨0x1a0004, 6, 1⟩
/-- CPD.STATUS.FRSARM, bits 7:7, RO (spec/21_service_port.md). -/
def CPD_STATUS_FRSARM : Fld := ⟨0x1a0004, 7, 1⟩
/-- CPD.STATUS.RPADV, bits 9:8, RO (spec/21_service_port.md). -/
def CPD_STATUS_RPADV : Fld := ⟨0x1a0004, 8, 2⟩
/-- CPD.STATUS.VBUSSRC, bits 10:10, RO (spec/21_service_port.md). -/
def CPD_STATUS_VBUSSRC : Fld := ⟨0x1a0004, 10, 1⟩
/-- CPD.STATUS.SVCPWR, bits 11:11, RO (spec/21_service_port.md). -/
def CPD_STATUS_SVCPWR : Fld := ⟨0x1a0004, 11, 1⟩
/-- CPD.CONTRACT.VOLT, bits 15:0, RO (spec/21_service_port.md). -/
def CPD_CONTRACT_VOLT : Fld := ⟨0x1a0008, 0, 16⟩
/-- CPD.CONTRACT.CURR, bits 31:16, RO (spec/21_service_port.md). -/
def CPD_CONTRACT_CURR : Fld := ⟨0x1a0008, 16, 16⟩
/-- CPD.SINKCFG.PMIN, bits 15:0, RW (spec/21_service_port.md). -/
def CPD_SINKCFG_PMIN : Fld := ⟨0x1a000c, 0, 16⟩
/-- CPD.SINKCFG.VMAX, bits 31:16, RW (spec/21_service_port.md). -/
def CPD_SINKCFG_VMAX : Fld := ⟨0x1a000c, 16, 16⟩
/-- CPD.FRSCFG.VTRIG, bits 15:0, RW (spec/21_service_port.md). -/
def CPD_FRSCFG_VTRIG : Fld := ⟨0x1a0010, 0, 16⟩
/-- CPD.COUNTS.ATTACH, bits 7:0, RO (spec/21_service_port.md). -/
def CPD_COUNTS_ATTACH : Fld := ⟨0x1a0014, 0, 8⟩
/-- CPD.COUNTS.HARDRESET, bits 15:8, RO (spec/21_service_port.md). -/
def CPD_COUNTS_HARDRESET : Fld := ⟨0x1a0014, 8, 8⟩
/-- CPD.COUNTS.FRS, bits 23:16, RO (spec/21_service_port.md). -/
def CPD_COUNTS_FRS : Fld := ⟨0x1a0014, 16, 8⟩
/-- CPD.COUNTS.DETACHMID, bits 31:24, RO (spec/21_service_port.md). -/
def CPD_COUNTS_DETACHMID : Fld := ⟨0x1a0014, 24, 8⟩
/-- UPD.CTRL.INGEST, bits 0:0, W1S (spec/22_update_security.md). -/
def UPD_CTRL_INGEST : Fld := ⟨0x1b0000, 0, 1⟩
/-- UPD.CTRL.ACTIVATE, bits 1:1, W1S (spec/22_update_security.md). -/
def UPD_CTRL_ACTIVATE : Fld := ⟨0x1b0000, 1, 1⟩
/-- UPD.CTRL.HANDOVER, bits 2:2, W1S (spec/22_update_security.md). -/
def UPD_CTRL_HANDOVER : Fld := ⟨0x1b0000, 2, 1⟩
/-- UPD.CTRL.ACTCOLD, bits 3:3, RWL (spec/22_update_security.md). -/
def UPD_CTRL_ACTCOLD : Fld := ⟨0x1b0000, 3, 1⟩
/-- UPD.CTRL.ABORT, bits 4:4, W1S (spec/22_update_security.md). -/
def UPD_CTRL_ABORT : Fld := ⟨0x1b0000, 4, 1⟩
/-- UPD.CTRL.HOPAGE, bits 13:8, RW (spec/22_update_security.md). -/
def UPD_CTRL_HOPAGE : Fld := ⟨0x1b0000, 8, 6⟩
/-- UPD.CTRL.HOVALID, bits 14:14, RW (spec/22_update_security.md). -/
def UPD_CTRL_HOVALID : Fld := ⟨0x1b0000, 14, 1⟩
/-- UPD.CTRL.LOCK, bits 31:31, W1S (spec/22_update_security.md). -/
def UPD_CTRL_LOCK : Fld := ⟨0x1b0000, 31, 1⟩
/-- UPD.INGEST.PAGE, bits 5:0, RW (spec/22_update_security.md). -/
def UPD_INGEST_PAGE : Fld := ⟨0x1b0004, 0, 6⟩
/-- UPD.INGEST.COUNT, bits 14:8, RW (spec/22_update_security.md). -/
def UPD_INGEST_COUNT : Fld := ⟨0x1b0004, 8, 7⟩
/-- UPD.STATUS.STATE, bits 2:0, RO (spec/22_update_security.md). -/
def UPD_STATUS_STATE : Fld := ⟨0x1b0008, 0, 3⟩
/-- UPD.STATUS.TFW, bits 3:3, RO (spec/22_update_security.md). -/
def UPD_STATUS_TFW : Fld := ⟨0x1b0008, 3, 1⟩
/-- UPD.STATUS.TPART, bits 4:4, RO (spec/22_update_security.md). -/
def UPD_STATUS_TPART : Fld := ⟨0x1b0008, 4, 1⟩
/-- UPD.STATUS.TFULL, bits 5:5, RO (spec/22_update_security.md). -/
def UPD_STATUS_TFULL : Fld := ⟨0x1b0008, 5, 1⟩
/-- UPD.STATUS.CODE, bits 15:8, RO (spec/22_update_security.md). -/
def UPD_STATUS_CODE : Fld := ⟨0x1b0008, 8, 8⟩
/-- UPD.PKGID.PKGID, bits 31:0, RO (spec/22_update_security.md). -/
def UPD_PKGID_PKGID : Fld := ⟨0x1b000c, 0, 32⟩
/-- UPD.WINDOW.WINDOW, bits 15:0, RWL (spec/22_update_security.md). -/
def UPD_WINDOW_WINDOW : Fld := ⟨0x1b0010, 0, 16⟩
/-- UPD.WINDOW.LEFT, bits 31:16, RO (spec/22_update_security.md). -/
def UPD_WINDOW_LEFT : Fld := ⟨0x1b0010, 16, 16⟩
/-- UPD.CONFIRM.KEY, bits 15:0, WO (spec/22_update_security.md). -/
def UPD_CONFIRM_KEY : Fld := ⟨0x1b0014, 0, 16⟩
/-- UPD.RELAY.FORWARDED, bits 7:0, RO (spec/22_update_security.md). -/
def UPD_RELAY_FORWARDED : Fld := ⟨0x1b0018, 0, 8⟩
/-- UPD.RELAY.PENDING, bits 15:8, RO (spec/22_update_security.md). -/
def UPD_RELAY_PENDING : Fld := ⟨0x1b0018, 8, 8⟩
/-- UPD.RELAY.FAILNODE, bits 31:16, RO (spec/22_update_security.md). -/
def UPD_RELAY_FAILNODE : Fld := ⟨0x1b0018, 16, 16⟩
/-- UPD.SLOTS.ACTIVE, bits 0:0, RO (spec/22_update_security.md). -/
def UPD_SLOTS_ACTIVE : Fld := ⟨0x1b001c, 0, 1⟩
/-- UPD.SLOTS.STATE0, bits 3:1, RO (spec/22_update_security.md). -/
def UPD_SLOTS_STATE0 : Fld := ⟨0x1b001c, 1, 3⟩
/-- UPD.SLOTS.STATE1, bits 6:4, RO (spec/22_update_security.md). -/
def UPD_SLOTS_STATE1 : Fld := ⟨0x1b001c, 4, 3⟩
/-- UPD.SLOTS.TRIALBOOT, bits 7:7, RO (spec/22_update_security.md). -/
def UPD_SLOTS_TRIALBOOT : Fld := ⟨0x1b001c, 7, 1⟩
/-- SEC.STATUS.KEYS, bits 7:0, RO (spec/22_update_security.md). -/
def SEC_STATUS_KEYS : Fld := ⟨0x1c0000, 0, 8⟩
/-- SEC.STATUS.IMGKEY, bits 8:8, RO (spec/22_update_security.md). -/
def SEC_STATUS_IMGKEY : Fld := ⟨0x1c0000, 8, 1⟩
/-- SEC.STATUS.CLRKEY, bits 9:9, RO (spec/22_update_security.md). -/
def SEC_STATUS_CLRKEY : Fld := ⟨0x1c0000, 9, 1⟩
/-- SEC.STATUS.DEBUG, bits 10:10, RO (spec/22_update_security.md). -/
def SEC_STATUS_DEBUG : Fld := ⟨0x1c0000, 10, 1⟩
/-- SEC.STATUS.PROVLOCK, bits 11:11, RO (spec/22_update_security.md). -/
def SEC_STATUS_PROVLOCK : Fld := ⟨0x1c0000, 11, 1⟩
/-- SEC.UID_LO.VALUE, bits 31:0, RO (spec/22_update_security.md). -/
def SEC_UID_LO_VALUE : Fld := ⟨0x1c0004, 0, 32⟩
/-- SEC.UID_HI.VALUE, bits 31:0, RO (spec/22_update_security.md). -/
def SEC_UID_HI_VALUE : Fld := ⟨0x1c0008, 0, 32⟩
/-- SEC.USBID.VALUE, bits 31:0, RO (spec/22_update_security.md). -/
def SEC_USBID_VALUE : Fld := ⟨0x1c000c, 0, 32⟩
/-- SEC.FLOOR.FW, bits 7:0, RO (spec/22_update_security.md). -/
def SEC_FLOOR_FW : Fld := ⟨0x1c0010, 0, 8⟩
/-- SEC.FLOOR.BS, bits 15:8, RO (spec/22_update_security.md). -/
def SEC_FLOOR_BS : Fld := ⟨0x1c0010, 8, 8⟩
/-- SEC.PROG.FIELD, bits 3:0, RW (spec/22_update_security.md). -/
def SEC_PROG_FIELD : Fld := ⟨0x1c0020, 0, 4⟩
/-- SEC.PROG.RESULT, bits 6:4, RO (spec/22_update_security.md). -/
def SEC_PROG_RESULT : Fld := ⟨0x1c0020, 4, 3⟩
/-- SEC.PROG.GO, bits 31:31, W1S (spec/22_update_security.md). -/
def SEC_PROG_GO : Fld := ⟨0x1c0020, 31, 1⟩
/-- SEC.PROGDATA.DATA, bits 31:0, WO (spec/22_update_security.md). -/
def SEC_PROGDATA_DATA (n : Nat) : Fld := ⟨0x1c0040 + 0x4 * n, 0, 32⟩

end F

/-- The registers of block GLB, region 0 (R506). -/
def rowsGLB : List RegRow :=
  [⟨0x4, 0x0, 1, 0, 1, -- GLB.READY
    [⟨0, 1, .ro, false, none, false⟩, ⟨1, 1, .ro, false, none, false⟩, ⟨2, 1, .ro, false, none, false⟩, ⟨3, 1, .ro, false, none, false⟩, ⟨4, 1, .ro, false, none, false⟩, ⟨5, 1, .ro, false, none, false⟩, ⟨6, 1, .ro, false, none, false⟩, ⟨7, 1, .ro, false, none, false⟩, ⟨8, 1, .ro, false, none, false⟩, ⟨9, 1, .ro, false, none, false⟩, ⟨10, 1, .ro, false, none, false⟩, ⟨11, 1, .ro, false, none, false⟩, ⟨12, 1, .ro, false, none, false⟩, ⟨13, 1, .ro, false, none, false⟩, ⟨14, 1, .ro, false, none, false⟩, ⟨15, 1, .ro, false, none, false⟩, ⟨16, 1, .ro, false, none, false⟩, ⟨17, 1, .ro, false, none, false⟩, ⟨18, 1, .ro, false, none, false⟩, ⟨19, 1, .ro, false, none, false⟩, ⟨20, 1, .ro, false, none, false⟩, ⟨21, 1, .ro, false, none, false⟩, ⟨22, 1, .ro, false, none, false⟩, ⟨23, 1, .ro, false, none, false⟩, ⟨24, 1, .ro, false, none, false⟩, ⟨25, 1, .ro, false, none, false⟩, ⟨26, 1, .ro, false, none, false⟩]⟩] ++
  [⟨0x8, 0x0, 1, 0, 1, -- GLB.READY_LOST
    [⟨0, 27, .stk, false, none, false⟩]⟩] ++
  [⟨0x0, 0x0, 1, 0, 1, -- GLB.ID
    [⟨0, 16, .ro, false, none, false⟩, ⟨16, 4, .ro, false, none, false⟩, ⟨20, 4, .ro, false, none, false⟩, ⟨24, 4, .ro, false, none, false⟩]⟩]

/-- The registers of block CLK, region 1 (R506). -/
def rowsCLK : List RegRow :=
  [⟨0x10000, 0x0, 1, 0, 1, -- CLK.PRESENT
    [⟨0, 1, .ro, false, none, false⟩, ⟨1, 1, .ro, false, none, false⟩, ⟨2, 1, .ro, false, none, false⟩, ⟨3, 1, .ro, false, none, false⟩, ⟨4, 1, .ro, false, none, false⟩, ⟨5, 1, .ro, false, none, false⟩, ⟨6, 1, .ro, false, none, false⟩, ⟨7, 1, .ro, false, none, false⟩, ⟨8, 1, .ro, false, none, false⟩, ⟨9, 1, .ro, false, none, false⟩, ⟨10, 1, .ro, false, none, false⟩, ⟨11, 1, .ro, false, none, false⟩, ⟨12, 1, .ro, false, none, false⟩]⟩] ++
  [⟨0x10004, 0x0, 1, 0, 1, -- CLK.LOST
    [⟨0, 13, .stk, false, none, false⟩]⟩] ++
  [⟨0x10008, 0x0, 1, 0, 1, -- CLK.CTRL
    [⟨0, 1, .rw, false, none, false⟩, ⟨1, 1, .rw, false, none, false⟩, ⟨2, 1, .rwl, false, none, false⟩, ⟨3, 1, .rwl, false, none, false⟩, ⟨31, 1, .w1s, false, none, false⟩]⟩] ++
  [⟨0x1000c, 0x0, 1, 0, 1, -- CLK.PLL
    [⟨0, 1, .ro, false, none, false⟩, ⟨1, 1, .ro, false, none, false⟩, ⟨2, 1, .ro, false, none, false⟩, ⟨3, 1, .ro, false, none, false⟩, ⟨8, 1, .stk, false, none, false⟩, ⟨9, 1, .stk, false, none, false⟩, ⟨10, 1, .stk, false, none, false⟩, ⟨11, 1, .stk, false, none, false⟩]⟩] ++
  [⟨0x10010, 0x0, 1, 0, 1, -- CLK.XSUM
    [⟨0, 27, .stk, false, none, false⟩]⟩]

/-- The registers of block RST, region 2 (R506). -/
def rowsRST : List RegRow :=
  [⟨0x20000, 0x0, 1, 0, 1, -- RST.CAUSE
    [⟨0, 1, .stk, false, none, false⟩, ⟨1, 1, .stk, false, none, false⟩, ⟨2, 1, .stk, false, none, false⟩, ⟨3, 1, .stk, false, none, false⟩, ⟨4, 1, .stk, false, none, false⟩, ⟨5, 1, .stk, false, none, false⟩, ⟨6, 1, .stk, false, none, false⟩]⟩] ++
  [⟨0x20004, 0x0, 1, 0, 1, -- RST.CTRL
    [⟨0, 1, .wo, false, none, false⟩, ⟨1, 1, .wo, false, none, false⟩, ⟨16, 16, .wo, false, none, false⟩]⟩] ++
  [⟨0x20008, 0x0, 1, 0, 1, -- RST.BLOCK
    [⟨0, 1, .w1s, false, none, false⟩, ⟨1, 1, .w1s, false, none, false⟩, ⟨2, 1, .w1s, false, none, false⟩, ⟨3, 1, .w1s, false, none, false⟩, ⟨4, 1, .w1s, false, none, false⟩, ⟨5, 4, .w1s, false, none, false⟩, ⟨9, 1, .w1s, false, none, false⟩, ⟨10, 1, .w1s, false, none, false⟩]⟩] ++
  [⟨0x2000c, 0x0, 1, 0, 1, -- RST.WDT
    [{ lo := 0, width := 10, acc := .rwl, range := some (1, 1000), ignoreOut := true }, ⟨10, 1, .rwl, false, none, false⟩, ⟨31, 1, .w1s, false, none, false⟩]⟩] ++
  [⟨0x20010, 0x0, 1, 0, 1, -- RST.WDT_SVC
    [⟨0, 16, .wo, false, none, false⟩]⟩] ++
  [⟨0x20014, 0x0, 1, 0, 1, -- RST.BOOT
    [⟨0, 1, .ro, false, none, false⟩, ⟨1, 1, .ro, false, none, false⟩, ⟨2, 1, .ro, false, none, false⟩, ⟨8, 8, .ro, false, none, false⟩]⟩] ++
  [⟨0x20018, 0x0, 1, 0, 1, -- RST.STRAP
    [⟨0, 2, .ro, false, none, false⟩, ⟨2, 1, .ro, false, none, false⟩, ⟨8, 1, .ro, false, none, false⟩, ⟨9, 1, .ro, false, none, false⟩, ⟨10, 1, .ro, false, none, false⟩, ⟨11, 1, .ro, false, none, false⟩, ⟨12, 1, .ro, false, none, false⟩]⟩]

/-- The registers of block FAB, region 3 (R506). -/
def rowsFAB : List RegRow :=
  [⟨0x30000, 0x0, 1, 0, 1, -- FAB.STATUS
    [⟨0, 1, .ro, false, none, false⟩, ⟨1, 1, .ro, false, none, false⟩, ⟨2, 1, .ro, false, none, false⟩, ⟨3, 1, .stk, false, none, false⟩, ⟨4, 1, .stk, false, none, false⟩, ⟨5, 1, .ro, false, none, false⟩]⟩] ++
  [⟨0x30004, 0x0, 1, 0, 1, -- FAB.LOAD_ERR
    [⟨0, 8, .ro, false, none, false⟩, ⟨8, 8, .ro, false, none, false⟩, ⟨16, 14, .ro, false, none, false⟩, ⟨30, 1, .ro, false, none, false⟩]⟩] ++
  [⟨0x30008, 0x0, 1, 0, 1, -- FAB.RUN_ID_LO
    [⟨0, 32, .ro, false, none, false⟩]⟩] ++
  [⟨0x3000c, 0x0, 1, 0, 1, -- FAB.RUN_ID_HI
    [⟨0, 32, .ro, false, none, false⟩]⟩] ++
  [⟨0x30010, 0x0, 1, 0, 1, -- FAB.VERSION
    [⟨0, 32, .ro, false, none, false⟩]⟩] ++
  [⟨0x30014, 0x0, 1, 0, 1, -- FAB.PLOAD
    [⟨0, 6, .rw, false, none, false⟩, { lo := 8, width := 5, acc := .rw, range := some (1, 16) }, ⟨31, 1, .w1s, false, none, false⟩]⟩] ++
  [⟨0x30018, 0x0, 1, 0, 1, -- FAB.SWAP
    [⟨0, 16, .rw, false, none, false⟩, ⟨31, 1, .w1s, false, none, false⟩]⟩] ++
  [⟨0x3001c, 0x0, 1, 0, 1, -- FAB.SWAP_STAT
    [⟨0, 32, .ro, false, none, false⟩]⟩] ++
  [⟨0x30100, 0x4, 16, 0, 1, -- FAB.PLANE
    [⟨0, 12, .ro, false, none, false⟩, ⟨12, 12, .ro, false, none, false⟩, ⟨24, 1, .ro, false, none, false⟩, ⟨25, 3, .ro, false, none, false⟩]⟩] ++
  [⟨0x30020, 0x0, 1, 0, 1, -- FAB.SCRUB
    [⟨0, 16, .ro, false, none, false⟩, ⟨16, 16, .ro, false, none, false⟩]⟩] ++
  [⟨0x30040, 0x4, 8, 0, 1, -- FAB.DOWEL_OUT
    [⟨0, 32, .ro, false, none, false⟩]⟩]

/-- The registers of block BEN, region 4 (R506). -/
def rowsBEN : List RegRow :=
  [⟨0x40000, 0x100, 16, 0, 1, -- BEN.CTRL
    [⟨0, 1, .rw, false, none, false⟩, ⟨1, 1, .rw, false, none, false⟩, ⟨31, 1, .w1s, false, none, false⟩]⟩] ++
  [⟨0x40004, 0x100, 16, 0, 1, -- BEN.VSET
    [⟨0, 16, .rw, false, none, false⟩]⟩] ++
  [⟨0x40008, 0x100, 16, 0, 1, -- BEN.MARGIN
    [{ lo := 0, width := 8, acc := .rw, signed := true, range := some (-100, 100) }]⟩] ++
  [⟨0x4000c, 0x100, 16, 0, 1, -- BEN.SLEW
    [{ lo := 0, width := 16, acc := .rwl, range := some (1, 65535) }]⟩] ++
  [⟨0x40010, 0x100, 16, 0, 1, -- BEN.PERIOD
    [{ lo := 0, width := 20, acc := .rwl, range := some (3200, 256000) }]⟩] ++
  [⟨0x40014, 0x100, 16, 0, 1, -- BEN.KSCALE
    [{ lo := 0, width := 10, acc := .rwl, range := some (128, 512) }]⟩] ++
  [⟨0x40018, 0x100, 16, 0, 1, -- BEN.ILIM
    [⟨0, 24, .rw, false, none, false⟩]⟩] ++
  [⟨0x4001c, 0x100, 16, 0, 1, -- BEN.PHTHR
    [⟨0, 16, .rw, false, none, false⟩, ⟨16, 16, .rw, false, none, false⟩]⟩] ++
  [⟨0x40020, 0x100, 16, 0, 1, -- BEN.SHED
    [{ lo := 0, width := 8, acc := .rw, range := some (1, 255) }, { lo := 8, width := 6, acc := .rwl, range := some (1, 32) }]⟩] ++
  [⟨0x40024, 0x100, 16, 0, 1, -- BEN.NLBAND
    [⟨0, 16, .rwl, false, none, false⟩, ⟨16, 16, .rwl, false, none, false⟩]⟩] ++
  [⟨0x40028, 0x100, 16, 0, 1, -- BEN.NLMAX
    [⟨0, 16, .rwl, false, none, false⟩]⟩] ++
  [⟨0x4002c, 0x100, 16, 0, 1, -- BEN.DROPCFG
    [{ lo := 0, width := 8, acc := .rwl, range := some (10, 100) }]⟩] ++
  [⟨0x40030, 0x100, 16, 0, 1, -- BEN.CFG
    [⟨0, 1, .ro, false, none, false⟩, ⟨1, 7, .ro, false, none, false⟩, ⟨8, 6, .ro, false, none, false⟩, ⟨14, 1, .ro, false, none, false⟩, ⟨15, 1, .ro, false, none, false⟩]⟩] ++
  [⟨0x40034, 0x100, 16, 0, 1, -- BEN.STATUS
    [⟨0, 3, .ro, false, none, false⟩, ⟨3, 1, .ro, false, none, false⟩, ⟨4, 1, .ro, false, none, false⟩, ⟨5, 1, .ro, false, none, false⟩, ⟨6, 1, .ro, false, none, false⟩, ⟨7, 1, .ro, false, none, false⟩, ⟨8, 6, .ro, false, none, false⟩, ⟨14, 6, .ro, false, none, false⟩, ⟨24, 8, .ro, false, none, false⟩]⟩] ++
  [⟨0x40038, 0x100, 16, 0, 1, -- BEN.VREF
    [⟨0, 16, .ro, false, none, false⟩, ⟨16, 16, .ro, false, none, false⟩]⟩] ++
  [⟨0x4003c, 0x100, 16, 0, 1, -- BEN.VOUT
    [⟨0, 16, .ro, false, none, false⟩]⟩] ++
  [⟨0x40040, 0x100, 16, 0, 1, -- BEN.IOUT
    [⟨0, 32, .ro, false, none, false⟩]⟩] ++
  [⟨0x40044, 0x100, 16, 0, 1, -- BEN.ILIM_EFF
    [⟨0, 24, .ro, false, none, false⟩, ⟨24, 3, .ro, false, none, false⟩]⟩] ++
  [⟨0x40048, 0x100, 16, 0, 1, -- BEN.DUTY
    [⟨0, 16, .ro, false, none, false⟩]⟩] ++
  [⟨0x4004c, 0x100, 16, 0, 1, -- BEN.PHACT
    [⟨0, 32, .ro, false, none, false⟩]⟩] ++
  [⟨0x40050, 0x100, 16, 0, 1, -- BEN.PHDROP
    [⟨0, 32, .stk, false, none, false⟩]⟩] ++
  [⟨0x40054, 0x100, 16, 0, 1, -- BEN.HELD
    [⟨0, 1, .ro, false, none, false⟩, ⟨1, 1, .ro, false, none, false⟩, ⟨2, 1, .ro, false, none, false⟩, ⟨3, 1, .ro, false, none, false⟩, ⟨4, 1, .ro, false, none, false⟩, ⟨5, 1, .ro, false, none, false⟩, ⟨6, 1, .ro, false, none, false⟩, ⟨7, 1, .ro, false, none, false⟩, ⟨8, 1, .ro, false, none, false⟩, ⟨9, 1, .ro, false, none, false⟩, ⟨10, 1, .ro, false, none, false⟩, ⟨11, 1, .ro, false, none, false⟩]⟩] ++
  [⟨0x40058, 0x100, 16, 0, 1, -- BEN.COUNTS
    [⟨0, 16, .ro, false, none, false⟩, ⟨16, 16, .ro, false, none, false⟩]⟩] ++
  [⟨0x40060, 0x100, 16, 0, 1, -- BEN.PSCFG
    [{ lo := 0, width := 12, acc := .rwl, range := some (600, 4000) }, { lo := 12, width := 9, acc := .rwl, range := some (8, 400) }, { lo := 21, width := 10, acc := .rwl, range := some (40, 1000) }]⟩] ++
  [⟨0x40064, 0x100, 16, 0, 1, -- BEN.PSTHR
    [⟨0, 16, .rwl, false, none, false⟩, ⟨16, 8, .rwl, false, none, false⟩, ⟨24, 8, .rwl, false, none, false⟩]⟩] ++
  [⟨0x40068, 0x100, 16, 0, 1, -- BEN.PSTEST
    [⟨0, 3, .ro, false, none, false⟩, ⟨3, 5, .ro, false, none, false⟩, ⟨8, 8, .ro, false, none, false⟩]⟩] ++
  [⟨0x4006c, 0x100, 16, 0, 1, -- BEN.PHLIM
    [⟨0, 16, .rw, false, none, false⟩, ⟨16, 16, .rw, false, none, false⟩]⟩] ++
  [⟨0x40070, 0x100, 16, 0, 1, -- BEN.OCCFG
    [{ lo := 0, width := 8, acc := .rw, range := some (1, 255) }, { lo := 8, width := 4, acc := .rw, range := some (1, 15) }, { lo := 12, width := 4, acc := .rw, range := some (1, 15) }, ⟨16, 16, .rw, false, none, false⟩]⟩] ++
  [⟨0x40074, 0x100, 16, 0, 1, -- BEN.ROC
    [⟨0, 24, .rw, false, none, false⟩]⟩] ++
  [⟨0x40078, 0x100, 16, 0, 1, -- BEN.FOLD
    [{ lo := 0, width := 7, acc := .rw, range := some (10, 100) }, ⟨16, 16, .rw, false, none, false⟩]⟩] ++
  [⟨0x4007c, 0x100, 16, 0, 1, -- BEN.OVUV
    [⟨0, 16, .rw, false, none, false⟩, ⟨16, 16, .rw, false, none, false⟩]⟩] ++
  [⟨0x40080, 0x100, 16, 0, 1, -- BEN.SPCAUSE
    [⟨0, 1, .ro, false, none, false⟩, ⟨1, 1, .ro, false, none, false⟩, ⟨2, 1, .ro, false, none, false⟩, ⟨3, 1, .ro, false, none, false⟩, ⟨4, 1, .ro, false, none, false⟩, ⟨5, 1, .ro, false, none, false⟩]⟩] ++
  [⟨0x40084, 0x100, 16, 0, 1, -- BEN.PHLIMACT
    [⟨0, 32, .ro, false, none, false⟩]⟩] ++
  [⟨0x40088, 0x100, 16, 0, 1, -- BEN.LFSTAT
    [⟨0, 16, .ro, false, none, false⟩, ⟨16, 1, .ro, false, none, false⟩, ⟨17, 1, .ro, false, none, false⟩, ⟨18, 8, .ro, false, none, false⟩]⟩]

/-- The registers of block PWM, region 5 (R506). -/
def rowsPWM : List RegRow :=
  [⟨0x50000, 0x10, 32, 0, 1, -- PWM.STATUS
    [⟨0, 3, .ro, false, none, false⟩, ⟨3, 1, .ro, false, none, false⟩, ⟨4, 4, .ro, false, none, false⟩, ⟨8, 5, .ro, false, none, false⟩, ⟨13, 1, .ro, false, none, false⟩, ⟨14, 1, .ro, false, none, false⟩, ⟨15, 1, .ro, false, none, false⟩, ⟨16, 1, .ro, false, none, false⟩]⟩] ++
  [⟨0x50004, 0x10, 32, 0, 1, -- PWM.OFFSET
    [⟨0, 20, .ro, false, none, false⟩]⟩] ++
  [⟨0x50008, 0x10, 32, 0, 1, -- PWM.ON
    [⟨0, 20, .ro, false, none, false⟩]⟩]

/-- The registers of block ADC, region 6 (R506). -/
def rowsADC : List RegRow :=
  [⟨0x60000, 0x10, 32, 0, 1, -- ADC.RESULT
    [⟨0, 16, .ro, false, none, false⟩, ⟨16, 16, .ro, false, none, false⟩]⟩] ++
  [⟨0x60004, 0x10, 32, 0, 1, -- ADC.STATUS
    [⟨0, 1, .stk, false, none, false⟩, ⟨1, 1, .stk, false, none, false⟩, ⟨2, 1, .ro, false, none, false⟩, ⟨3, 2, .ro, false, none, false⟩, ⟨5, 4, .ro, false, none, false⟩]⟩]

/-- The registers of block MON, region 7 (R506). -/
def rowsMON : List RegRow :=
  [⟨0x70000, 0x10, 64, 0, 1, -- MON.RESULT
    [⟨0, 16, .ro, false, none, false⟩, ⟨16, 16, .ro, false, none, false⟩]⟩] ++
  [⟨0x70004, 0x10, 64, 0, 1, -- MON.WIN
    [⟨0, 12, .rw, false, none, false⟩, ⟨16, 12, .rw, false, none, false⟩, ⟨28, 1, .ro, false, none, false⟩, ⟨29, 1, .ro, false, none, false⟩, ⟨30, 1, .ro, false, none, false⟩]⟩] ++
  [⟨0x70400, 0x4, 8, 0, 1, -- MON.HVM.RESULT
    [⟨0, 16, .ro, false, none, false⟩, ⟨16, 1, .ro, false, none, false⟩, ⟨17, 1, .ro, false, none, false⟩]⟩] ++
  [⟨0x70420, 0x4, 8, 0, 1, -- MON.HVM.WIN
    [⟨0, 16, .rw, false, none, false⟩, ⟨16, 16, .rw, false, none, false⟩]⟩]

/-- The registers of block SHR, region 8 (R506). -/
def rowsSHR : List RegRow :=
  [⟨0x80000, 0x0, 1, 0, 1, -- SHR.CTRL
    [⟨0, 1, .rw, false, none, false⟩, ⟨1, 1, .rw, false, none, false⟩, ⟨31, 1, .w1s, false, none, false⟩]⟩] ++
  [⟨0x80004, 0x0, 1, 0, 1, -- SHR.VBUS
    [⟨0, 16, .rw, false, none, false⟩, ⟨16, 16, .rwl, false, none, false⟩]⟩] ++
  [⟨0x80008, 0x0, 1, 0, 1, -- SHR.LOOP
    [⟨0, 16, .rwl, false, none, false⟩, ⟨16, 16, .rwl, false, none, false⟩]⟩] ++
  [⟨0x8000c, 0x0, 1, 0, 1, -- SHR.POLL
    [{ lo := 0, width := 8, acc := .rw, range := some (5, 255) }, { lo := 8, width := 8, acc := .rw, range := some (1, 255) }, { lo := 16, width := 8, acc := .rwl, range := some (1, 255) }]⟩] ++
  [⟨0x80040, 0x4, 4, 0, 1, -- SHR.SHARE
    [⟨0, 12, .ro, false, none, false⟩, { lo := 16, width := 8, acc := .rw, range := some (1, 255) }, ⟨24, 1, .ro, false, none, false⟩]⟩] ++
  [⟨0x80010, 0x0, 1, 0, 1, -- SHR.ITOTAL
    [⟨0, 24, .ro, false, none, false⟩, ⟨24, 1, .ro, false, none, false⟩]⟩] ++
  [⟨0x80100, 0x10, 24, 0, 1, -- SHR.STATE
    [⟨0, 2, .ro, false, none, false⟩, ⟨2, 2, .ro, false, none, false⟩, ⟨4, 2, .ro, false, none, false⟩, ⟨6, 1, .ro, false, none, false⟩, ⟨7, 1, .ro, false, none, false⟩, ⟨8, 8, .ro, false, none, false⟩, ⟨16, 3, .ro, false, none, false⟩]⟩] ++
  [⟨0x80104, 0x10, 24, 0, 1, -- SHR.IOUT
    [⟨0, 16, .ro, false, none, false⟩, ⟨16, 16, .ro, false, none, false⟩]⟩] ++
  [⟨0x80014, 0x0, 1, 0, 1, -- SHR.COUNTS
    [⟨0, 16, .ro, false, none, false⟩, ⟨16, 16, .ro, false, none, false⟩]⟩]

/-- The registers of block CAP, region 9 (R506). -/
def rowsCAP : List RegRow :=
  [⟨0x90000, 0x0, 1, 0, 1, -- CAP.CTRL
    [⟨0, 1, .rw, false, none, false⟩, ⟨1, 1, .rw, false, none, false⟩, ⟨2, 1, .rw, false, none, false⟩, ⟨3, 1, .ro, false, none, false⟩, ⟨4, 8, .rwl, false, none, false⟩, ⟨31, 1, .w1s, false, none, false⟩]⟩] ++
  [⟨0x90004, 0x0, 1, 0, 1, -- CAP.PCAP
    [⟨0, 32, .rw, false, none, false⟩]⟩] ++
  [⟨0x90008, 0x0, 1, 0, 1, -- CAP.RACKCAP
    [⟨0, 32, .rw, false, none, false⟩]⟩] ++
  [⟨0x9000c, 0x0, 1, 0, 1, -- CAP.PBATMAX
    [⟨0, 32, .rw, false, none, false⟩]⟩] ++
  [⟨0x90010, 0x0, 1, 0, 1, -- CAP.EGUARD
    [⟨0, 32, .rw, false, none, false⟩]⟩] ++
  [⟨0x90014, 0x0, 1, 0, 1, -- CAP.PASSIGN
    [⟨0, 32, .ro, false, none, false⟩]⟩] ++
  [⟨0x90018, 0x0, 1, 0, 1, -- CAP.TIMING
    [{ lo := 0, width := 6, acc := .rw, range := some (1, 50) }, { lo := 6, width := 10, acc := .rw, range := some (1, 1023) }, { lo := 16, width := 16, acc := .rw, range := some (0, 65535) }]⟩] ++
  [⟨0x9001c, 0x0, 1, 0, 1, -- CAP.RELEASE
    [{ lo := 0, width := 16, acc := .rw, range := some (1, 65535) }]⟩] ++
  [⟨0x90020, 0x0, 1, 0, 1, -- CAP.PDRAW
    [⟨0, 32, .ro, false, none, false⟩]⟩] ++
  [⟨0x90024, 0x0, 1, 0, 1, -- CAP.PLOAD
    [⟨0, 32, .ro, false, none, false⟩]⟩] ++
  [⟨0x90028, 0x0, 1, 0, 1, -- CAP.PBATT
    [⟨0, 32, .ro, false, none, false⟩]⟩] ++
  [⟨0x9002c, 0x0, 1, 0, 1, -- CAP.STATUS
    [⟨0, 1, .ro, false, none, false⟩, ⟨1, 1, .ro, false, none, false⟩, ⟨2, 1, .ro, false, none, false⟩, ⟨3, 1, .ro, false, none, false⟩, ⟨4, 1, .ro, false, none, false⟩, ⟨8, 8, .ro, false, none, false⟩, ⟨16, 16, .ro, false, none, false⟩]⟩] ++
  [⟨0x90030, 0x0, 1, 0, 1, -- CAP.FORCE
    [⟨0, 8, .rw, false, none, false⟩, ⟨8, 16, .rw, false, none, false⟩]⟩] ++
  [⟨0x90100, 0x4, 16, 0, 1, -- CAP.BLIM
    [⟨0, 24, .rw, false, none, false⟩, ⟨24, 3, .rwl, false, none, false⟩, ⟨27, 1, .rwl, false, none, false⟩]⟩] ++
  [⟨0x90034, 0x0, 1, 0, 1, -- CAP.COUNTS
    [⟨0, 16, .ro, false, none, false⟩, ⟨16, 8, .ro, false, none, false⟩, ⟨24, 8, .ro, false, none, false⟩]⟩]

/-- The registers of block ENG, region 10 (R506). -/
def rowsENG : List RegRow :=
  [⟨0xa0000, 0x0, 1, 0, 1, -- ENG.CTRL
    [⟨0, 1, .rw, false, none, false⟩, ⟨1, 1, .rw, false, none, false⟩, ⟨31, 1, .w1s, false, none, false⟩]⟩] ++
  [⟨0xa0004, 0x0, 1, 0, 1, -- ENG.STATUS
    [⟨0, 3, .ro, false, none, false⟩, ⟨3, 1, .ro, false, none, false⟩, ⟨4, 1, .ro, false, none, false⟩, ⟨5, 1, .ro, false, none, false⟩, ⟨8, 8, .ro, false, none, false⟩, ⟨16, 3, .ro, false, none, false⟩]⟩] ++
  [⟨0xa0008, 0x0, 1, 0, 1, -- ENG.LAND
    [{ lo := 0, width := 8, acc := .rw, range := some (0, 100) }, { lo := 8, width := 6, acc := .rw, range := some (0, 50) }, { lo := 14, width := 5, acc := .rw, range := some (1, 20) }]⟩] ++
  [⟨0xa000c, 0x0, 1, 0, 1, -- ENG.EDOWN
    [⟨0, 32, .rw, false, none, false⟩]⟩] ++
  [⟨0xa0010, 0x0, 1, 0, 1, -- ENG.INPUT
    [⟨0, 16, .rw, false, none, false⟩, { lo := 16, width := 8, acc := .rw, range := some (1, 255) }, { lo := 24, width := 8, acc := .rw, range := some (1, 255) }]⟩] ++
  [⟨0xa0014, 0x0, 1, 0, 1, -- ENG.PHOLD
    [{ lo := 0, width := 13, acc := .rw, range := some (1, 6000) }]⟩] ++
  [⟨0xa0100, 0x10, 8, 0, 1, -- ENG.TLAND
    [{ lo := 0, width := 14, acc := .rw, range := some (1, 10000) }, ⟨31, 1, .ro, false, none, false⟩]⟩] ++
  [⟨0xa0104, 0x10, 8, 0, 1, -- ENG.PFLOOR
    [⟨0, 32, .rw, false, none, false⟩]⟩] ++
  [⟨0xa0108, 0x10, 8, 0, 1, -- ENG.PLAND
    [⟨0, 32, .ro, false, none, false⟩]⟩] ++
  [⟨0xa0018, 0x0, 1, 0, 1, -- ENG.PNONLAND
    [⟨0, 32, .ro, false, none, false⟩]⟩] ++
  [⟨0xa001c, 0x0, 1, 0, 1, -- ENG.EAVAIL_LO
    [⟨0, 32, .ro, false, none, false⟩]⟩] ++
  [⟨0xa0020, 0x0, 1, 0, 1, -- ENG.EAVAIL_HI
    [⟨0, 32, .ro, false, none, false⟩]⟩] ++
  [⟨0xa0024, 0x0, 1, 0, 1, -- ENG.EBAT_LO
    [⟨0, 32, .ro, false, none, false⟩]⟩] ++
  [⟨0xa0028, 0x0, 1, 0, 1, -- ENG.EBAT_HI
    [⟨0, 32, .ro, false, none, false⟩]⟩] ++
  [⟨0xa002c, 0x0, 1, 0, 1, -- ENG.ECAP
    [⟨0, 32, .ro, false, none, false⟩]⟩] ++
  [⟨0xa0030, 0x0, 1, 0, 1, -- ENG.ERECT
    [⟨0, 32, .ro, false, none, false⟩]⟩] ++
  [⟨0xa0034, 0x0, 1, 0, 1, -- ENG.EREQ
    [⟨0, 32, .ro, false, none, false⟩]⟩] ++
  [⟨0xa0038, 0x0, 1, 0, 1, -- ENG.ESHORT
    [⟨0, 32, .ro, false, none, false⟩]⟩] ++
  [⟨0xa003c, 0x0, 1, 0, 1, -- ENG.BUDGET
    [⟨0, 32, .ro, false, none, false⟩]⟩] ++
  [⟨0xa0040, 0x0, 1, 0, 1, -- ENG.PDIS
    [⟨0, 32, .ro, false, none, false⟩]⟩] ++
  [⟨0xa0044, 0x0, 1, 0, 1, -- ENG.TWARN_LO
    [⟨0, 32, .ro, false, none, false⟩]⟩] ++
  [⟨0xa0048, 0x0, 1, 0, 1, -- ENG.TWARN_HI
    [⟨0, 32, .ro, false, none, false⟩]⟩] ++
  [⟨0xa004c, 0x0, 1, 0, 1, -- ENG.AUDITCFG
    [⟨0, 16, .rw, false, none, false⟩, { lo := 16, width := 9, acc := .rw, range := some (20, 500) }, { lo := 25, width := 7, acc := .rw, range := some (1, 127) }]⟩] ++
  [⟨0xa0200, 0x8, 4, 0, 1, -- ENG.CAUDIT
    [⟨0, 24, .ro, false, none, false⟩, ⟨24, 7, .ro, false, none, false⟩, ⟨31, 1, .ro, false, none, false⟩]⟩] ++
  [⟨0xa0204, 0x8, 4, 0, 1, -- ENG.CUSE
    [⟨0, 24, .ro, false, none, false⟩, ⟨24, 8, .ro, false, none, false⟩]⟩] ++
  [⟨0xa0050, 0x0, 1, 0, 1, -- ENG.COUNTS
    [⟨0, 16, .ro, false, none, false⟩, ⟨16, 8, .ro, false, none, false⟩, ⟨24, 8, .ro, false, none, false⟩]⟩]

/-- The registers of block BAT, region 11 (R506). -/
def rowsBAT : List RegRow :=
  [⟨0xb0000, 0x40, 4, 0, 1, -- BAT.CTRL
    [⟨0, 1, .rw, false, none, false⟩, ⟨1, 1, .w1s, false, none, false⟩, ⟨2, 1, .rw, false, none, false⟩, ⟨3, 1, .rw, false, none, false⟩]⟩] ++
  [⟨0xb0004, 0x40, 4, 0, 1, -- BAT.FLAGS
    [⟨0, 1, .ro, false, none, false⟩, ⟨1, 1, .ro, false, none, false⟩, ⟨2, 1, .ro, false, none, false⟩, ⟨3, 1, .ro, false, none, false⟩, ⟨4, 1, .ro, false, none, false⟩, ⟨5, 1, .ro, false, none, false⟩, ⟨6, 1, .ro, false, none, false⟩, ⟨7, 1, .ro, false, none, false⟩, ⟨8, 1, .ro, false, none, false⟩, ⟨9, 1, .ro, false, none, false⟩, ⟨10, 1, .ro, false, none, false⟩, ⟨16, 8, .ro, false, none, false⟩]⟩] ++
  [⟨0xb0008, 0x40, 4, 0, 1, -- BAT.SOC
    [⟨0, 10, .ro, false, none, false⟩, ⟨16, 10, .ro, false, none, false⟩]⟩] ++
  [⟨0xb000c, 0x40, 4, 0, 1, -- BAT.IBAT
    [⟨0, 32, .ro, false, none, false⟩]⟩] ++
  [⟨0xb0010, 0x40, 4, 0, 1, -- BAT.VBAT
    [⟨0, 16, .ro, false, none, false⟩, ⟨16, 16, .ro, false, none, false⟩]⟩] ++
  [⟨0xb0014, 0x40, 4, 0, 1, -- BAT.TEMP
    [⟨0, 12, .ro, false, none, false⟩, ⟨16, 12, .ro, false, none, false⟩]⟩] ++
  [⟨0xb0018, 0x40, 4, 0, 1, -- BAT.EBAT_LO
    [⟨0, 32, .ro, false, none, false⟩]⟩] ++
  [⟨0xb001c, 0x40, 4, 0, 1, -- BAT.EBAT_HI
    [⟨0, 32, .ro, false, none, false⟩]⟩] ++
  [⟨0xb0020, 0x40, 4, 0, 1, -- BAT.PDIS
    [⟨0, 32, .ro, false, none, false⟩]⟩] ++
  [⟨0xb0024, 0x40, 4, 0, 1, -- BAT.LEARN
    [⟨0, 24, .ro, false, none, false⟩, ⟨24, 8, .ro, false, none, false⟩]⟩] ++
  [⟨0xb0028, 0x40, 4, 0, 1, -- BAT.RINT
    [⟨0, 16, .ro, false, none, false⟩, ⟨16, 16, .ro, false, none, false⟩]⟩] ++
  [⟨0xb0100, 0x0, 1, 0, 1, -- BAT.COUNTS
    [⟨0, 16, .ro, false, none, false⟩, ⟨16, 16, .ro, false, none, false⟩]⟩]

/-- The registers of block SEQ, region 12 (R506). -/
def rowsSEQ : List RegRow :=
  [⟨0xc0000, 0x0, 1, 0, 1, -- SEQ.CTRL
    [⟨0, 1, .rwl, false, none, false⟩, ⟨31, 1, .w1s, false, none, false⟩]⟩] ++
  [⟨0xc0004, 0x0, 1, 0, 1, -- SEQ.REQ
    [⟨0, 16, .w1s, false, none, false⟩, ⟨16, 16, .w1s, false, none, false⟩]⟩] ++
  [⟨0xc0008, 0x0, 1, 0, 1, -- SEQ.AUTO
    [⟨0, 16, .rwl, false, none, false⟩]⟩] ++
  [⟨0xc000c, 0x0, 1, 0, 1, -- SEQ.REQUAL
    [{ lo := 0, width := 16, acc := .rw, range := some (1, 65535) }, { lo := 16, width := 16, acc := .rw, range := some (1, 65535) }]⟩] ++
  [⟨0xc0010, 0x0, 1, 0, 1, -- SEQ.ENGSET
    [⟨0, 16, .ro, false, none, false⟩]⟩] ++
  [⟨0xc0100, 0x8, 16, 0, 1, -- SEQ.STAT
    [⟨0, 3, .ro, false, none, false⟩, ⟨3, 1, .ro, false, none, false⟩]⟩] ++
  [⟨0xc0104, 0x8, 16, 0, 1, -- SEQ.MARGIN
    [{ lo := 0, width := 8, acc := .rw, signed := true, range := some (-100, 100) }]⟩] ++
  [⟨0xc1000, 0x4, 1024, 0, 1, -- SEQ.STATE
    [⟨0, 3, .ro, false, none, false⟩, ⟨3, 2, .ro, false, none, false⟩, ⟨5, 1, .ro, false, none, false⟩, ⟨6, 1, .stk, false, none, false⟩, ⟨7, 1, .stk, false, none, false⟩, ⟨8, 1, .stk, false, none, false⟩, ⟨9, 3, .ro, false, none, false⟩, ⟨12, 4, .ro, false, none, false⟩, ⟨16, 16, .ro, false, none, false⟩]⟩] ++
  [⟨0xc0014, 0x0, 1, 0, 1, -- SEQ.FFSTAT
    [⟨0, 10, .ro, false, none, false⟩, ⟨10, 1, .ro, false, none, false⟩, ⟨11, 3, .ro, false, none, false⟩, ⟨16, 8, .ro, false, none, false⟩, ⟨24, 8, .ro, false, none, false⟩]⟩] ++
  [⟨0xc0018, 0x0, 1, 0, 1, -- SEQ.REMOTE
    [⟨0, 16, .ro, false, none, false⟩]⟩] ++
  [⟨0xc001c, 0x0, 1, 0, 1, -- SEQ.COUNTS
    [⟨0, 16, .ro, false, none, false⟩, ⟨16, 16, .ro, false, none, false⟩]⟩]

/-- The registers of block HSW, region 13 (R506). -/
def rowsHSW : List RegRow :=
  [⟨0xd0000, 0x40, 16, 0, 1, -- HSW.CTRL
    [⟨0, 1, .rw, false, none, false⟩, ⟨1, 1, .rwl, false, none, false⟩, ⟨2, 1, .w1s, false, none, false⟩, ⟨31, 1, .w1s, false, none, false⟩]⟩] ++
  [⟨0xd0004, 0x40, 16, 0, 1, -- HSW.CFG
    [⟨0, 1, .ro, false, none, false⟩, ⟨1, 1, .ro, false, none, false⟩, ⟨2, 4, .ro, false, none, false⟩, ⟨6, 9, .ro, false, none, false⟩, ⟨15, 10, .ro, false, none, false⟩]⟩] ++
  [⟨0xd0008, 0x40, 16, 0, 1, -- HSW.ILIM
    [⟨0, 16, .rw, false, none, false⟩, ⟨16, 16, .rw, false, none, false⟩]⟩] ++
  [⟨0xd000c, 0x40, 16, 0, 1, -- HSW.SOA
    [⟨0, 16, .rw, false, none, false⟩, ⟨16, 16, .rw, false, none, false⟩]⟩] ++
  [⟨0xd0010, 0x40, 16, 0, 1, -- HSW.TIMES
    [{ lo := 0, width := 8, acc := .rw, range := some (1, 255) }, { lo := 8, width := 8, acc := .rw, range := some (1, 255) }, { lo := 16, width := 8, acc := .rw, range := some (1, 255) }, { lo := 24, width := 8, acc := .rw, range := some (10, 255) }]⟩] ++
  [⟨0xd0014, 0x40, 16, 0, 1, -- HSW.FET
    [⟨0, 12, .rw, false, none, false⟩, { lo := 12, width := 8, acc := .rw, range := some (1, 255) }, ⟨20, 12, .rw, false, none, false⟩]⟩] ++
  [⟨0xd0018, 0x40, 16, 0, 1, -- HSW.RETRY
    [{ lo := 0, width := 12, acc := .rw, range := some (1, 4095) }, { lo := 12, width := 4, acc := .rw, range := some (1, 15) }, { lo := 16, width := 16, acc := .rw, range := some (1, 65535) }]⟩] ++
  [⟨0xd001c, 0x40, 16, 0, 1, -- HSW.STATUS
    [⟨0, 4, .ro, false, none, false⟩, ⟨4, 1, .ro, false, none, false⟩, ⟨5, 1, .ro, false, none, false⟩, ⟨6, 1, .ro, false, none, false⟩, ⟨7, 1, .ro, false, none, false⟩, ⟨8, 4, .ro, false, none, false⟩, ⟨12, 3, .ro, false, none, false⟩, ⟨15, 3, .ro, false, none, false⟩, ⟨18, 3, .ro, false, none, false⟩, ⟨21, 4, .ro, false, none, false⟩, ⟨25, 1, .ro, false, none, false⟩]⟩] ++
  [⟨0xd0020, 0x40, 16, 0, 1, -- HSW.IMEAN
    [⟨0, 32, .ro, false, none, false⟩]⟩] ++
  [⟨0xd0024, 0x40, 16, 0, 1, -- HSW.VOLT
    [⟨0, 16, .ro, false, none, false⟩, ⟨16, 16, .ro, false, none, false⟩]⟩] ++
  [⟨0xd0028, 0x40, 16, 0, 1, -- HSW.TIMERS
    [⟨0, 16, .ro, false, none, false⟩, ⟨16, 16, .ro, false, none, false⟩]⟩] ++
  [⟨0xd0400, 0x0, 1, 0, 1, -- HSW.LANETEST
    [{ lo := 0, width := 14, acc := .rwl, range := some (10, 10000) }, ⟨14, 18, .ro, false, none, false⟩]⟩] ++
  [⟨0xd0404, 0x0, 1, 0, 1, -- HSW.COUNTS
    [⟨0, 16, .ro, false, none, false⟩, ⟨16, 16, .ro, false, none, false⟩]⟩]

/-- The registers of block PRO, region 14 (R506). -/
def rowsPRO : List RegRow :=
  [⟨0xe0100, 0x4, 24, 0, 1, -- PRO.STICKY
    [⟨0, 32, .stk, false, none, false⟩]⟩] ++
  [⟨0xe0200, 0x4, 24, 0, 1, -- PRO.ACK
    [⟨0, 32, .w1s, false, none, false⟩]⟩] ++
  [⟨0xe0300, 0x4, 24, 0, 1, -- PRO.ESC
    [⟨0, 32, .ro, false, none, false⟩]⟩] ++
  [⟨0xe0400, 0x4, 24, 0, 1, -- PRO.CAUSE
    [⟨0, 32, .ro, false, none, false⟩]⟩] ++
  [⟨0xe0000, 0x0, 1, 0, 1, -- PRO.STATUS
    [⟨0, 2, .ro, false, none, false⟩, ⟨2, 1, .ro, false, none, false⟩, ⟨3, 1, .ro, false, none, false⟩, ⟨4, 1, .ro, false, none, false⟩, ⟨5, 1, .ro, false, none, false⟩, ⟨6, 1, .ro, false, none, false⟩]⟩] ++
  [⟨0xe0004, 0x0, 1, 0, 1, -- PRO.UNACK
    [⟨0, 8, .ro, false, none, false⟩, ⟨8, 8, .ro, false, none, false⟩, ⟨16, 8, .ro, false, none, false⟩, ⟨24, 8, .ro, false, none, false⟩]⟩] ++
  [⟨0xe0008, 0x0, 1, 0, 1, -- PRO.FORCED
    [⟨0, 16, .ro, false, none, false⟩, ⟨16, 16, .ro, false, none, false⟩]⟩] ++
  [⟨0xe000c, 0x0, 1, 0, 1, -- PRO.LINES
    [⟨0, 8, .ro, false, none, false⟩, ⟨8, 8, .ro, false, none, false⟩, ⟨16, 4, .ro, false, none, false⟩]⟩] ++
  [⟨0xe0010, 0x0, 1, 0, 1, -- PRO.FWRAISE0
    [⟨0, 32, .wo, false, none, false⟩]⟩] ++
  [⟨0xe0014, 0x0, 1, 0, 1, -- PRO.FWRAISE1
    [⟨0, 32, .wo, false, none, false⟩]⟩] ++
  [⟨0xe0018, 0x0, 1, 0, 1, -- PRO.SEL
    [{ lo := 0, width := 10, acc := .rw, range := some (0, 767) }]⟩] ++
  [⟨0xe001c, 0x0, 1, 0, 1, -- PRO.INFO
    [⟨0, 2, .ro, false, none, false⟩, ⟨2, 2, .ro, false, none, false⟩, ⟨4, 1, .ro, false, none, false⟩, ⟨5, 1, .ro, false, none, false⟩, ⟨6, 1, .ro, false, none, false⟩, ⟨7, 1, .ro, false, none, false⟩, ⟨8, 1, .ro, false, none, false⟩, ⟨9, 5, .ro, false, none, false⟩]⟩] ++
  [⟨0xe0020, 0x0, 1, 0, 1, -- PRO.INFOTAG
    [⟨0, 32, .ro, false, none, false⟩]⟩] ++
  [⟨0xe0024, 0x0, 1, 0, 1, -- PRO.CLEAR_REFUSED
    [⟨0, 16, .ro, false, none, false⟩]⟩] ++
  [⟨0xe0028, 0x0, 1, 0, 1, -- PRO.COUNTS
    [⟨0, 16, .ro, false, none, false⟩, ⟨16, 16, .ro, false, none, false⟩]⟩]

/-- The registers of block THM, region 15 (R506). -/
def rowsTHM : List RegRow :=
  [⟨0xf0000, 0x10, 6, 0, 1, -- THM.TEMP
    [⟨0, 12, .ro, false, none, false⟩, ⟨12, 1, .ro, false, none, false⟩]⟩] ++
  [⟨0xf0004, 0x10, 6, 0, 1, -- THM.LIM1
    [{ lo := 0, width := 12, acc := .rw, signed := true }, { lo := 16, width := 12, acc := .rw, signed := true }]⟩] ++
  [⟨0xf0008, 0x10, 6, 0, 1, -- THM.LIM2
    [{ lo := 0, width := 12, acc := .rw, signed := true }, { lo := 16, width := 12, acc := .rw, signed := true }]⟩] ++
  [⟨0xf0100, 0x0, 1, 0, 1, -- THM.STATUS
    [⟨0, 6, .ro, false, none, false⟩, ⟨8, 6, .ro, false, none, false⟩, ⟨16, 6, .ro, false, none, false⟩, ⟨22, 1, .ro, false, none, false⟩, ⟨23, 1, .ro, false, none, false⟩, ⟨24, 8, .ro, false, none, false⟩]⟩] ++
  [⟨0xf0104, 0x0, 1, 0, 1, -- THM.RESTLEFT
    [⟨0, 16, .ro, false, none, false⟩]⟩] ++
  [⟨0xf0108, 0x0, 1, 0, 1, -- THM.COUNTS
    [⟨0, 16, .ro, false, none, false⟩, ⟨16, 16, .ro, false, none, false⟩]⟩]

/-- The registers of block DPX, region 16 (R506). -/
def rowsDPX : List RegRow :=
  [⟨0x100000, 0x0, 1, 0, 1, -- DPX.CTRL
    [⟨0, 1, .w1s, false, none, false⟩, ⟨1, 1, .w1s, false, none, false⟩, ⟨2, 1, .w1s, false, none, false⟩]⟩] ++
  [⟨0x100004, 0x0, 1, 0, 1, -- DPX.CFG
    [⟨0, 2, .ro, false, none, false⟩, ⟨2, 1, .ro, false, none, false⟩, ⟨16, 16, .ro, false, none, false⟩]⟩] ++
  [⟨0x100008, 0x0, 1, 0, 1, -- DPX.STATUS
    [⟨0, 3, .ro, false, none, false⟩, ⟨3, 3, .ro, false, none, false⟩, ⟨6, 1, .ro, false, none, false⟩, ⟨7, 1, .ro, false, none, false⟩, ⟨8, 1, .ro, false, none, false⟩, ⟨9, 1, .ro, false, none, false⟩, ⟨10, 1, .ro, false, none, false⟩, ⟨11, 1, .ro, false, none, false⟩, ⟨12, 1, .ro, false, none, false⟩, ⟨13, 2, .ro, false, none, false⟩]⟩] ++
  [⟨0x10000c, 0x0, 1, 0, 1, -- DPX.DIGEST
    [⟨0, 32, .ro, false, none, false⟩]⟩] ++
  [⟨0x100010, 0x0, 1, 0, 1, -- DPX.PDIGEST
    [⟨0, 32, .ro, false, none, false⟩]⟩] ++
  [⟨0x100014, 0x0, 1, 0, 1, -- DPX.SWTICK_LO
    [⟨0, 32, .ro, false, none, false⟩]⟩] ++
  [⟨0x100018, 0x0, 1, 0, 1, -- DPX.SWTICK_HI
    [⟨0, 32, .ro, false, none, false⟩]⟩] ++
  [⟨0x10001c, 0x0, 1, 0, 1, -- DPX.ERRORS
    [⟨0, 16, .ro, false, none, false⟩, ⟨16, 16, .ro, false, none, false⟩]⟩] ++
  [⟨0x100020, 0x0, 1, 0, 1, -- DPX.COUNTS
    [⟨0, 8, .ro, false, none, false⟩, ⟨8, 8, .ro, false, none, false⟩, ⟨16, 16, .ro, false, none, false⟩]⟩]

/-- The registers of block LNK, region 17 (R506). -/
def rowsLNK : List RegRow :=
  [⟨0x110000, 0x0, 1, 0, 1, -- LNK.CFG
    [⟨0, 2, .ro, false, none, false⟩, ⟨2, 16, .ro, false, none, false⟩, ⟨18, 6, .ro, false, none, false⟩, ⟨24, 6, .ro, false, none, false⟩, ⟨30, 2, .rw, false, none, false⟩]⟩] ++
  [⟨0x110040, 0x8, 3, 0, 1, -- LNK.STATUS
    [⟨0, 3, .ro, false, none, false⟩, ⟨8, 16, .ro, false, none, false⟩, ⟨24, 8, .ro, false, none, false⟩]⟩] ++
  [⟨0x110044, 0x8, 3, 0, 1, -- LNK.ERRORS
    [⟨0, 16, .ro, false, none, false⟩, ⟨16, 16, .ro, false, none, false⟩]⟩] ++
  [⟨0x110004, 0x0, 1, 0, 1, -- LNK.RING
    [⟨0, 1, .ro, false, none, false⟩, ⟨1, 6, .ro, false, none, false⟩, ⟨7, 6, .ro, false, none, false⟩, ⟨24, 8, .ro, false, none, false⟩]⟩] ++
  [⟨0x110100, 0x4, 33, 0, 1, -- LNK.NODE
    [⟨0, 1, .ro, false, none, false⟩, ⟨1, 2, .ro, false, none, false⟩, ⟨3, 3, .ro, false, none, false⟩, ⟨8, 8, .ro, false, none, false⟩, ⟨16, 8, .ro, false, none, false⟩, ⟨24, 8, .ro, false, none, false⟩]⟩] ++
  [⟨0x110008, 0x0, 1, 0, 1, -- LNK.TUN_ADDR
    [⟨0, 32, .rw, false, none, false⟩]⟩] ++
  [⟨0x11000c, 0x0, 1, 0, 1, -- LNK.TUN_REG
    [⟨0, 32, .rw, false, none, false⟩]⟩] ++
  [⟨0x110010, 0x0, 1, 0, 1, -- LNK.TUN_DATA
    [⟨0, 32, .rw, false, none, false⟩]⟩] ++
  [⟨0x110014, 0x0, 1, 0, 1, -- LNK.TUN_CTRL
    [⟨0, 1, .w1s, false, none, false⟩, ⟨1, 1, .rw, false, none, false⟩, ⟨2, 2, .ro, false, none, false⟩]⟩]

/-- The registers of block TIM, region 18 (R506). -/
def rowsTIM : List RegRow :=
  [⟨0x120000, 0x0, 1, 0, 1, -- TIM.NOW_LO
    [⟨0, 32, .ro, false, none, false⟩]⟩] ++
  [⟨0x120004, 0x0, 1, 0, 1, -- TIM.NOW_HI
    [⟨0, 32, .ro, false, none, false⟩]⟩] ++
  [⟨0x120008, 0x0, 1, 0, 1, -- TIM.STATUS
    [⟨0, 1, .ro, false, none, false⟩, ⟨1, 1, .ro, false, none, false⟩, ⟨2, 1, .ro, false, none, false⟩, ⟨3, 2, .ro, false, none, false⟩, ⟨16, 8, .ro, false, none, false⟩]⟩] ++
  [⟨0x12000c, 0x0, 1, 0, 1, -- TIM.OFFSET
    [⟨0, 32, .ro, false, none, false⟩]⟩] ++
  [⟨0x120010, 0x0, 1, 0, 1, -- TIM.DELAY
    [⟨0, 32, .ro, false, none, false⟩]⟩]

/-- The registers of block SNP, region 19 (R506). -/
def rowsSNP : List RegRow :=
  [⟨0x130000, 0x0, 1, 0, 1, -- SNP.CTRL
    [⟨0, 1, .w1s, false, none, false⟩, ⟨1, 1, .w1s, false, none, false⟩, ⟨2, 1, .rw, false, none, false⟩, ⟨3, 1, .rw, false, none, false⟩, ⟨4, 1, .rw, false, none, false⟩]⟩] ++
  [⟨0x130004, 0x0, 1, 0, 1, -- SNP.STATUS
    [⟨0, 1, .ro, false, none, false⟩, ⟨1, 8, .ro, false, none, false⟩, ⟨9, 16, .ro, false, none, false⟩]⟩] ++
  [⟨0x130008, 0x0, 1, 0, 1, -- SNP.REF_LO
    [⟨0, 32, .ro, false, none, false⟩]⟩] ++
  [⟨0x13000c, 0x0, 1, 0, 1, -- SNP.REF_HI
    [⟨0, 32, .ro, false, none, false⟩]⟩] ++
  [⟨0x130010, 0x0, 1, 0, 1, -- SNP.LATCH_LO
    [⟨0, 32, .ro, false, none, false⟩]⟩] ++
  [⟨0x130014, 0x0, 1, 0, 1, -- SNP.LATCH_HI
    [⟨0, 32, .ro, false, none, false⟩]⟩] ++
  [⟨0x130018, 0x0, 1, 0, 1, -- SNP.NUMBER
    [⟨0, 32, .ro, false, none, false⟩]⟩] ++
  [⟨0x13001c, 0x0, 1, 0, 1, -- SNP.COUNTS
    [⟨0, 16, .ro, false, none, false⟩, ⟨16, 16, .ro, false, none, false⟩]⟩]

/-- The registers of block EVR, region 20 (R506). -/
def rowsEVR : List RegRow :=
  [⟨0x140000, 0x0, 1, 0, 1, -- EVR.CTRL
    [⟨0, 1, .rw, false, none, false⟩, ⟨1, 1, .w1s, false, none, false⟩, { lo := 2, width := 12, acc := .rw, range := some (1, 4095) }]⟩] ++
  [⟨0x140004, 0x0, 1, 0, 1, -- EVR.STATUS
    [⟨0, 1, .ro, false, none, false⟩, ⟨1, 1, .ro, false, none, false⟩, ⟨2, 7, .ro, false, none, false⟩, ⟨9, 3, .ro, false, none, false⟩]⟩] ++
  [⟨0x140008, 0x0, 1, 0, 1, -- EVR.NEXTSEQ
    [⟨0, 32, .ro, false, none, false⟩]⟩] ++
  [⟨0x14000c, 0x0, 1, 0, 1, -- EVR.OLDEST
    [⟨0, 32, .ro, false, none, false⟩]⟩] ++
  [⟨0x140010, 0x0, 1, 0, 1, -- EVR.RD_SEQ
    [⟨0, 32, .rw, false, none, false⟩]⟩] ++
  [⟨0x140014, 0x0, 1, 0, 1, -- EVR.RD_NEXT
    [⟨0, 32, .ro, false, none, false⟩]⟩] ++
  [⟨0x14001c, 0x0, 1, 0, 1, -- EVR.CLR_UPTO
    [⟨0, 32, .rw, false, none, false⟩]⟩] ++
  [⟨0x140018, 0x0, 1, 0, 1, -- EVR.RD_CTRL
    [⟨0, 6, .rw, false, none, false⟩, ⟨6, 1, .rw, false, none, false⟩, ⟨7, 1, .ro, false, none, false⟩, ⟨31, 1, .w1s, false, none, false⟩]⟩] ++
  [⟨0x140024, 0x0, 1, 0, 1, -- EVR.WCFG
    [⟨0, 1, .rw, false, none, false⟩, { lo := 1, width := 5, acc := .rw, range := some (1, 16) }, { lo := 6, width := 5, acc := .rw, range := some (0, 16) }, { lo := 11, width := 4, acc := .rw, range := some (0, 15) }, ⟨15, 1, .stk, false, none, false⟩]⟩] ++
  [⟨0x140040, 0x4, 4, 0, 1, -- EVR.WSEL
    [⟨0, 32, .rw, false, none, false⟩]⟩] ++
  [⟨0x140060, 0x4, 4, 0, 1, -- EVR.NONCE
    [⟨0, 32, .ro, false, none, false⟩]⟩] ++
  [⟨0x140080, 0x4, 8, 0, 1, -- EVR.CLR_MAC
    [⟨0, 32, .wo, false, none, false⟩]⟩] ++
  [⟨0x140020, 0x0, 1, 0, 1, -- EVR.CLR_CTRL
    [⟨0, 1, .w1s, false, none, false⟩, ⟨1, 1, .rw, false, none, false⟩, ⟨2, 2, .rw, false, none, false⟩, ⟨8, 4, .ro, false, none, false⟩]⟩] ++
  [⟨0x140028, 0x0, 1, 0, 1, -- EVR.FW_CTRL
    [⟨0, 6, .rw, false, none, false⟩, { lo := 8, width := 9, acc := .rw, range := some (8, 264) }, ⟨31, 1, .w1s, false, none, false⟩]⟩] ++
  [⟨0x14002c, 0x0, 1, 0, 1, -- EVR.COUNTS
    [⟨0, 16, .ro, false, none, false⟩, ⟨16, 16, .ro, false, none, false⟩]⟩]

/-- The registers of block NVS, region 21 (R506). -/
def rowsNVS : List RegRow :=
  [⟨0x150000, 0x0, 1, 0, 1, -- NVS.CFG
    [⟨0, 2, .ro, false, none, false⟩, ⟨2, 1, .rw, false, none, false⟩]⟩] ++
  [⟨0x150004, 0x0, 1, 0, 1, -- NVS.STATUS
    [⟨0, 1, .ro, false, none, false⟩, ⟨1, 1, .ro, false, none, false⟩, ⟨2, 1, .ro, false, none, false⟩, ⟨3, 1, .stk, false, none, false⟩, ⟨4, 1, .ro, false, none, false⟩]⟩] ++
  [⟨0x150010, 0x4, 2, 0, 1, -- NVS.SIZE
    [⟨0, 16, .ro, false, none, false⟩, ⟨16, 16, .ro, false, none, false⟩]⟩] ++
  [⟨0x152000, 0x4, 2048, 0, 1, -- NVS.VAULT
    [⟨0, 32, .rw, false, none, false⟩]⟩]

/-- The registers of block HST, region 22 (R506). -/
def rowsHST : List RegRow :=
  [⟨0x160000, 0x0, 1, 0, 1, -- HST.CFG
    [{ lo := 0, width := 7, acc := .rwl, range := some (4, 64), ignoreOut := true }, ⟨7, 1, .rw, false, none, false⟩, ⟨31, 1, .w1s, false, none, false⟩]⟩] ++
  [⟨0x160004, 0x0, 1, 0, 1, -- HST.ACL0
    [⟨0, 32, .rwl, false, none, false⟩]⟩] ++
  [⟨0x160008, 0x0, 1, 0, 1, -- HST.ACL1
    [⟨0, 32, .rwl, false, none, false⟩]⟩] ++
  [⟨0x16000c, 0x0, 1, 0, 1, -- HST.IRQ_STAT
    [⟨0, 1, .ro, false, none, false⟩, ⟨1, 1, .w1c, false, none, false⟩, ⟨2, 1, .ro, false, none, false⟩, ⟨3, 1, .ro, false, none, false⟩, ⟨4, 1, .w1c, false, none, false⟩, ⟨8, 8, .ro, false, none, false⟩, ⟨16, 8, .ro, false, none, false⟩]⟩] ++
  [⟨0x160010, 0x0, 1, 0, 1, -- HST.IRQ_EN
    [⟨0, 1, .rw, false, none, false⟩, ⟨1, 1, .rw, false, none, false⟩, ⟨2, 1, .rw, false, none, false⟩, ⟨3, 1, .rw, false, none, false⟩, ⟨4, 1, .rw, false, none, false⟩, ⟨8, 8, .rw, false, none, false⟩, ⟨16, 8, .rw, false, none, false⟩]⟩] ++
  [⟨0x160014, 0x0, 1, 0, 1, -- HST.HOSTBELL
    [⟨0, 32, .w1s, false, none, false⟩]⟩] ++
  [⟨0x160018, 0x0, 1, 0, 1, -- HST.COREBELL
    [⟨0, 32, .w1c, false, none, false⟩]⟩] ++
  [⟨0x16001c, 0x0, 1, 0, 1, -- HST.HSTICKY
    [⟨0, 1, .stk, false, none, false⟩, ⟨1, 1, .stk, false, none, false⟩, ⟨2, 1, .stk, false, none, false⟩]⟩] ++
  [⟨0x160020, 0x0, 1, 0, 1, -- HST.STATUS
    [⟨0, 1, .ro, false, none, false⟩, ⟨1, 1, .ro, false, none, false⟩, ⟨2, 8, .ro, false, none, false⟩]⟩] ++
  [⟨0x160024, 0x0, 1, 0, 1, -- HST.COUNTS
    [⟨0, 12, .ro, false, none, false⟩, ⟨12, 10, .ro, false, none, false⟩, ⟨22, 10, .ro, false, none, false⟩]⟩] ++
  [⟨0x160100, 0x0, 1, 0, 1, -- HST.H_LAST
    [⟨0, 8, .ro, false, none, false⟩, ⟨8, 24, .ro, false, none, false⟩]⟩]

/-- The registers of block WIN, region 23 (R506). -/
def rowsWIN : List RegRow :=
  [⟨0x170000, 0x4, 4, 0, 1, -- WIN.OWN
    [⟨0, 32, .ro, false, none, false⟩]⟩] ++
  [⟨0x170010, 0x0, 1, 0, 1, -- WIN.XFER
    [⟨0, 6, .rw, false, none, false⟩, ⟨8, 2, .rw, false, none, false⟩, ⟨10, 2, .rw, false, none, false⟩, ⟨12, 3, .ro, false, none, false⟩, ⟨16, 16, .wo, false, none, false⟩]⟩] ++
  [⟨0x170014, 0x0, 1, 0, 1, -- WIN.ENGINE0
    [⟨0, 32, .ro, false, none, false⟩]⟩] ++
  [⟨0x170018, 0x0, 1, 0, 1, -- WIN.ENGINE1
    [⟨0, 32, .ro, false, none, false⟩]⟩] ++
  [⟨0x17001c, 0x0, 1, 0, 1, -- WIN.STATUS
    [⟨0, 1, .stk, false, none, false⟩, ⟨1, 1, .stk, false, none, false⟩, ⟨2, 6, .ro, false, none, false⟩, ⟨8, 7, .ro, false, none, false⟩]⟩]

/-- The registers of block DMA, region 24 (R506). -/
def rowsDMA : List RegRow :=
  [⟨0x180100, 0x20, 8, 0, 1, -- DMA.SRC
    [⟨0, 32, .rw, false, none, false⟩]⟩] ++
  [⟨0x180104, 0x20, 8, 0, 1, -- DMA.DST
    [⟨0, 32, .rw, false, none, false⟩]⟩] ++
  [⟨0x180108, 0x20, 8, 0, 1, -- DMA.COUNT
    [⟨0, 24, .rw, false, none, false⟩]⟩] ++
  [⟨0x18010c, 0x20, 8, 0, 1, -- DMA.CTRL
    [⟨0, 1, .rw, false, none, false⟩, ⟨1, 1, .w1s, false, none, false⟩, ⟨2, 1, .rw, false, none, false⟩, ⟨3, 1, .rw, false, none, false⟩, ⟨4, 1, .rw, false, none, false⟩, ⟨5, 1, .rw, false, none, false⟩, ⟨6, 1, .rw, false, none, false⟩, ⟨7, 1, .rw, false, none, false⟩, ⟨8, 1, .rw, false, none, false⟩]⟩] ++
  [⟨0x180110, 0x20, 8, 0, 1, -- DMA.STATUS
    [⟨0, 1, .ro, false, none, false⟩, ⟨1, 1, .w1c, false, none, false⟩, ⟨2, 1, .w1c, false, none, false⟩, ⟨3, 1, .stk, false, none, false⟩, ⟨4, 1, .ro, false, none, false⟩, ⟨5, 1, .ro, false, none, false⟩, ⟨6, 2, .ro, false, none, false⟩, ⟨8, 24, .ro, false, none, false⟩]⟩] ++
  [⟨0x180000, 0x0, 1, 0, 1, -- DMA.CTRL
    [⟨0, 1, .w1s, false, none, false⟩]⟩] ++
  [⟨0x180004, 0x0, 1, 0, 1, -- DMA.STATUS
    [⟨0, 1, .ro, false, none, false⟩, ⟨1, 1, .ro, false, none, false⟩, ⟨8, 8, .ro, false, none, false⟩, ⟨16, 16, .ro, false, none, false⟩]⟩] ++
  [⟨0x180008, 0x0, 1, 0, 1, -- DMA.ERRADDR
    [⟨0, 32, .ro, false, none, false⟩]⟩]

/-- The registers of block TWB, region 25 (R506). -/
def rowsTWB : List RegRow :=
  [⟨0x190000, 0x100, 4, 0, 1, -- TWB.CFG
    [⟨0, 1, .rw, false, none, false⟩, ⟨1, 2, .rwl, false, none, false⟩, ⟨3, 1, .rwl, false, none, false⟩, ⟨4, 1, .ro, false, none, false⟩, ⟨5, 7, .ro, false, none, false⟩, ⟨12, 1, .rw, false, none, false⟩, ⟨31, 1, .w1s, false, none, false⟩]⟩] ++
  [⟨0x190004, 0x100, 4, 0, 1, -- TWB.TIMING
    [{ lo := 0, width := 12, acc := .rw, range := some (1, 2500) }]⟩] ++
  [⟨0x190008, 0x100, 4, 0, 1, -- TWB.CMD
    [⟨0, 7, .rw, false, none, false⟩, ⟨8, 8, .rw, false, none, false⟩, ⟨16, 3, .rw, false, none, false⟩, { lo := 19, width := 6, acc := .rw, range := some (1, 32) }, ⟨31, 1, .w1s, false, none, false⟩]⟩] ++
  [⟨0x190020, 0x100, 4, 4, 8, -- TWB.DATA
    [⟨0, 32, .rw, false, none, false⟩]⟩] ++
  [⟨0x19000c, 0x100, 4, 0, 1, -- TWB.RESULT
    [⟨0, 4, .ro, false, none, false⟩, ⟨4, 2, .ro, false, none, false⟩, ⟨6, 6, .ro, false, none, false⟩]⟩] ++
  [⟨0x190010, 0x100, 4, 0, 1, -- TWB.STATUS
    [⟨0, 1, .ro, false, none, false⟩, ⟨1, 1, .ro, false, none, false⟩, ⟨2, 1, .ro, false, none, false⟩, ⟨3, 1, .ro, false, none, false⟩, ⟨8, 6, .ro, false, none, false⟩, ⟨14, 3, .ro, false, none, false⟩]⟩] ++
  [⟨0x190014, 0x100, 4, 0, 1, -- TWB.MODEERR
    [⟨0, 7, .ro, false, none, false⟩, ⟨16, 8, .ro, false, none, false⟩]⟩] ++
  [⟨0x190018, 0x100, 4, 0, 1, -- TWB.COUNTS
    [⟨0, 8, .ro, false, none, false⟩, ⟨8, 8, .ro, false, none, false⟩, ⟨16, 8, .ro, false, none, false⟩, ⟨24, 8, .ro, false, none, false⟩]⟩] ++
  [⟨0x19001c, 0x100, 4, 0, 1, -- TWB.PROTO_ERR
    [⟨0, 16, .ro, false, none, false⟩]⟩]

/-- The registers of block CPD, region 26 (R506). -/
def rowsCPD : List RegRow :=
  [⟨0x1a0000, 0x0, 1, 0, 1, -- CPD.CTRL
    [⟨0, 1, .rwl, false, none, false⟩, ⟨1, 1, .rwl, false, none, false⟩, ⟨2, 1, .rwl, false, none, false⟩, ⟨3, 1, .w1s, false, none, false⟩, ⟨31, 1, .w1s, false, none, false⟩]⟩] ++
  [⟨0x1a0004, 0x0, 1, 0, 1, -- CPD.STATUS
    [⟨0, 3, .ro, false, none, false⟩, ⟨3, 1, .ro, false, none, false⟩, ⟨4, 1, .ro, false, none, false⟩, ⟨5, 1, .ro, false, none, false⟩, ⟨6, 1, .ro, false, none, false⟩, ⟨7, 1, .ro, false, none, false⟩, ⟨8, 2, .ro, false, none, false⟩, ⟨10, 1, .ro, false, none, false⟩, ⟨11, 1, .ro, false, none, false⟩]⟩] ++
  [⟨0x1a0008, 0x0, 1, 0, 1, -- CPD.CONTRACT
    [⟨0, 16, .ro, false, none, false⟩, ⟨16, 16, .ro, false, none, false⟩]⟩] ++
  [⟨0x1a000c, 0x0, 1, 0, 1, -- CPD.SINKCFG
    [⟨0, 16, .rw, false, none, false⟩, { lo := 16, width := 16, acc := .rw, range := some (2500, 10000) }]⟩] ++
  [⟨0x1a0010, 0x0, 1, 0, 1, -- CPD.FRSCFG
    [{ lo := 0, width := 16, acc := .rw, range := some (2250, 30000) }]⟩] ++
  [⟨0x1a0014, 0x0, 1, 0, 1, -- CPD.COUNTS
    [⟨0, 8, .ro, false, none, false⟩, ⟨8, 8, .ro, false, none, false⟩, ⟨16, 8, .ro, false, none, false⟩, ⟨24, 8, .ro, false, none, false⟩]⟩]

/-- The registers of block UPD, region 27 (R506). -/
def rowsUPD : List RegRow :=
  [⟨0x1b0000, 0x0, 1, 0, 1, -- UPD.CTRL
    [⟨0, 1, .w1s, false, none, false⟩, ⟨1, 1, .w1s, false, none, false⟩, ⟨2, 1, .w1s, false, none, false⟩, ⟨3, 1, .rwl, false, none, false⟩, ⟨4, 1, .w1s, false, none, false⟩, ⟨8, 6, .rw, false, none, false⟩, ⟨14, 1, .rw, false, none, false⟩, ⟨31, 1, .w1s, false, none, false⟩]⟩] ++
  [⟨0x1b0004, 0x0, 1, 0, 1, -- UPD.INGEST
    [⟨0, 6, .rw, false, none, false⟩, { lo := 8, width := 7, acc := .rw, range := some (1, 64) }]⟩] ++
  [⟨0x1b0008, 0x0, 1, 0, 1, -- UPD.STATUS
    [⟨0, 3, .ro, false, none, false⟩, ⟨3, 1, .ro, false, none, false⟩, ⟨4, 1, .ro, false, none, false⟩, ⟨5, 1, .ro, false, none, false⟩, ⟨8, 8, .ro, false, none, false⟩]⟩] ++
  [⟨0x1b000c, 0x0, 1, 0, 1, -- UPD.PKGID
    [⟨0, 32, .ro, false, none, false⟩]⟩] ++
  [⟨0x1b0010, 0x0, 1, 0, 1, -- UPD.WINDOW
    [{ lo := 0, width := 16, acc := .rwl, range := some (60, 3600) }, ⟨16, 16, .ro, false, none, false⟩]⟩] ++
  [⟨0x1b0014, 0x0, 1, 0, 1, -- UPD.CONFIRM
    [⟨0, 16, .wo, false, none, false⟩]⟩] ++
  [⟨0x1b0018, 0x0, 1, 0, 1, -- UPD.RELAY
    [⟨0, 8, .ro, false, none, false⟩, ⟨8, 8, .ro, false, none, false⟩, ⟨16, 16, .ro, false, none, false⟩]⟩] ++
  [⟨0x1b001c, 0x0, 1, 0, 1, -- UPD.SLOTS
    [⟨0, 1, .ro, false, none, false⟩, ⟨1, 3, .ro, false, none, false⟩, ⟨4, 3, .ro, false, none, false⟩, ⟨7, 1, .ro, false, none, false⟩]⟩]

/-- The registers of block SEC, region 28 (R506). -/
def rowsSEC : List RegRow :=
  [⟨0x1c0000, 0x0, 1, 0, 1, -- SEC.STATUS
    [⟨0, 8, .ro, false, none, false⟩, ⟨8, 1, .ro, false, none, false⟩, ⟨9, 1, .ro, false, none, false⟩, ⟨10, 1, .ro, false, none, false⟩, ⟨11, 1, .ro, false, none, false⟩]⟩] ++
  [⟨0x1c0004, 0x0, 1, 0, 1, -- SEC.UID_LO
    [⟨0, 32, .ro, false, none, false⟩]⟩] ++
  [⟨0x1c0008, 0x0, 1, 0, 1, -- SEC.UID_HI
    [⟨0, 32, .ro, false, none, false⟩]⟩] ++
  [⟨0x1c000c, 0x0, 1, 0, 1, -- SEC.USBID
    [⟨0, 32, .ro, false, none, false⟩]⟩] ++
  [⟨0x1c0010, 0x0, 1, 0, 1, -- SEC.FLOOR
    [⟨0, 8, .ro, false, none, false⟩, ⟨8, 8, .ro, false, none, false⟩]⟩] ++
  [⟨0x1c0020, 0x0, 1, 0, 1, -- SEC.PROG
    [⟨0, 4, .rw, false, none, false⟩, ⟨4, 3, .ro, false, none, false⟩, ⟨31, 1, .w1s, false, none, false⟩]⟩] ++
  [⟨0x1c0040, 0x4, 28, 0, 1, -- SEC.PROGDATA
    [⟨0, 32, .wo, false, none, false⟩]⟩]

/-- The rows of region `k` (R502); none where the index gives the region no block. -/
def regRows (k : Nat) : List RegRow :=
  match k with
  | 0 => rowsGLB
  | 1 => rowsCLK
  | 2 => rowsRST
  | 3 => rowsFAB
  | 4 => rowsBEN
  | 5 => rowsPWM
  | 6 => rowsADC
  | 7 => rowsMON
  | 8 => rowsSHR
  | 9 => rowsCAP
  | 10 => rowsENG
  | 11 => rowsBAT
  | 12 => rowsSEQ
  | 13 => rowsHSW
  | 14 => rowsPRO
  | 15 => rowsTHM
  | 16 => rowsDPX
  | 17 => rowsLNK
  | 18 => rowsTIM
  | 19 => rowsSNP
  | 20 => rowsEVR
  | 21 => rowsNVS
  | 22 => rowsHST
  | 23 => rowsWIN
  | 24 => rowsDMA
  | 25 => rowsTWB
  | 26 => rowsCPD
  | 27 => rowsUPD
  | 28 => rowsSEC
  | _ => []

/-- The instance and the word of a row that an address names, if it names one. -/
def RegRow.locate (r : RegRow) (a : Nat) : Option (Nat × Nat) :=
  if a < r.base then none else
    let n := if r.stride = 0 then 0 else (a - r.base) / r.stride
    let rest := a - r.base - n * r.stride
    let k := if r.sub = 0 then 0 else rest / r.sub
    if n < r.count ∧ k < r.subCount ∧ rest = k * r.sub then some (n, k) else none

/-- The row that an address of the register space belongs to (R506). -/
def rowAt (a : Nat) : Option RegRow := (regRows (a / 0x10000)).find? (fun r => (r.locate a).isSome)

end Sys2Proof.Machine
end

