-- ==== Sys2Proof/Machine/State.lean ====
section
/-! DEFINITION. The state of the KSC960: its registers, the state the blocks keep behind them, its memories, its time and
the queue of the commands that are waiting. Plain data. -/

namespace Sys2Proof.Machine

/-- The drive condition of a PWM pin (R44, R323). -/
inductive Cond where
  | passive | low | high | z | off
  deriving DecidableEq, Repr

/-- The code of a drive condition in PWM.p.STATUS.COND. -/
def Cond.code : Cond → Nat
  | .passive => 0
  | .low => 1
  | .high => 2
  | .z => 3
  | .off => 4

/-- The states of a Bench (R165). -/
inductive BState where
  | off | prestart | ramp | reg | stopping | forced
  deriving DecidableEq, Repr

/-- The code of a Bench state in BEN.n.STATUS.STATE. -/
def BState.code : BState → Nat
  | .off => 0
  | .prestart => 1
  | .ramp => 2
  | .reg => 3
  | .stopping => 4
  | .forced => 5

/-- The states of a slot (R277). -/
inductive SState where
  | empty | seating | seated | check | ramp | good | tripped | shed | forced | lockout
  deriving DecidableEq, Repr

/-- The code of a slot state in HSW.n.STATUS.STATE. -/
def SState.code : SState → Nat
  | .empty => 0
  | .seating => 1
  | .seated => 2
  | .check => 3
  | .ramp => 4
  | .good => 5
  | .tripped => 6
  | .shed => 7
  | .forced => 8
  | .lockout => 9

/-- The states of a live rail (R258). -/
inductive RState where
  | off | wait | start | good | downwait | stop | failed | shed
  deriving DecidableEq, Repr

/-- The 2-bit state by which a rail is reported: OFF, UP or GOOD (R382). -/
def RState.report : RState → Nat
  | .off => 0
  | .wait => 0
  | .shed => 0
  | .good => 2
  | _ => 1

/-- The code of a rail state in SEQ.r.STATE.STATE. -/
def RState.code : RState → Nat
  | .off => 0
  | .wait => 1
  | .start => 2
  | .good => 3
  | .downwait => 4
  | .stop => 5
  | .failed => 6
  | .shed => 7

/-- The rail state of a code. -/
def RState.ofCode : Nat → RState
  | 1 => .wait
  | 2 => .start
  | 3 => .good
  | 4 => .downwait
  | 5 => .stop
  | 6 => .failed
  | 7 => .shed
  | _ => .off

/-- One raised fault source: its base class, its class in effect and whether it is acknowledged (R329 to R331). -/
structure Raised where
  src : Nat
  base : Cls
  eff : Cls
  acked : Bool
  deriving DecidableEq, Repr

/-- One recorder record (R411): type, flags, sequence number, TIM tick and payload bytes. -/
structure Rec where
  typ : Nat
  flags : Nat
  seq : Nat
  tick : Nat
  payload : List Nat
  deriving DecidableEq, Repr

/-- A current-sense channel (R26, R158, R159): the latest code and its sample tick, the runs of the two checks, the sums and the checks of
the open update window and of the one after it, and the latest samples with their sample ticks, newest first (R214). -/
structure Chan where
  last : Int := 0
  tick : Nat := 0
  seen : Bool := false
  stuckRun : Nat := 0
  rangeRun : Nat := 0
  sum : Int := 0
  cnt : Nat := 0
  nextSum : Int := 0
  nextCnt : Nat := 0
  stuckWin : Bool := false
  rangeWin : Bool := false
  stuckNext : Bool := false
  rangeNext : Bool := false
  win : List (Nat × Int) := []
  deriving DecidableEq, Repr

/-- One phase of a Bench, in the order of the plane's phase map (R156 to R190). `lowAt` is the tick from which the pin is LOW whatever
`cond` says: the end of an on-time or of a cut pulse. `start` is the tick of the present period's start, `onNow` its on-time in grid units,
`on` that of the last completed period; `short` tells of a period of the open window whose on-time was below 10 %. `was` is the duty before the
last update; `bump` marks an
integrator that the next update takes as it is set (R147). -/
structure Phase where
  pin : Nat
  chan : Nat
  safeZ : Bool
  switching : Bool := false
  shed : Bool := false
  dropped : Bool := false
  joining : Bool := false
  leaving : Bool := false
  cond : Cond := .passive
  lowAt : Option Nat := none
  start : Nat := 0
  offset : Nat := 0
  goal : Nat := 0
  on : Nat := 0
  onNow : Nat := 0
  short : Bool := false
  duty : Rat := 0
  was : Rat := 0
  bal : Rat := 0
  ic : Rat := 0
  bump : Bool := false
  wait : Nat := 0
  dropRun : Nat := 0
  limited : Bool := false
  limWin : Bool := false
  limRun : Nat := 0
  tripWin : Bool := false
  mean : Rat := 0
  deriving DecidableEq, Repr

/-- The condition of a phase's pin at a tick: LOW once its HIGH has ended (R156, R189). -/
def Phase.condAt (p : Phase) (t : Nat) : Cond :=
  match p.lowAt with
  | some e => if e ≤ t then .low else p.cond
  | none => p.cond

/-- A last-fault record waiting for the vault (R199 to R202): the bytes of the record but its CRC. -/
structure LastFault where
  bytes : List Nat
  deriving DecidableEq, Repr

/-- A stretch of a Bench's ramp that has ended: its first tick, the position there, where it went and its rate (R163, R166). -/
structure RampSeg where
  tick : Nat
  vr : Nat
  vt : Nat
  slew : Nat
  deriving DecidableEq, Repr

/-- A feedback result as its Bench takes it (R163): the reading in V16 steps of rail volts, its sample tick, and the ramp position at it. -/
structure FbRead where
  v : Rat
  tick : Nat
  vr : Rat
  deriving DecidableEq, Repr

/-- A first failure latched in a tick: the tick, the rail, and the bytes of its record but COUNT and the CRC (R273, R274). -/
structure FirstFail where
  tick : Nat
  rail : Nat
  bytes : List Nat
  deriving DecidableEq, Repr

/-- A last-fault record latched in a tick: the tick and the lowest source that has acted in it so far (R199). -/
structure LfMark where
  tick : Nat
  src : Nat
  deriving DecidableEq, Repr

/-- What a Bench holds besides its registers (R165 to R202). Voltages of the ramp are nanovolts at the rail: one V16
step is 2,000,000 nV and one SLEW step is 5 nV in a tick (R166). `vt` is where the ramp goes, `vtEff` the target in effect and
`vtTick` the tick of its last change (R168); `hist` the ramp's ended stretches, newest first; `seqMargin` the tick and the word of SEQ's
latest MARGIN write. Deadlines are LOOP ticks. `epoch` is E of R158 and `kth` the number of the open window from it; `updTick` is the tick
in which the last update delivered. `cmd` is the last I_cmd after its clamp; `dlim` where a VM plane's limit loop holds D_v. `zTick` is the
tick in which a STOP ended a pre-start test, `stopFrom` that of the last STOP with the state it found, `ranAt` that in which a force took a
Bench whose updates ran, `forcedAt` that of the last force. `ovArm` says that OVP has been armed by a force out of OFF and its outputs are still to be looked at.
`fbNext` is a feedback result that came after the open window closed (R160). `nlGo` is the tick before which no phase resumes after a nonlinear event.
`adds` are the phases that a plane swap added and the next update joins, `left` those it removed that have yet to leave. -/
structure Bench where
  active : Plane := {}
  shadow : Plane := {}
  phases : List Phase := []
  vr : Nat := 0
  vrTick : Nat := 0
  vt : Nat := 0
  vtEff : Nat := 0
  vtTick : Option Nat := none
  slew : Nat := 0
  hist : List RampSeg := []
  seqMargin : Option (Nat × Nat) := none
  startHeld : Bool := false
  zUpdate : Bool := false
  zEnd : Nat := 0
  zTick : Option Nat := none
  stopFrom : Option (Nat × Nat) := none
  ranAt : Option Nat := none
  forcedAt : Option Nat := none
  ovArm : Bool := false
  v0 : Nat := 0
  psEntry : Nat := 0
  psRun : Bool := false
  psBiasOk : Bool := false
  psNext : Nat := 0
  psTested : List Nat := []
  psPulseEnd : Nat := 0
  iv : Rat := 0
  dv : Rat := 0
  y : Rat := 0
  cmd : Rat := 0
  dlim : Option Rat := none
  bump : Bool := false
  ePrev : Rat := 0
  fb : Rat := 0
  fbTick : Nat := 0
  fbVr : Rat := 0
  fbNew : Bool := false
  fbNext : Option FbRead := none
  fold : Rat := 1
  period : Nat := 0
  epoch : Nat := 0
  kth : Nat := 1
  updTick : Option Nat := none
  updates : Nat := 0
  iout : Rat := 0
  limStart : Option Nat := none
  limDone : Bool := false
  nlUnder : Bool := false
  nlFrom : Nat := 0
  nlEnd : Nat := 0
  nlWin : Bool := false
  nlResume : Bool := false
  nlGo : Nat := 0
  nlUnderHold : Nat := 0
  nlOverHold : Nat := 0
  sinceNl : Nat := 64
  shedRun : Nat := 0
  senseRun : Nat := 0
  railOc : Bool := false
  limTrip : Bool := false
  thmLim : Option Nat := none
  capLim : Option Rat := none
  lf : Option LastFault := none
  lfBusy : Bool := false
  lfMark : Option LfMark := none
  adds : List Nat := []
  left : List Phase := []
  deriving DecidableEq, Repr

/-- A monitor input (MON 0 to 63, HVM 64 to 71): the runs of its converter-tier window and of OVP and UVP, the
comparator outputs of a fast-tier pair, and the reading in V16 of the rail (R253, R254, R321). -/
structure MonIn where
  loRun : Nat := 0
  hiRun : Nat := 0
  ovRun : Nat := 0
  uvRun : Nat := 0
  cmpLo : Bool := false
  cmpHi : Bool := false
  rv : Rat := 0
  tick : Nat := 0
  valid : Bool := false
  deriving DecidableEq, Repr

/-- What SEQ holds of a rail besides SEQ.r.STATE (R256 to R272): the ticks of its states are TIM ticks, those of its readings and its
deadlines LOOP ticks. `read` is the sample tick of its latest reading; `everUp` says that an OFF rail can still impose a STOPDELAY. -/
structure RailSt where
  rail : Nat
  goodTick : Nat := 0
  offTick : Nat := 0
  shedTick : Nat := 0
  read : Nat := 0
  goodRun : Option Nat := none
  failRun : Option Nat := none
  warnRun : Option Nat := none
  inWin : Bool := false
  deadline : Option Nat := none
  started : Bool := false
  startFail : Bool := false
  everUp : Bool := false
  ref : Nat := 0
  refNew : Option Nat := none
  settle : Option Nat := none
  deriving DecidableEq, Repr

/-- What SEQ holds of a request group besides SEQ.g.STAT (R261 to R265); `onAt` and `offAt` are the ticks of its latest requests. -/
structure Group where
  offSet : List Nat := []
  down : Bool := false
  pend : Bool := false
  requal : Option Nat := none
  onAt : Option Nat := none
  offAt : Option Nat := none
  deriving DecidableEq, Repr

/-- The drive of a slot's gate (R277, R282). -/
inductive Gate where
  | sink | source | hold
  deriving DecidableEq, Repr

/-- One Kerf lane (R285 to R289). -/
structure Lane where
  failed : Bool := false
  suspect : Bool := false
  raw : Bool := false
  disRun : Nat := 0
  deriving DecidableEq, Repr

/-- What HSW holds of a slot besides its registers (R277 to R294). Deadlines are LOOP ticks. `highA` and `highB` are the ticks from which a
seating input has read high; `rampAt` that of the entry to RAMP; `soaAt` the sample tick of the VDS result whose SOA window is open; `ranAt` the
tick in which the slot last left RAMP or GOOD (R295). `locked` says that a lockout stands, `lockHard` that FETSHORT or LANEFAIL2 brought it
(R292); `testLane` is the lane under test and the tick at which it returns to the voter (R288). -/
structure Slot where
  state : SState := .empty
  gate : Gate := .sink
  enable : Bool := false
  seatEnd : Option Nat := none
  highA : Option Nat := none
  highB : Option Nat := none
  oddSince : Option Nat := none
  retryEnd : Option Nat := none
  coolEnd : Option Nat := none
  checkEnd : Option Nat := none
  checkBad : Bool := false
  checkRise : Bool := false
  overAt : Option Nat := none
  vsFirst : Option Nat := none
  vsRoll : List Nat := []
  imean : Rat := 0
  tripAt : Option Nat := none
  lastOn : Nat := 0
  shunts : List Int := []
  rampAt : Nat := 0
  soaVds : Nat := 0
  soaAt : Option Nat := none
  soaCount : Nat := 0
  rampEnd : Option Nat := none
  pgEnd : Option Nat := none
  ocEnd : Option Nat := none
  fetEnd : Option Nat := none
  gateEnd : Option Nat := none
  cleanEnd : Option Nat := none
  enh : Bool := false
  vds : Nat := 0
  shorted : Bool := false
  fetHigh : Bool := false
  reqCap : Bool := false
  reqForce : Bool := false
  reqEng : Bool := false
  shedWait : Bool := false
  latch : Bool := false
  kerfNew : Bool := false
  locked : Bool := false
  lockHard : Bool := false
  ranAt : Option Nat := none
  testLane : Option (Nat × Nat) := none
  back : SState := .seated
  laneA : Lane := {}
  laneB : Lane := {}
  laneC : Lane := {}
  deriving DecidableEq, Repr

/-- A lane test under way (R288): slot, lane and the tick of its row 0; whether it will see the lane asserted and then not asserted; whether its
place was that of the rotation; how many of its two checks are done, and whether one was missed. -/
structure LaneRun where
  slot : Nat
  lane : Nat
  start : Nat
  seen : Bool
  fell : Bool
  turn : Bool
  checks : Nat := 0
  missed : Bool := false
  deriving DecidableEq, Repr

/-- The schedule of the lane tests (R288): the tick from which the next test may begin, the place of the rotation, the test under way. -/
structure LaneSched where
  due : Nat := 0
  pos : Nat := 0
  run : Option LaneRun := none
  deriving DecidableEq, Repr

/-- What SNP holds besides its registers (R402 to R406): the latch tick of the last latched Clamp, the origins already
latched, whether EVR has copied the held set, the snapshot registers, each under its source's address, the high words of r and c
that a read of the low word latches, the Clamps of TRIPs and HALTs due in the next tick, and of the registers outside LOOP the tick in which
their copies latch, the copies, and what the mirrors held in the last ten ticks. -/
structure Snap where
  c0 : Option Nat := none
  seen : List (Nat × Nat) := []
  copied : Bool := false
  regs : List (Nat × Nat) := []
  pulseEnd : Option Nat := none
  refHi : Nat := 0
  latHi : Nat := 0
  trips : Nat := 0
  lateAt : Option Nat := none
  far : List (Nat × Nat) := []
  mirror : List (List (Nat × Nat)) := []
  deriving DecidableEq, Repr

/-- A recorder page on the storage ports (R415, R417): block, page in it, the ports that hold it as a mask, its records. -/
structure StPage where
  block : Nat
  index : Nat
  ports : Nat
  recs : List Rec
  deriving DecidableEq, Repr

/-- What EVR holds besides its registers (R408 to R422): the records staged in the capture ring, the records on the
storage ports, the page being written, the losses not yet declared, the state of the waveform sampler, the port that SINGLE uses, the blocks of
each port that are retired (R416), and OLDEST as the last successful clear left it (R421). -/
structure Evr where
  staged : List Rec := []
  stored : List StPage := []
  page : List Rec := []
  pageBusy : Bool := false
  pageNow : Bool := false
  flushAt : Option Nat := none
  lostN : Nat := 0
  lostFirst : Nat := 0
  lostLast : Nat := 0
  block : Nat := 0
  scanned : Bool := false
  checkSlot : Nat := 0
  waves : List (List Nat) := []
  samples : Nat := 0
  newest : Nat := 0
  trig : Option Nat := none
  trigNo : Nat := 0
  post : Nat := 0
  nch : Nat := 1
  nonce : List Nat := []
  nonceEnd : Option Nat := none
  reading : Bool := false
  clearer : Nat := 0
  clearing : Bool := false
  clearFresh : Bool := false
  index : Nat := 0
  clearSlot : Nat := 0
  port : Nat := 0
  retired : List (Nat × Nat) := []
  cleared : Option Nat := none
  deriving DecidableEq, Repr

/-- The header of an Igkulink frame (R380); `dst` is that of a long frame. -/
structure Head where
  typ : Nat
  hops : Nat := 0
  src : Nat
  seq : Nat
  dst : Nat
  deriving DecidableEq, Repr

/-- A symbol of Igkulink (R379): a byte, or the control symbols K28.5, K27.7, K29.7, K30.7, K28.0 and K28.6. -/
inductive Sym where
  | byte (b : Nat)
  | comma
  | start
  | end_
  | bad
  | suspend
  | marker
  deriving DecidableEq, Repr

/-- What the device gives out in a step, for the surroundings to take: frames on Igkulink, writes queued to the two-wire
buses, pulses and messages. A frame of this node's own on Igkulink is given out under its header (R380) as it becomes ready, and
any frame again as `left_` when its last symbol has left a port (R381). The list holds what has been given out since the last tick of the empty queue (log entry 4). -/
inductive Out where
  | clampFrame (origin tick cause scope : Nat)
  | clampPin (high : Bool)
  | twb (bus addr proto code : Nat) (bytes : List Nat) (pec : Bool)
  | frame (kind : Nat) (bytes : List Nat)
  | image (head data : List Nat)
  | forward (port : Nat) (head : Head) (data : List Nat) (good : Bool)
  | reply (port : Nat) (bytes : List Nat)
  | pd (msg : Nat) (bytes : List Nat)
  | peer (items : List (Nat × PeerItem))
  | own (head : Head) (item : Out)
  | left_ (port : Nat) (item : Out)
  deriving DecidableEq, Repr

/-- What a vault write brings when its last unit is done (R423). -/
inductive VKind where
  | lastFault (n : Nat)
  | firstFail
  | checkpoint
  | clearCopy
  | battery (s : Nat)
  | user
  | header
  deriving DecidableEq, Repr

/-- A write waiting for the vault: byte address, the bytes still to be written, and whose it is (R423). -/
structure VWrite where
  addr : Nat
  bytes : List Nat
  kind : VKind
  deriving DecidableEq, Repr

/-- The vault: its bytes, the write under way and those waiting, and whether writes are forbidden (R350, R423). -/
structure Vault where
  bytes : List Host.Cell := []
  queue : List VWrite := []
  forbidden : Bool := false
  ffWait : List (List Nat) := []
  ffCount : Nat := 0
  ffHeld : Option FirstFail := none
  ffNext : Nat := 0
  deriving DecidableEq, Repr

/-- A temperature sensor (R340 to R348): the runs of readings, the restart window, whether its shutdown stands, whether it has
been read, and the runs of readings that forbid and permit vault writes (R350). -/
structure Sensor where
  warnRun : Nat := 0
  warnClr : Nat := 0
  thrRun : Nat := 0
  thrClr : Nat := 0
  shutRun : Nat := 0
  fixRun : Nat := 0
  shut : Bool := false
  byFix : Bool := false
  restEnd : Option Nat := none
  backAt : Option Nat := none
  raw : Int := 0
  seen : Bool := false
  hot : Nat := 0
  cool : Nat := 0
  deriving DecidableEq, Repr

/-- What the SAFE domain holds of sensor 1 (R346 to R348): SHUT, RESTART in sixteenths of a degree, RESTDLY in seconds, and
the restart window of SAFESHUT. -/
structure SafeThm where
  shut : Int := 2160
  restart : Int := 1840
  dly : Nat := 10
  asserted : Bool := false
  restEnd : Option Nat := none
  run : Nat := 0
  deriving DecidableEq, Repr

/-- Who queued a two-wire transaction, in the order of precedence of R457. -/
inductive TxSrc where
  | seq (r : Nat)
  | bat (s : Nat)
  | vout (r : Nat)
  | poll (r : Nat)
  | fw
  deriving DecidableEq, Repr

/-- One operation on a two-wire bus: a protocol with its code and bytes (protocol numbers as in TWB.x.CMD.PROTO), the read of
VOUT_MODE, or a VOUT_COMMAND write of a voltage in V16 steps (R455, R456). -/
inductive TwOp where
  | raw (code proto : Nat) (bytes : List Nat)
  | readMode
  | vout (v : Rat)
  deriving DecidableEq, Repr

/-- A two-wire transaction: who queued it, its target and its operations, which nothing else comes between (R455, R457). -/
structure Txn where
  src : TxSrc
  addr : Nat
  ops : List TwOp
  deriving DecidableEq, Repr

/-- What a two-wire controller holds besides its registers (R457 to R460): the queue, the transaction under way with its attempts
and lost arbitrations, the VOUT_MODE byte of each target met, and the tick of the next clear of a stuck bus. -/
structure TwBus where
  queue : List Txn := []
  cur : Option Txn := none
  attempts : Nat := 0
  losses : Nat := 0
  modes : List (Nat × Nat) := []
  retryAt : Option Nat := none
  deriving DecidableEq, Repr

/-- What SHR holds of a rectifier besides SHR.r.STATE (R209 to R213): the runs of windows of the live rule and of
polls, whether the present run of polls has raised SHRDIS, whether its VOUT_COMMAND write is still to be repeated with its next poll, and
whether a poll of it has ended, with an answer or none (R115). -/
structure Rect where
  lowRun : Nat := 0
  shortRun : Nat := 0
  run : Nat := 0
  told : Bool := false
  stale : Nat := 0
  retry : Bool := false
  asked : Bool := false
  deriving DecidableEq, Repr

/-- A sum that a rack manager holds of one half of its ring (R390, R391): the half, the sequence number, the summed P_load and
P_draw in milliwatts, the LOOP tick of its arrival, and whether it was filled in for a CAPSUM that did not come. -/
structure RackHalf where
  half : Nat
  seq : Nat
  pload : Nat
  pdraw : Nat
  tick : Nat
  filled : Bool := false
  deriving DecidableEq, Repr

/-- What SHR and CAP hold besides their registers (R206, R215 to R224): the integrator and i_t in amperes, the ceiling, the
active audit's cut, the throttle groups CAP asserts, the slots it shed (most recent first: slot, relief in watts, tick), and the
deadlines of the steps, the release and CAPMISS. `epis` is the tick at which the present excess began, `iRaw` the loop's output before its
clamp, `gone` the reliefs, with their ticks, of slots that tripped in the tick in which they were shed (R226), `rackLoad` and `rackDraw` a
manager's latest sums (R224). -/
structure Cap where
  iInt : Rat := 0
  iRaw : Rat := 0
  iT : Rat := 0
  ceil : Option Rat := none
  cut : Rat := 0
  pollAt : Nat := 0
  thr : Nat := 0
  shed : List (Nat × Rat × Nat) := []
  gone : List (Rat × Nat) := []
  force : Nat := 0
  epis : Option Nat := none
  thrNext : Option Nat := none
  shedAt : Option Nat := none
  shedOpen : Bool := false
  relEnd : Option Nat := none
  missAt : Option Nat := none
  overAt : Option Nat := none
  pneed : Rat := 0
  pcap : Rat := 0
  sent : List (Nat × Nat) := []
  rackLoad : Nat := 0
  rackDraw : Nat := 0
  halves : List RackHalf := []
  rackQ : Bool := false
  rackRel : Option Nat := none
  deriving DecidableEq, Repr

/-- One landing group as ENG follows it (R233, R241): the samples of the present millisecond, the falling list of its 1 ms means
with their ticks (newest first), the power in use in watts, and whether it has been taken down. -/
structure LandSt where
  sum : Rat := 0
  cnt : Nat := 0
  peaks : List (Nat × Rat) := []
  power : Rat := 0
  down : Bool := false
  deriving DecidableEq, Repr

/-- The audit of one BUSCAP store (R244, R245): the accepted values in farads, whether it has been complete once, the net current of each past
microsecond with its end and whether anything disturbed it, the bus readings in V16 with their sample ticks, all newest first, and the tick of
the last step judged. -/
structure AuditSt where
  est : List Rat := []
  done : Bool := false
  net : List (Nat × Rat × Bool) := []
  volts : List (Nat × Rat) := []
  stepAt : Option Nat := none
  deriving DecidableEq, Repr

/-- A run of a loss condition (R231, R236): its first tick, and the drawn energy and E_rect as they then stood, in joules. -/
structure LossRun where
  since : Nat
  draw : Rat
  rect : Rat
  deriving DecidableEq, Repr

/-- What ENG holds besides its registers (R231 to R246): energies in joules, powers in watts, deadlines in LOOP ticks. `draw` is
the energy drawn through the rectifiers so far; `upsets` are the spans of ticks in which a nonlinear event, a Kerf trip or a cap step lay, `capSeen` is
CAP.STATUS as it last stood (R244); the `Hi` fields are the live high words behind the latched ones. -/
structure Eng where
  lost : Bool := false
  base : LossRun := ⟨0, 0, 0⟩
  draw : Rat := 0
  bus : Option LossRun := none
  ac : List (Option LossRun) := []
  goodSince : Option Nat := none
  w : Nat := 0
  frozen : Bool := false
  groups : Vector LandSt 8 := Vector.replicate 8 {}
  nonland : LandSt := {}
  audits : Vector AuditSt 4 := Vector.replicate 4 {}
  reqAt : Option Nat := none
  auditAt : Nat := 0
  cutEnd : Option Nat := none
  upsets : List (Nat × Nat) := []
  capSeen : Nat := 0
  availHi : Nat := 0
  batHi : Nat := 0
  warnHi : Nat := 0
  deriving DecidableEq, Repr

/-- A reference point from which a capacity may be learned (R309): the state of charge, its uncertainty, the confidence, and the
counted charge and charge uncertainty at that point. `sure` marks the point at which INCONSISTENT set. -/
structure Anchor where
  s : Rat
  u : Rat
  conf : Nat
  q : Rat
  uq : Rat
  sure : Bool
  deriving DecidableEq, Repr

/-- What BAT holds of a string besides its registers (R298 to R312): charge in coulombs (`qAll` and `uqAll` are not reset by a reference, so that an anchor can
tell what was added since), resistances in ohms, fractions of the capacity, deadlines and ages in LOOP ticks; `absent` once an absence is judged
(R311); `irHi` and `irLo` the currents of the last 10 minutes that may still be their highest and lowest, `recent` the results of the last
millisecond with their sample ticks, newest first; `resAt` the last record written for R (R310). -/
structure Str where
  q : Rat := 0
  qAll : Rat := 0
  uq : Rat := 0
  uqAll : Rat := 0
  cap : Rat := 0
  ucap : Rat := 0
  res : Rat := 0
  est : Bool := false
  conf0 : Nat := 0
  refAt : Nat := 0
  restSince : Option Nat := none
  fullSince : Option Nat := none
  irSince : Option Nat := none
  irHi : List (Nat × Rat) := []
  irLo : List (Nat × Rat) := []
  reqAt : Option Nat := none
  chgBadSince : Option Nat := none
  tForbid : Bool := false
  tOkSince : Option Nat := none
  absSince : Option Nat := none
  presSince : Option Nat := none
  absent : Bool := false
  goneAt : Nat := 0
  estSince : Option Nat := none
  perm : Option Nat := none
  permAt : Nat := 0
  anchor : Option Anchor := none
  lastI : Rat := 0
  lastV : Nat := 0
  lastAt : Nat := 0
  steps : List Rat := []
  recent : List (Nat × Rat × Nat) := []
  stored : Rat := 0
  resAt : Option Nat := none
  count : Nat := 0
  slot : Nat := 1
  wait : Option (List Nat) := none
  busy : Bool := false
  ta : Option Rat := none
  tb : Option Rat := none
  ebat : Nat := 0
  deriving DecidableEq, Repr


/-- What DPX holds besides its registers (R355 to R371). Deadlines are LOOP ticks; `items` waits for its use ticks; `give` is what the next frame carries; `swHi` is the
live high word behind the latched one; `keptPwm` and `keptGate` are the levels that the keepers hold until `keeper` (R54, R357); `reqAt` is the tick in which REFEREE_REQ_N is sunk, `handAt` the tick of a
HANDOVER's write and of its use, `handDone` that of the release, `refAt` that of the last change of REFEREE_ACT, `driveAt` the tick in which the device drives and its state then (R365 to R370);
`told` once the manager has decided (R366). `writeAt` is the arrival tick of the last SYS write (R359, R360), `trips` the trip wires seen in the
frame period, `dig` the digest of the outputs of the period so far, `digests` those of past periods by number (R358, R364), `backlog` the bytes of
items that wait for room in a frame (R358), `hbAt` the tick from which REFEREE_HB may toggle, `synced` once SYNC's state has been sent (R371). -/
structure Dpx where
  items : List (Nat × PeerItem) := []
  give : List (Nat × PeerItem) := []
  lastFrame : Option Nat := none
  reqEnd : Option Nat := none
  syncEnd : Option Nat := none
  splitEnd : Option Nat := none
  resolveEnd : Option Nat := none
  resolved : Bool := false
  keeper : Option Nat := none
  keptPwm : List Cond := []
  keptGate : List Gate := []
  hb : Bool := false
  pairBad : Bool := false
  skew : Bool := false
  byMismatch : Bool := false
  byLate : Bool := false
  swHi : Nat := 0
  reqAt : Option Nat := none
  handAt : Option (Nat × Nat) := none
  driveAt : Option (Nat × Nat) := none
  told : Bool := false
  handDone : Option Nat := none
  refAt : Option Nat := none
  writeAt : Option Nat := none
  trips : Nat := 0
  dig : Nat := 0
  digests : List (Nat × Nat) := []
  backlog : List Nat := []
  hbAt : Nat := 0
  synced : Bool := false
  deriving DecidableEq, Repr

/-- A port of Igkulink while it trains (R385). -/
structure PortSt where
  acqEnd : Option Nat := none
  ident : Nat := 0
  identAddr : Nat := 0
  deriving DecidableEq, Repr

/-- What a node knows of a ring node (R396, R398): its ring index, address and ports from its latest LINKSTAT, and the ticks of its
last frame and its last FAULTSUM. -/
structure LinkNode where
  index : Nat
  addr : Nat
  east : Bool
  west : Bool
  seen : Nat
  sum : Nat
  deriving DecidableEq, Repr

/-- What a manager holds of one side of a pair it arbitrates (R395). -/
structure ArbSide where
  seen : Option Nat := none
  state : Nat := 0
  selfOk : Bool := true
  timedOut : Bool := false
  deriving DecidableEq, Repr

/-- What a manager holds of a pair it arbitrates: its position, its two sides, and the tick at which the standby reported a loss of
lockstep that the active has not followed. -/
structure PairArb where
  pos : Nat
  a : ArbSide := {}
  b : ArbSide := {}
  lossAt : Option Nat := none
  deriving DecidableEq, Repr

/-- A frame that waits at a port or is in progress there: its type, the symbols still to be sent, the tick in which it became ready, the port
by which a forwarded one came, and what it is (R380, R381, R383). -/
structure TxFrame where
  typ : Nat
  syms : List Sym
  at_ : Nat
  inp : Option Nat := none
  item : Out
  deriving DecidableEq, Repr

/-- A port's transmitter: the frames ready to be sent in the order in which they became ready, the frame in progress over those that it
suspends, how far the present symbol is, in sixteenths, that symbol and its ten bits on the line, and whether the running disparity after it
is positive (R379, R381). -/
structure TxPort where
  queue : List TxFrame := []
  stack : List TxFrame := []
  phase : Nat := 0
  sym : Sym := .comma
  line : Nat := 0b0011111010
  plus : Bool := true
  deriving DecidableEq, Repr

/-- What LNK holds besides its registers (R380, R381, R384, R385, R395 to R398): the ports' transmitters, the next SEQ of each TYPE that it has sent, broadcasts of which one copy has come, the tick of the manager's
last frame, the end of a tunnel access, who sent the latest TUNNEL request, and the Clamps relayed by origin and tick. -/
structure Link where
  ports : Vector PortSt 3 := Vector.replicate 3 {}
  tx : Vector TxPort 3 := Vector.replicate 3 {}
  seqs : List (Nat × Nat) := []
  nodes : List LinkNode := []
  copies : List (Nat × Nat × Nat) := []
  mgrSeen : Nat := 0
  mgrLost : Bool := false
  nodeLost : List Nat := []
  tunEnd : Option Nat := none
  tunFrom : Option Nat := none
  relayed : List (Nat × Nat) := []
  pairs : List PairArb := []
  deriving DecidableEq, Repr

/-- What TIM holds besides its registers (R121, R387, R389): whether CLK READY has set since the cold reset, from which on the counter runs,
whether the node has ever locked, the run of good exchanges, the tick of the last
one, the end of a root's listening, the correction still to be made tick by tick, and the rate tracked against the parent, in increments per
2^32 ticks, with the part of an increment that it has come to. -/
structure TimSt where
  counts : Bool := false
  locked : Bool := false
  run : Nat := 0
  last : Nat := 0
  listenEnd : Option Nat := none
  adj : Int := 0
  lastAdj : Nat := 0
  rate : Int := 0
  part : Int := 0
  deriving DecidableEq, Repr



/-- The supplies (R61, R62, R67): each feed at or above its feed-good threshold since it was last lost, whether it was good once and was
lost since, VBUS_S above its threshold, and VHK below 4.85 V (R65, R68). -/
structure Supply where
  a : Bool := false
  b : Bool := false
  lostA : Bool := false
  lostB : Bool := false
  s : Bool := false
  vhkLow : Bool := false
  deriving DecidableEq, Repr

/-- A pulse-handshake crossing (R100): a transfer running, the pulses waiting at the source, and its OVERRUN bit. -/
structure PulseX where
  busy : Bool := false
  count : Nat := 0
  overrun : Bool := false
  deriving DecidableEq, Repr

/-- The level-merging crossing of PRO's ALERT into SYS (R101): the LOOP tick at which its latest assertion is acknowledged, its MERGED bit,
and whether that bit has set since the last tick. -/
structure LevelX where
  ackAt : Option Nat := none
  merged : Bool := false
  again : Bool := false
  deriving DecidableEq, Repr

/-- A dual-clock FIFO (R97 to R99): its READY bit and its DROP counter. -/
structure FifoSt where
  ready : Bool := true
  drop : Nat := 0
  deriving DecidableEq, Repr

/-- What RST and the boot ROM hold (R43, R105 to R114): whether a cold reset and a SYS reset hold, the end of a SYS hold, the SYS
PLL's loss, the watchdog's expiry tick or what was left of it while a debugger halts the core, the ROM's progress (`bankBad`: on a warm
boot the image in core memory did not verify), whether service mode was entered for want of a feed (`bySupply`), and the deadline of a host
boot with the pages of its bitstream taken so far and their bytes (R140), and TIM's tick as the last reset ended (R412). Ticks are of `now`. -/
structure RstSt where
  cold : Bool := true
  porst : Bool := false
  sys : Bool := false
  sysEnd : Option Nat := none
  coldEnd : Option Nat := none
  wdtEnd : Option Nat := none
  wdtLeft : Option Nat := none
  halted : Bool := false
  stopped : Bool := false
  rom : Bool := false
  tries : Nat := 0
  fwOk : Bool := false
  bankBad : Bool := false
  bySupply : Bool := false
  firstTick : Nat := 0
  hostEnd : Option Nat := none
  stream : Nat := 0
  streamed : List Nat := []
  deriving DecidableEq, Repr

/-- A write that hangs in a stopped domain (R92, R93). -/
structure Hung where
  master : Master
  addr : Nat
  word : Nat
  deriving DecidableEq, Repr

/-- What the fabric holds besides FAB's registers (R134, R144, R145): the outputs, logic outputs and timers of the Dowels (Dowel,
logic, the tick its window ends, edges counted), the Benches whose shadow planes a partial load is writing, and the strobes' ticks. -/
structure DowelSt where
  dowel : Nat
  logic : Bool := false
  deadline : Option Nat := none
  edges : Nat := 0
  deriving DecidableEq, Repr

/-- A request of a host-like port (R427, R429): command code, address, data word or bytes, length. -/
structure PortReq where
  cmd : Nat
  addr : Nat
  word : Nat := 0
  len : Nat := 0
  bytes : List Nat := []
  deriving DecidableEq, Repr

/-- The request slot of a port (R429): the request outstanding, and a read's held result. -/
structure ReqPort where
  pend : Option PortReq := none
  held : Option (PortReq × List Nat) := none
  deriving DecidableEq, Repr

/-- What the two-wire target holds (R463 to R466): REG_ADDR, the status of the last E1h request, whether the alert line has been
answered since ALERT last rose. -/
structure Target where
  addr : Nat := 0
  stat : Nat := 0
  answered : Bool := false
  deriving DecidableEq, Repr

/-- What CPD holds besides its registers (R469 to R479): the at-attach role and the present role (true source), the contract asked for (V16, 10 mA) and whether its Accept has come, whether the first contract as source has been
made, whether a DR_Swap of ours is open, the partner's Fast Role Swap current, the end of an error recovery, and the reply that
the USB host has still to collect. -/
structure Cpd where
  attachSrc : Bool := false
  source : Bool := false
  want : Option (Nat × Nat) := none
  changing : Bool := false
  first : Bool := false
  drOpen : Bool := false
  frsCurrent : Nat := 0
  openEnd : Option Nat := none
  reply : Option (List Nat) := none
  deriving DecidableEq, Repr

/-- A storage port (R416): page bytes, pages in a block, recorder blocks. -/
structure NvPort where
  page : Nat := 2048
  perBlock : Nat := 64
  blocks : Nat := 0
  deriving DecidableEq, Repr


/-- One image slot of the storage ports (R487, R493). -/
structure ImgSlot where
  fw : Option Container := none
  full : Option Container := none
  part : Option Container := none
  man : Option Container := none
  deriving DecidableEq, Repr

/-- The boot record (R488): active slot, count, states, trial boot, package IDs. -/
structure BootRec where
  active : Nat := 0
  count : Nat := 0
  state0 : Nat := 0
  state1 : Nat := 0
  trialBoot : Nat := 0
  pkg0 : Nat := 0
  pkg1 : Nat := 0
  deriving DecidableEq, Repr

/-- A container on its way through UPD (R491): its index in the package (0 the manifest), the blocks that have come, and what it is
once its last block is in. -/
structure Relay where
  index : Nat
  blocks : Nat := 0
  whole : Option Container := none
  deriving DecidableEq, Repr

/-- What UPD holds (R490 to R499): its state, last outcome, package and trial kinds, which its registers show while it is READY; the
manifest of the package; what is being received, the bytes that an ingest has taken, and when the first node cut off is named; the container being forwarded with the ports still to answer, its failures and its
deadline; the indices done; the slots and the two copies of the boot record; whether a bank is write-protected; the containers of a second package that wait in the relay area; the end of
a drain and of a hold, and whether the handover goes back; the bank handed over from; the trial's end; the Benches it swapped and
those still to revert; the retries; a fall-back handover that waits for ENG. -/
structure Upd where
  st : Nat := 0
  code : Nat := 0
  tfw : Bool := false
  tpart : Bool := false
  tfull : Bool := false
  forwarded : Nat := 0
  failNode : Nat := 0
  manifest : Option Manifest := none
  rx : Option Relay := none
  got : List Nat := []
  cutEnd : Option Nat := none
  fwd : Option Relay := none
  hops : List Nat := []
  tries : Nat := 0
  ackEnd : Option Nat := none
  done : List Nat := []
  slots : Vector ImgSlot 2 := Vector.replicate 2 {}
  copies : Vector (List Nat) 2 := Vector.replicate 2 []
  bankHeld : Bool := false
  held : List Container := []
  drainEnd : Option Nat := none
  holdEnd : Option Nat := none
  back : Bool := false
  oldBank : Nat := 0
  trialEnd : Option Nat := none
  swaps : Nat := 0
  reverts : Nat := 0
  retryAt : Option Nat := none
  revertAt : Option Nat := none
  handoverDue : Bool := false
  deriving DecidableEq, Repr

/-- A SIGN field of the OTP array (R480, R481): its bytes, none where blank, and whether its stored digest is that of its key, which
the programming settles. -/
structure SignKey where
  bytes : List Nat := []
  fits : Bool := false
  deriving DecidableEq, Repr

/-- The one-time-programmable array (R480). Floors are numbers of fuses blown; keys are byte lists, empty where blank. -/
structure Otp where
  uid : Nat := 0
  usbid : Nat := 0
  sign : Vector SignKey 4 := Vector.replicate 4 {}
  revoke : Nat := 0
  imgKey : List Nat := []
  clrKey : List Nat := []
  floorFw : Nat := 0
  floorBs : Nat := 0
  debug : Bool := false
  provLock : Bool := false
  deriving DecidableEq, Repr

/-- The levels of the pins and comparators that LOOP reads through synchronisers: seating inputs that read seated, and the window
comparators' and ENH's outputs, as bit masks, and REFEREE_ACT. They stand whether or not a clock runs (R20, R23, R24). -/
structure Lines where
  seatA : Nat := 0
  seatB : Nat := 0
  below : Nat := 0
  above : Nat := 0
  enh : Nat := 0
  ref : Nat := 0
  deriving DecidableEq, Repr

/-- Everything the device holds but the OTP array and the queue of commands. -/
structure Dev where
  regs : List (Nat × Nat) := []
  now : Nat := 0
  loop : Nat := 0
  tim : Nat := 0
  free : Nat := 0
  cfg : Content := {}
  raised : List Raised := []
  proStart : List Raised := []
  proNow : List Nat := []
  safeLine : Bool := false
  asyncLow : Bool := false
  fresh : List (Nat × Nat) := []
  freshSrc : List Nat := []
  killLow : Bool := false
  out : List Out := []
  chans : Vector Chan 32 := Vector.replicate 32 {}
  mons : Vector MonIn 72 := Vector.replicate 72 {}
  benches : Vector Bench 16 := Vector.replicate 16 {}
  rails : List RailSt := []
  groups : Vector Group 16 := Vector.replicate 16 {}
  lastRep : Vector Nat 16 := Vector.replicate 16 0
  slots : Vector Slot 16 := Vector.replicate 16 {}
  lanes : LaneSched := {}
  lines : Lines := {}
  vault : Vault := {}
  sensors : Vector Sensor 6 := Vector.replicate 6 {}
  safeThm : SafeThm := {}
  buses : Vector TwBus 4 := Vector.replicate 4 {}
  rects : Vector Rect 24 := Vector.replicate 24 {}
  cap : Cap := {}
  eng : Eng := {}
  strs : Vector Str 4 := Vector.replicate 4 {}
  dpx : Dpx := {}
  link : Link := {}
  timSt : TimSt := {}
  sup : Supply := {}
  rst : RstSt := {}
  hung : Option Hung := none
  dmaHeld : List (Nat × Hung) := []
  fwCross : Vector PulseX 68 := Vector.replicate 68 {}
  alertX : LevelX := {}
  fifos : Vector FifoSt 7 := Vector.replicate 7 {}
  cfgBad : Bool := false
  cfgMem : List StoredSection := []
  dowels : List DowelSt := []
  loading : Nat := 0
  mem : List Host.Cell := []
  wbuf : List (Nat × Nat) := []
  zeroing : List Nat := []
  hst : ReqPort := {}
  tgt : ReqPort := {}
  usb : ReqPort := {}
  target : Target := {}
  cpd : Cpd := {}
  ports : Vector NvPort 2 := Vector.replicate 2 {}
  upd : Upd := {}
  snap : Snap := {}
  evr : Evr := {}
  deriving DecidableEq, Repr

/-- The register fields whose value at reset is not 0, by key, keys rising: GLB, CLK, RST. -/
def resetGlb : List (Nat × Nat) :=
  [(0x0, 0x3C0), (0x10, 0x1), (0x14, 0x1), (0x18, 0x1), (0x80009, 0x1), (0x100000, 0x1), (0x100060, 0x64)]

/-- KSCALE of each Bench at reset. -/
def resetBen : List (Nat × Nat) := (List.range 16).map (fun n => (8 * (0x40014 + 0x100 * n), 256))

/-- The states of each rectifier at reset: none known yet. -/
def resetShr : List (Nat × Nat) :=
  (List.range 24).flatMap (fun r => [(8 * (0x80100 + 16 * r), 3), (8 * (0x80100 + 16 * r) + 2, 3), (8 * (0x80100 + 16 * r) + 4, 3)])

/-- The register fields of the blocks above SHR whose value at reset is not 0. -/
def resetRest : List (Nat × Nat) :=
  [(0x4800A0, 0xFFFFFFFF), (0x500024, 0x1), (0x500028, 0xFF), (0x5001E0, 0x80000000), (0x600060, 0xC8), (0x6000AA, 0x1), (0xA00002, 0x64), (0xA0012B, 0x8), (0xB00000, 0x10), (0xB00007, 0x1), (0xB000E1, 0x1), (0xD00060, 0x4B), (0xD80080, 0x258)]

/-- The register file at power-on reset. -/
def resetRegs : List (Nat × Nat) := resetGlb ++ resetBen ++ resetShr ++ resetRest

/-- The device at power-on reset: the values the field tables give, every timer stopped, every memory empty, held in a cold reset. -/
def Dev.reset : Dev := { regs := resetRegs }

/-- The whole state: the commands that wait, first in first out; the fuses; the device. -/
structure State where
  pending : List Instr := []
  otp : Otp := {}
  dev : Dev := {}
  deriving DecidableEq, Repr

/-- The state at power-on reset: no command waits, and the OTP array is blank (log entry 5). -/
def State.reset : State := { pending := [], otp := {}, dev := Dev.reset }

/-- The faults of a step. The block raises none: every event that the spec gives an error is reported in its registers. -/
inductive Fault where
  /-- Raised by no command; kept so that the type is inhabited. Safe. -/
  | none
  deriving DecidableEq, Repr

/-- The refusals of a step. -/
inductive Refusal where
  /-- Raised by an arm of `exec` whose command has no meaning yet; no arm is left in that state. Safe. -/
  | notModelled (mnemonic : String)
  deriving DecidableEq, Repr

/-- A command's effect on the device alone. -/
def State.onDev (s : State) (f : Dev → Dev) : State := { s with dev := f s.dev }

end Sys2Proof.Machine
end

