-- ==== Sys2Proof/Machine/Ops.lean ====
section
/-! DEFINITION. The named operations that every block's meanings use: the register file, numbers and their formats,
indexed parts of the state, timers, and the admission of records (chapters 00, 14 and 18 of the spec). -/

namespace Sys2Proof.Machine

/-! ### The register file -/

/-- The value held under a key; a key that is not listed holds 0 (R9, R13). -/
def RegFile.read (k : Nat) : List (Nat × Nat) → Nat
  | [] => 0
  | (k', v) :: t => if k = k' then v else RegFile.read k t

/-- A value other than 0 put under a key, keys rising. -/
def RegFile.put (k v : Nat) : List (Nat × Nat) → List (Nat × Nat)
  | [] => [(k, v)]
  | (k', v') :: t =>
    if k < k' then (k, v) :: (k', v') :: t
    else if k = k' then (k, v) :: t
    else (k', v') :: RegFile.put k v t

/-- The file with a value under a key, kept in its one form: keys rising, no entry equal to 0. -/
def RegFile.write (k v : Nat) (l : List (Nat × Nat)) : List (Nat × Nat) :=
  if v = 0 then l.filter (fun x => x.1 != k) else RegFile.put k v l

/-- The one form of a register file whose keys all lie above `b`. -/
def RegFile.wfAbove (b : Nat) : List (Nat × Nat) → Bool
  | [] => true
  | (k, v) :: t => decide (b ≤ k) && decide (v ≠ 0) && RegFile.wfAbove (k + 1) t

/-- The one form of a register file: keys strictly rising, no entry 0. -/
def RegFile.wf (l : List (Nat × Nat)) : Bool := RegFile.wfAbove 0 l

/-! ### Byte memories: core memory and the Drawer, the vault -/

/-- What a byte reads as that a memory does not list (log entry 4). -/
def Memory.blank : BitVec 8 := 0

/-- The byte at an address. -/
def Memory.read (a : Nat) : List Host.Cell → BitVec 8
  | [] => Memory.blank
  | (k, v) :: t => if a = k then v else Memory.read a t

/-- A byte that a memory lists put at an address, addresses rising. -/
def Memory.put (a : Nat) (b : BitVec 8) : List Host.Cell → List Host.Cell
  | [] => [(a, b)]
  | (k, v) :: t =>
    if a < k then (a, b) :: (k, v) :: t
    else if a = k then (a, b) :: t
    else (k, v) :: Memory.put a b t

/-- The memory with a byte at an address, kept in its one form: addresses rising, no entry equal to what an unlisted address reads as. -/
def Memory.write (a : Nat) (b : BitVec 8) (l : List Host.Cell) : List Host.Cell :=
  if b = Memory.blank then l.filter (fun x => x.1 != a) else Memory.put a b l

/-- The one form of a memory whose addresses all lie at or above `lo`. -/
def Memory.wfAbove (lo : Nat) : List Host.Cell → Bool
  | [] => true
  | (k, v) :: t => decide (lo ≤ k) && decide (v ≠ Memory.blank) && Memory.wfAbove (k + 1) t

/-- The one form of a memory: addresses strictly rising, no entry equal to what an unlisted address reads as. -/
def Memory.wf (l : List Host.Cell) : Bool := Memory.wfAbove 0 l

/-- The bytes of a range forgotten, so that each reads as it does unlisted. -/
def Memory.forget (lo hi : Nat) (l : List Host.Cell) : List Host.Cell := l.filter (fun x => decide (x.1 < lo ∨ hi ≤ x.1))

/-- The value a register field holds, which its width bounds. -/
def Dev.get (d : Dev) (f : Fld) : Nat := min (RegFile.read f.key d.regs) f.top

/-- A register field set to a value, saturating at the field's end and never wrapping (R15). -/
def Dev.set (d : Dev) (f : Fld) (v : Nat) : Dev := { d with regs := RegFile.write f.key (min v f.top) d.regs }

/-- A one-bit field read as a truth value. -/
def Dev.on (d : Dev) (f : Fld) : Bool := d.get f != 0

/-- A one-bit field set to a truth value. -/
def Dev.setB (d : Dev) (f : Fld) (b : Bool) : Dev := d.set f b.toNat

/-- A counter field raised by one, saturating at its full scale (R15, R32). -/
def Dev.inc (d : Dev) (f : Fld) : Dev := d.set f (d.get f + 1)

/-- A counter field raised by one, modulo its range, for the counters whose tables say modulo. -/
def Dev.incMod (d : Dev) (f : Fld) : Dev := d.set f ((d.get f + 1) % 2 ^ f.width)

/-- The bits of `m` set in a field. -/
def Dev.orBits (d : Dev) (f : Fld) (m : Nat) : Dev := d.set f (d.get f ||| m)

/-- The bits of `m` cleared in a word. -/
def clr (w m : Nat) : Nat := w - (w &&& m)

/-- Bit `i` of a mask put to `v`. -/
def putBit (m i : Nat) (v : Bool) : Nat := if v then m ||| 2 ^ i else clr m (2 ^ i)

/-- The bits of `m` cleared in a field. -/
def Dev.clrBits (d : Dev) (f : Fld) (m : Nat) : Dev := d.set f (clr (d.get f) m)

/-- Bit `i` of a field set to `b`. -/
def Dev.setBit (d : Dev) (f : Fld) (i : Nat) (b : Bool) : Dev :=
  if b then d.orBits f (2 ^ i) else d.clrBits f (2 ^ i)

/-- The bits of `m` set by hardware in a sticky field. They are remembered until the SYS cycle ends, since a clear in the same cycle
loses against them (R11). -/
def Dev.stick (d : Dev) (f : Fld) (m : Nat) : Dev := { d.orBits f m with fresh := (f.key, m) :: d.fresh }

/-- The bits of a field that hardware set in the present SYS cycle (R11). -/
def Dev.freshBits (d : Dev) (k : Nat) : Nat := d.fresh.foldl (fun a x => if x.1 = k then a ||| x.2 else a) 0

/-- A span of ticks noted in which something disturbs the audit of a store (R244). What lies further back than any window still to be booked
is dropped. -/
def Dev.upsetAt (d : Dev) (a b : Nat) : Dev :=
  { d with eng := { d.eng with upsets := (a, b) :: d.eng.upsets.filter (fun x => decide (d.loop < x.2 + 1000)) } }

/-- Bit `i` of a field. -/
def Dev.bit (d : Dev) (f : Fld) (i : Nat) : Bool := (d.get f).testBit i

/-! ### Numbers -/

/-- A field's bits read as two's complement of a width. -/
def toSigned (w n : Nat) : Int := if n < 2 ^ (w - 1) then (n : Int) else (n : Int) - 2 ^ w

/-- An integer as two's complement bits of a width, saturating at the nearest end (R15). -/
def ofSigned (w : Nat) (i : Int) : Nat :=
  let c := max (-(2 ^ (w - 1) : Int)) (min i (2 ^ (w - 1) - 1))
  (c % 2 ^ w).toNat

/-- A signed field's value. -/
def Dev.getS (d : Dev) (f : Fld) : Int := toSigned f.width (d.get f)

/-- A signed field set to a value, saturating (R15). -/
def Dev.setS (d : Dev) (f : Fld) (i : Int) : Dev := d.set f (ofSigned f.width i)

/-- A value held between two ends. -/
def holdIn (lo hi v : Int) : Int := max lo (min v hi)

/-- A rational held between two ends. -/
def clampR (v lo hi : Rat) : Rat := if v < lo then lo else if hi < v then hi else v

/-- A rational rounded to the nearest integer, halves upward. -/
def roundR (r : Rat) : Int := (r + 1 / 2).floor

/-- A rational cut to a natural number: 0 where it is negative (R15). -/
def floorN (r : Rat) : Nat := r.floor.toNat

/-- The magnitude of a rational. -/
def absR (r : Rat) : Rat := if r < 0 then -r else r

/-- An item put into a sorted list, behind those that go before it or with it. -/
def insertBy {α : Type} (le : α → α → Bool) (x : α) : List α → List α
  | [] => [x]
  | y :: t => if le y x then y :: insertBy le x t else x :: y :: t

/-- A list sorted, items that neither goes before the other kept as they stood. -/
def sortBy {α : Type} (le : α → α → Bool) (l : List α) : List α := l.foldl (fun a x => insertBy le x a) []

/-- One microsecond in ticks (R16). -/
def us : Nat := 200

/-- One millisecond in ticks. -/
def ms : Nat := 200000

/-- One second in ticks. -/
def sec : Nat := 200000000

/-- The little-endian bytes of a value (R7, R411). -/
def le : Nat → Nat → List Nat
  | 0, _ => []
  | n + 1, v => v % 256 :: le n (v / 256)

/-- The value of little-endian bytes. -/
def fromLe : List Nat → Nat
  | [] => 0
  | b :: t => b + 256 * fromLe t

/-- One bit step of CRC-32. -/
def crcBit (c : Nat) : Nat := if c % 2 = 1 then (c / 2) ^^^ 0xEDB88320 else c / 2

/-- One byte step of CRC-32. -/
def crcByte (c b : Nat) : Nat :=
  crcBit (crcBit (crcBit (crcBit (crcBit (crcBit (crcBit (crcBit (c ^^^ b))))))))

/-- CRC-32 of a list of bytes, in its common form (PRESUMED, log entry 13). -/
def crc32 (l : List Nat) : Nat := (l.foldl crcByte 0xFFFFFFFF) ^^^ 0xFFFFFFFF

/-- One byte step of CRC-16. -/
def crc16Byte (c b : Nat) : Nat :=
  (List.range 8).foldl (fun c _ => if c.testBit 15 then (2 * c % 65536) ^^^ 0x1021 else 2 * c) (c ^^^ (b * 256))

/-- CRC-16 (CCITT) of a list of bytes, begun with FFFFh, the highest bit first (R380; PRESUMED, log entry 13). -/
def crc16 (l : List Nat) : Nat := l.foldl crc16Byte 0xFFFF

/-! ### Indexed parts -/

/-- Whether FIFO `f` (0 EAST, 1 WEST, 2 UP, 3 PEER, 4 NVA, 5 NVB, 6 host) is READY; while it is not, both sides refuse writes (R98). -/
def Dev.fifoOk (d : Dev) (f : Nat) : Bool := (d.fifos[f]?.getD {}).ready

/-- Bench `n`. -/
def Dev.bench (d : Dev) (n : Nat) : Bench := d.benches[n]?.getD {}

/-- Bench `n` changed. -/
def Dev.modBench (d : Dev) (n : Nat) (f : Bench → Bench) : Dev :=
  { d with benches := d.benches.setIfInBounds n (f (d.bench n)) }

/-- Current-sense channel `c`. -/
def Dev.chan (d : Dev) (c : Nat) : Chan := d.chans[c]?.getD {}

/-- Current-sense channel `c` changed. -/
def Dev.modChan (d : Dev) (c : Nat) (f : Chan → Chan) : Dev :=
  { d with chans := d.chans.setIfInBounds c (f (d.chan c)) }

/-- Monitor input `i`: MON 0 to 63, HVM 64 to 71. -/
def Dev.mon (d : Dev) (i : Nat) : MonIn := d.mons[i]?.getD {}

/-- Monitor input `i` changed. -/
def Dev.modMon (d : Dev) (i : Nat) (f : MonIn → MonIn) : Dev :=
  { d with mons := d.mons.setIfInBounds i (f (d.mon i)) }

/-- Slot `n`. -/
def Dev.slot (d : Dev) (n : Nat) : Slot := d.slots[n]?.getD {}

/-- Slot `n` changed. -/
def Dev.modSlot (d : Dev) (n : Nat) (f : Slot → Slot) : Dev :=
  { d with slots := d.slots.setIfInBounds n (f (d.slot n)) }

/-- Request group `g`. -/
def Dev.group (d : Dev) (g : Nat) : Group := d.groups[g]?.getD {}

/-- Request group `g` changed. -/
def Dev.modGroup (d : Dev) (g : Nat) (f : Group → Group) : Dev :=
  { d with groups := d.groups.setIfInBounds g (f (d.group g)) }

/-- What SEQ holds of rail `r`. -/
def Dev.rail (d : Dev) (r : Nat) : RailSt := (d.rails.find? (fun x => x.rail == r)).getD { rail := r }

/-- A rail's entry put into a list ordered by rail number. -/
def putRail (x : RailSt) : List RailSt → List RailSt
  | [] => [x]
  | y :: t => if x.rail < y.rail then x :: y :: t else if x.rail = y.rail then x :: t else y :: putRail x t

/-- Rail `r` changed. -/
def Dev.modRail (d : Dev) (r : Nat) (f : RailSt → RailSt) : Dev :=
  { d with rails := putRail { f (d.rail r) with rail := r } d.rails }

/-- A step done for each item of a list, first to last. -/
def Dev.each {α : Type} (l : List α) (f : α → Dev → Dev) (d : Dev) : Dev := l.foldl (fun d x => f x d) d

/-- A step done where a condition holds. -/
def Dev.when (b : Bool) (f : Dev → Dev) (d : Dev) : Dev := if b then f d else d

/-- Whether the deadline of a timer has been reached. A window is half-open: an event at the end tick lies outside (R17). -/
def due (t : Option Nat) (now : Nat) : Bool :=
  match t with
  | some e => decide (e ≤ now)
  | none => false

/-- What remains of a timer. -/
def left (t : Option Nat) (now : Nat) : Nat :=
  match t with
  | some e => e - now
  | none => 0

/-! ### Functions and roles -/

/-- Bit `k` of GLB.READY (R34). -/
def Dev.ready (d : Dev) (k : Nat) : Bool := d.on ⟨4, k, 1⟩

/-- READY bit numbers of GLB.READY (spec/01_architecture.md). -/
def rdy (name : String) : Nat :=
  (["CLK", "FAB", "BEN", "PWM", "ADC", "MON", "SHR", "CAP", "ENG", "BAT", "SEQ", "HSW", "PRO", "THM", "DPX", "LNK", "TIM",
    "SNP", "EVR", "NVS", "HST", "WIN", "DMA", "TWB", "CPD", "UPD", "SEC"].findIdx? (· == name)).getD 31

/-- Whether this device drives the shelf: it is simplex, or ACTIVE or SOLO (R356). -/
def Dev.drives (d : Dev) : Bool :=
  match d.cfg.duplex with
  | none => true
  | some _ => d.get F.DPX_STATUS_STATE == 3 || d.get F.DPX_STATUS_STATE == 5

/-- This device's node address (R378). -/
def Dev.node (d : Dev) : Nat := d.cfg.node

/-! ### Records -/

/-- The length of a record in bytes (R411). -/
def Rec.len (r : Rec) : Nat := 20 + r.payload.length

/-- The bytes of a record, its CRC at the end (R411). -/
def Rec.bytes (r : Rec) : List Nat :=
  let b := le 2 r.len ++ [r.typ, r.flags] ++ le 4 r.seq ++ le 8 r.tick ++ r.payload
  b ++ le 4 (crc32 b)

/-- The bytes that the staged records take in the record area. -/
def recBytes (l : List Rec) : Nat := l.foldl (fun n r => n + r.len) 0

/-- The size of the record area (R29, R500). -/
def recArea : Nat := 65536

/-- Whether a record is admitted beside `used` bytes: FAULT, CLAMP, CLEAR and RESET records while they fit, others only
while at least 4 KB remains free (R414). -/
def admitted (typ len used : Nat) : Bool :=
  if typ = 1 ∨ typ = 2 ∨ typ = 10 ∨ typ = 11 then decide (used + len ≤ recArea)
  else decide (used + 4096 ≤ recArea ∧ used + len ≤ recArea)

/-- The bytes of the record area in use: the staged records and those of the page being written, WAVE records apart, which are formed
as they are written (R414). -/
def Dev.ringUsed (d : Dev) : Nat :=
  recBytes (d.evr.staged.filter (fun r => r.typ != 5)) + recBytes (d.evr.page.filter (fun r => r.typ != 5))

/-- EVR.STATUS.FILL brought up to what is in the record area. -/
def Dev.fillUp (d : Dev) : Dev := d.set F.EVR_STATUS_FILL ((d.ringUsed + 1023) / 1024)

/-- A record admitted and numbered, or counted lost (R413, R414). A recorder that is not READY accepts no record. -/
def Dev.record (d : Dev) (typ flags tick : Nat) (payload : List Nat) : Dev :=
  if d.ready 18 && admitted typ (20 + payload.length) d.ringUsed then
    let n := d.get (F.EVR_NEXTSEQ_SEQ)
    let e := d.evr
    let flush := match e.flushAt with
      | some t => some t
      | none => some (d.now + d.get F.EVR_CTRL_FLUSH * ms)
    { d with evr := { e with staged := e.staged ++ [Rec.mk typ flags n tick payload], flushAt := flush } }
      |>.set F.EVR_NEXTSEQ_SEQ ((n + 1) % 2 ^ 32) |>.fillUp
  else
    let e := d.evr
    { d with evr := { e with
        lostN := e.lostN + 1
        lostFirst := if e.lostN = 0 then tick else e.lostFirst
        lostLast := tick } }.inc F.EVR_COUNTS_LOST

/-- A NOTE record: block, kind, register offset, the value written and the value in effect (R412). -/
def Dev.note (d : Dev) (kind addr written ineff : Nat) : Dev :=
  d.record 6 0 d.tim ([addr / 0x10000, kind] ++ le 2 (addr % 0x10000) ++ le 4 written ++ le 4 ineff)

/-- A page write asked for at once: on a TRIP or HALT, at ENG's entry to WARNING, or by FLUSHNOW (R415). -/
def Dev.flushNow (d : Dev) : Dev := { d with evr := { d.evr with pageNow := true } }

end Sys2Proof.Machine
end

