-- ==== Sys2Proof/Machine/Flags.lean ====
section
/-! DEFINITION. What is computed from the state when it is looked at: the ramp of a Bench, and what PRO shows of the
raised sources (chapters 07 and 14 of the spec). -/

namespace Sys2Proof.Machine

/-! ### The ramp of a Bench (R166, R167) -/

/-- One V16 step in nanovolts. -/
def nvStep : Nat := 2000000

/-- The ramp position at a LOOP tick: it moves towards the target by SLEW x 5 ns in every tick and stops at it (R166). -/
def Bench.vrAt (b : Bench) (t : Nat) : Nat :=
  let go := 5 * b.slew * (t - b.vrTick)
  if b.vr ≤ b.vt then min b.vt (b.vr + go) else max b.vt (b.vr - go)

/-- The position of an ended stretch of the ramp at a tick. -/
def RampSeg.posAt (s : RampSeg) (t : Nat) : Nat :=
  let go := 5 * s.slew * (t - s.tick)
  if s.vr ≤ s.vt then min s.vt (s.vr + go) else max s.vt (s.vr - go)

/-- The stretches of a ramp that a feedback result of the last 128 ticks may still ask for. -/
def trimHist (t : Nat) : List RampSeg → List RampSeg
  | [] => []
  | s :: r => if s.tick + 128 ≤ t then [s] else s :: trimHist t r

/-- The ramp anchored at a tick, so that its target or its rate may change there (R167). -/
def Bench.anchor (b : Bench) (t : Nat) : Bench :=
  { b with
    vr := b.vrAt t, vrTick := t
    hist := if b.vrTick = t then b.hist else trimHist t (⟨b.vrTick, b.vr, b.vt, b.slew⟩ :: b.hist) }

/-- VR at a tick that may lie before the present stretch of the ramp (R163). Before the ramp's first stretch it is where the ramp began. -/
def Bench.vrPast (b : Bench) (t : Nat) : Nat :=
  if b.vrTick ≤ t then b.vrAt t
  else match b.hist.find? (fun s => decide (s.tick ≤ t)) with
    | some s => s.posAt t
    | none => (b.hist.getLast?.map (·.vr)).getD b.vr

/-- The tick by which a result lies behind the figure of its own chapter on a duplex device (R359, R362). -/
def Dev.lag (d : Dev) : Nat := if d.cfg.duplex.isSome then 32 else 0

/-- The update tick s(j) counted from a Bench's epoch: E + floor(j x UPDIV x PERIOD / 64) (R158). -/
def Bench.updAt (b : Bench) (j : Nat) : Nat := b.epoch + j * b.active.updiv * b.period / 64

/-- The update tick s(j) of Bench `n`; on a duplex device the 32-tick block end at or before it (R158, R360). -/
def Dev.updAt (d : Dev) (n j : Nat) : Nat :=
  let t := (d.bench n).updAt j
  if d.cfg.duplex.isSome then t / 32 * 32 else t

/-- Ticks in one update period of a Bench (R161). -/
def Bench.updTicks (b : Bench) : Nat := b.active.updiv * b.period / 64

/-- A Bench's ramp position now, in V16. -/
def Dev.vr16 (d : Dev) (n : Nat) : Nat := min 65535 ((d.bench n).vrAt d.loop / nvStep)

/-- A Bench's target in effect, in V16. -/
def Dev.vt16 (d : Dev) (n : Nat) : Nat := min 65535 ((d.bench n).vtEff / nvStep)

/-! ### Sources, homes and entries (R315 to R320) -/

/-- Source `k` of Bench `n` (R315). -/
def srcBench (n k : Nat) : Nat := 12 * n + k

/-- Source `k` of slot `n` (R315). -/
def srcSlot (n k : Nat) : Nat := 192 + 12 * n + k

/-- Source `k` of request group `g` (R315). -/
def srcSeq (k g : Nat) : Nat := 456 + 16 * k + g

/-- Source `k` of string `s` (R315). -/
def srcStr (s k : Nat) : Nat := 593 + 6 * s + k

/-- The home of a source as a number: sources with one home carry the same number (R320). -/
def home (s : Nat) : Nat :=
  if s < 192 then s / 12
  else if s < 384 then 100 + (s - 192) / 12
  else if s < 456 then 1000 + s
  else if s < 536 then 200 + (s - 456) % 16
  else if s < 560 then 300 + (s - 536)
  else if s < 584 then 300 + (s - 560)
  else if 593 ≤ s ∧ s < 617 then 400 + (s - 593) / 6
  else 1000 + s

/-- The class the device fixes for a source, where it fixes one (R196, R290, R317 and the owning chapters). -/
def fixedCls (s : Nat) : Option Cls :=
  if s < 192 then
    match s % 12 with
    | 0 => some .trip
    | 7 => some .warn
    | 8 => some .trip
    | 9 => some .trip
    | _ => none
  else if s < 384 then
    match (s - 192) % 12 with
    | 7 => none
    | 8 => some .warn
    | 9 => some .warn
    | 10 => some .warn
    | 11 => none
    | _ => some .trip
  else if 520 ≤ s ∧ s < 536 then some .warn
  else if 560 ≤ s ∧ s < 584 then some .warn
  else if 593 ≤ s ∧ s < 617 then
    match (s - 593) % 6 with
    | 3 => some .warn
    | 4 => some .note
    | 5 => some .note
    | _ => none
  else if s = 619 ∨ s = 620 ∨ s = 622 ∨ s = 626 ∨ s = 627 then some .halt
  else if s = 621 ∨ s = 624 ∨ s = 625 ∨ s = 641 ∨ s = 643 ∨ s = 644 ∨ s = 649 then some .warn
  else if 632 ≤ s ∧ s ≤ 636 then some .warn
  else if s = 645 then some .note
  else none

/-- The map entry of a source, none of an unused one. The configuration-integrity source, COREECC and LOOPCLK have their fixed HALT input whatever
the map holds (R143, R317, R327). -/
def Dev.entry (d : Dev) (s : Nat) : Option FaultEntry :=
  match d.cfg.faults.find? (fun e => e.src == s && e.used) with
  | some e => some e
  | none => if s = 619 ∨ s = 620 ∨ s = 622 then some { src := s, cls := .halt } else none

/-- The entry of a source as the bitstream holds it, whether or not it marks it used (R318). -/
def Dev.entryRaw (d : Dev) (s : Nat) : Option FaultEntry :=
  match d.cfg.faults.find? (fun e => e.src == s) with
  | some e => some e
  | none => d.entry s

/-- A raised source, if it is raised. -/
def Dev.raisedAt (d : Dev) (s : Nat) : Option Raised := d.raised.find? (fun x => x.src == s)

/-- Whether a source's sticky bit is set (R329). -/
def Dev.sticky (d : Dev) (s : Nat) : Bool := d.raised.any (fun x => x.src == s)

/-- COREECC forces no output and does not change the shelf's state (R328). -/
def coreEcc : Nat := 620

/-- Whether a HALT in effect is set, COREECC excepted (R335). -/
def Dev.halted (d : Dev) : Bool := d.raised.any (fun x => x.eff == .halt && x.src != coreEcc)

/-- The raised sources whose class in effect is TRIP. -/
def Dev.trips (d : Dev) : List Raised := d.raised.filter (fun x => x.eff == .trip)

/-- The Benches a source forces: those its entry names and its home (R320). -/
def Dev.benchScope (d : Dev) (s : Nat) : Nat :=
  ((d.entry s).map (·.benches)).getD 0 ||| (if s < 192 then 2 ^ (s / 12) else 0)

/-- The slots whose gate a source sinks: those its entry names and its home (R320). -/
def Dev.slotScope (d : Dev) (s : Nat) : Nat :=
  ((d.entry s).map (·.slots)).getD 0 ||| (if 192 ≤ s ∧ s < 384 then 2 ^ ((s - 192) / 12) else 0)

/-- Whether the bitstream configures Bench `n`. -/
def Dev.hasBench (d : Dev) (n : Nat) : Bool := !(d.bench n).active.phases.isEmpty

/-- The SLOT entry of a slot marked present. -/
def Dev.slotCfg (d : Dev) (n : Nat) : Option SlotCfg := d.cfg.slots.find? (fun x => x.slot == n)

/-- Whether slot `n` is marked present. -/
def Dev.hasSlot (d : Dev) (n : Nat) : Bool := (d.slotCfg n).isSome

/-- Whether PRO holds Bench `n` (R335). -/
def Dev.benchHeld (d : Dev) (n : Nat) : Bool :=
  d.hasBench n && (d.halted || d.trips.any (fun x => (d.benchScope x.src).testBit n))

/-- Whether PRO holds slot `n` (R335). -/
def Dev.slotHeld (d : Dev) (n : Nat) : Bool :=
  d.hasSlot n && (d.halted || d.trips.any (fun x => (d.slotScope x.src).testBit n))

/-- The union of a mask over the sources that hold outputs as TRIP, and all of it under HALT (R323). -/
def Dev.proMask (d : Dev) (all : Nat) (m : FaultEntry → Nat) : Nat :=
  if d.halted then all else d.trips.foldl (fun a x => a ||| ((d.entry x.src).map m).getD 0) 0

/-- The THROTTLE_N groups PRO sinks. -/
def Dev.proThr (d : Dev) : Nat := d.proMask 0xFF (·.thr)

/-- The PFW_N groups PRO sinks. -/
def Dev.proPfw (d : Dev) : Nat := d.proMask 0xFF (·.pfw)

/-- The SHARE lines PRO releases to high impedance. -/
def Dev.proShare (d : Dev) : Nat := d.proMask 0xF (·.share)

/-- Whether this is a duplex device that releases the shelf's lines: RESOLVE, SYNC, SPLIT and FENCED drive none of them but through the
SAFE shutdown line (R356). -/
def Dev.dpxMute (d : Dev) : Bool :=
  d.cfg.duplex.isSome && [0, 1, 4, 6].contains (d.get F.DPX_STATUS_STATE)

/-- Whether this device sinks KILL_N: in reset and bring-up, under HALT, under a TRIP whose entry has KILL, or while the SAFE
shutdown line is asserted (R336); a duplex device that releases the line keeps only the last (R356). -/
def Dev.killSink (d : Dev) : Bool :=
  !d.ready 12 || d.safeLine
    || (!d.dpxMute && (d.halted || d.trips.any (fun x => ((d.entry x.src).map (·.kill)).getD false)))

/-- The MONITOR entry of an input. -/
def Dev.monCfg (d : Dev) (i : Nat) : Option MonCfg := d.cfg.mons.find? (fun x => x.input == i)

/-- Whether an input's window is of the fast tier (R132). -/
def Dev.fastTier (d : Dev) (i : Nat) : Bool := ((d.monCfg i).map (·.fast)).getD false

/-- The fast-tier window sources of base class TRIP or HALT whose comparator stands beyond an enabled side: what drives the fast matrix,
whether or not a clock runs (R28, R325). -/
def Dev.matrix (d : Dev) : List FaultEntry :=
  if d.ready 12 then d.cfg.faults.filter (fun e => e.used &&
    decide (384 ≤ e.src ∧ e.src < 448) && d.fastTier (e.src - 384) && (e.cls == .trip || e.cls == .halt)
      && ((e.wlo && d.lines.below.testBit (e.src - 384)) || (e.whi && d.lines.above.testBit (e.src - 384))))
  else []

/-- The condition that the fast matrix forces on the joined phases of Bench `n` (R324, R325). -/
def Dev.matrixCond (d : Dev) (n : Nat) : Option Cond :=
  let l := d.matrix.filter (fun e => e.benches.testBit n)
  if l.isEmpty then none else some (if l.any (·.pwmz) then .z else .low)

/-- Whether the safe-state wire is asserted (R327): by PRO, by the fast matrix for a source of base class HALT, and by CFGINT, which needs no
READY of PRO's; a duplex device that releases the shelf's lines does not assert it (R356). -/
def Dev.safeWire (d : Dev) : Bool := (d.halted || d.cfgBad || d.matrix.any (·.cls == .halt)) && !d.dpxMute

/-- Whether the SAFE shutdown line holds the PWM pins LOW: while it is asserted, and until the shutdown behind it has been cleared in PRO
(R327). -/
def Dev.safeHeld (d : Dev) : Bool := d.safeLine || d.asyncLow || d.sticky 627

/-- Whether the forced phases of Bench `n` take Z: an entry of a source that forces it has PWMZ; under HALT only the entry of
a HALT that names the Bench or is at home there counts; an asynchronous HALT takes every phase LOW (R324). -/
def Dev.forcedZ (d : Dev) (n : Nat) : Bool :=
  let z (x : Raised) : Bool := ((d.entry x.src).map (·.pwmz)).getD false && (d.benchScope x.src).testBit n
  if d.safeHeld || d.sticky 619 then false
  else if d.halted then d.raised.any (fun x => x.eff == .halt && x.src != coreEcc && z x)
  else d.trips.any z

/-- The shelf fault state of PRO.STATUS.STATE (R335). -/
def Dev.proState (d : Dev) : Nat := if d.halted then 2 else if d.trips.isEmpty then 0 else 1

/-- Set, unacknowledged sources of a class in effect, saturating at FFh (PRO.UNACK). -/
def Dev.unacked (d : Dev) (c : Cls) : Nat := min 255 (d.raised.filter (fun x => x.eff == c && !x.acked)).length

/-- ALERT: a WARN in effect is set and unacknowledged (R322). -/
def Dev.alert (d : Dev) : Bool := d.raised.any (fun x => x.eff == .warn && !x.acked)

/-- ALERT as SYS reads it: the source holds the level until SYS has acknowledged it (R101). -/
def Dev.alertLevel (d : Dev) : Bool := d.alert || !due d.alertX.ackAt d.loop && d.alertX.ackAt.isSome

/-- `n` assertions of a level at its source: the first starts a transfer, whose acknowledge takes the 9 ticks of R91, and one that finds
an assertion not acknowledged yet merges with it (R101; log entry 79). -/
def LevelX.assert (x : LevelX) (now n : Nat) : LevelX :=
  let idle := x.ackAt.isNone || due x.ackAt now
  if n = 0 then x
  else { x with
    ackAt := if idle then some (now + 9) else x.ackAt
    merged := x.merged || !idle || decide (2 ≤ n), again := x.again || !idle || decide (2 ≤ n) }

/-- The sum of a predicate over the first `n` numbers, as a bit mask. -/
def maskOf (n : Nat) (p : Nat → Bool) : Nat := (List.range n).foldl (fun a i => if p i then a + 2 ^ i else a) 0

/-- PRO.STATUS. -/
def Dev.wProStatus (d : Dev) : Nat :=
  d.proState + 4 * d.alert.toNat + 8 * d.killSink.toNat + 16 * (d.killSink || d.killLow).toNat
    + 32 * d.safeWire.toNat + 64 * d.safeLine.toNat

/-- PRO.UNACK. -/
def Dev.wProUnack (d : Dev) : Nat :=
  d.unacked .note + 2 ^ 8 * d.unacked .warn + 2 ^ 16 * d.unacked .trip + 2 ^ 24 * d.unacked .halt

/-- PRO.FORCED. -/
def Dev.wProForced (d : Dev) : Nat := maskOf 16 d.benchHeld + 2 ^ 16 * maskOf 16 d.slotHeld

/-- PRO.LINES. -/
def Dev.wProLines (d : Dev) : Nat := d.proThr + 2 ^ 8 * d.proPfw + 2 ^ 16 * d.proShare

/-- BEN.n.VREF: ramp position and target in effect. -/
def Dev.wVref (d : Dev) (n : Nat) : Nat := d.vr16 n + 2 ^ 16 * d.vt16 n

/-- The registers that a Clamp latches and that the register file does not hold, as whole words under their addresses (R407). -/
def Dev.latchViews (d : Dev) : List (Nat × Nat) :=
  (List.range 16).map (fun n => (0x40038 + 0x100 * n, d.wVref n)) ++
    [(0xE0000, d.wProStatus), (0xE0004, d.wProUnack), (0xE0008, d.wProForced),
     (0xA0020, d.eng.availHi), (0xA0028, d.eng.batHi), (0x120000, d.tim % 2 ^ 32), (0x120004, d.tim / 2 ^ 32)]

/-- What the snapshot registers hold after a latch: every register field, and the words above under key 8 x address (R403). -/
def Dev.latchWords (d : Dev) : List (Nat × Nat) :=
  d.latchViews.foldl (fun m x => RegFile.write (8 * x.1) x.2 m) d.regs

end Sys2Proof.Machine
end

