-- ==== Sys2Proof/Machine/Ready.lean ====
section
/-! DEFINITION. GLB.READY: the prerequisites of its bits, and how a bit sets and clears (R34, R35, R115). -/

namespace Sys2Proof.Machine

/-- The bits whose clearing clears bit `k` (R115). A prerequisite marked "to set only" is not among them. -/
def Dev.needs (d : Dev) : Nat → List Nat
  | 2 => [3, 4, 5]
  | 3 => [12, 13]
  | 4 => [1]
  | 5 => [1]
  | 6 => [4, 5]
  | 7 => [8, 6]
  | 8 => [5, 4] ++ (if d.cfg.rects.isEmpty then [] else [6]) ++ (if d.cfg.strings.isEmpty then [] else [9])
  | 9 => [5, 13]
  | 10 => [12, 5]
  | 11 => [12, 13, 5]
  | 12 => [1]
  | 13 => [1]
  | 14 => [1]
  | 15 => [1]
  | 16 => [1]
  | 17 => [1]
  | 18 => [19, 22]
  | 19 => [0]
  | 20 => [21]
  | 21 => [0]
  | 22 => [0]
  | 23 => [1]
  | 25 => [26, 19]
  | 26 => [0]
  | _ => []

/-- The bits needed for bit `k` to set, beyond those of `needs` (R115). -/
def needsOnce : Nat → List Nat
  | 1 => [26]
  | 6 => [23]
  | _ => []

/-- A READY bit of GLB. -/
def rdyFld (k : Nat) : Fld := ⟨4, k, 1⟩

/-- Whether the LOOP clock runs: its PLL has lock, which else gates it off, and no detected stop stands (R24, R86). -/
def Dev.loopClk (d : Dev) : Bool := d.on F.CLK_PRESENT_LOOP && d.on F.CLK_PLL_LOOP_LOCK

/-- Whether the clock of storage port `p` runs (R85, R86). -/
def Dev.nvRuns (d : Dev) (p : Nat) : Bool :=
  if p = 0 then d.on F.CLK_PRESENT_NVA && d.on F.CLK_PLL_NVA_LOCK else d.on F.CLK_PRESENT_NVB && d.on F.CLK_PLL_NVB_LOCK

/-- FIFO `f`: 0 EAST, 1 WEST, 2 UP, 3 PEER, 4 NVA, 5 NVB, 6 host. -/
def Dev.modFifo (d : Dev) (f : Nat) (g : FifoSt → FifoSt) : Dev :=
  { d with fifos := d.fifos.setIfInBounds f (g (d.fifos[f]?.getD {})) }

/-- One end of a FIFO reset: it is not READY until its handshake completes (R97). -/
def Dev.fifoResync (d : Dev) (f : Nat) : Dev := d.modFifo f (fun x => { x with ready := false })

/-- The block that owns a FIFO reset: a resynchronisation, and its DROP counter cleared (R97, R99). -/
def Dev.fifoReset (d : Dev) (f : Nat) : Dev := d.modFifo f (fun _ => { ready := false, drop := 0 })

/-- Whether VBUS_S alone powers the device. -/
def Dev.svcPower (d : Dev) : Bool := d.sup.s && !d.sup.a && !d.sup.b

/-- One READY bit cleared; a fall from 1 is recorded in READY_LOST (R35). -/
def Dev.readyFall (d : Dev) (k : Nat) : Dev :=
  if d.ready k then (d.setB (rdyFld k) false).stick F.GLB_READY_LOST_LOST (2 ^ k) else d

/-- The bits that fall with those of a list, to a depth: each bit one of whose prerequisites has fallen. -/
def Dev.fallSet (d : Dev) : Nat → List Nat → List Nat
  | 0, l => l
  | n + 1, l => d.fallSet n (l ++ (List.range 27).filter (fun k => !l.contains k && (d.needs k).any (fun x => l.contains x)))

/-- READY bits cleared with everything that needs them (R115). -/
def Dev.readyDrop (d : Dev) (l : List Nat) : Dev := Dev.each (d.fallSet 6 l) (fun k d => d.readyFall k) d

/-- A READY bit set. -/
def Dev.readyOn (d : Dev) (k : Nat) : Dev := d.setB (rdyFld k) true

end Sys2Proof.Machine
end

