-- ==== Sys2Proof/Config.lean ====
section
/-! DEFINITION. Values that the spec leaves open: constants without a body, so that nothing can be proved from a value of
theirs. Each is applied to the state's plain counter of free values or to the operands (log entry 8). -/

namespace Sys2Proof.Config

/-- The share, in 65,536ths less one, by which a VM plane's limit loop lowers its duty in one update: R173 says that it lowers
it, not by how much. -/
opaque limitCut : Nat → Nat

/-- The code of a SHARE line while no rectifier counts for sharing: the quotient of R206 has then no value. -/
opaque shareCode : Nat → BitVec 12

/-- The KIND byte of a NOTE that none of the three kinds of R412 describes. -/
opaque noteKind : Nat → BitVec 8

/-- The capacity uncertainty in coulombs that a full reference forms: R309 names what it is formed from (the uncertainty at the
reference point, the charge uncertainty added since), not how. -/
opaque capUncertainty : Rat → Rat → Rat

/-- A string's reported state of charge and uncertainty, in 0.1 %, where the floor state is 1 and the quotients of R303 have no
value. -/
opaque socAtFloor : Nat → BitVec 10

/-- A nonce that SEC draws (R420): 16 random bytes. -/
opaque nonce : Nat → BitVec 128

/-- HMAC-SHA-256 of a message under a key (R420): 32 bytes as one number, the first byte least significant. The spec names the
function and does not define it. -/
opaque hmacSha256 : List Nat → List Nat → BitVec 256

/-- SHA-384 of a list of bytes (R480, R490): 48 bytes as one number, the first byte least significant. The spec names the function and
does not define it. -/
opaque sha384 : List Nat → BitVec 384

/-- Decryption by AES-256-GCM (R126): key, initialisation vector, the bytes in clear before the body, the encrypted body and the tag; the body
where the tag is right. The spec names the function and does not define it. -/
opaque gcmOpen : List Nat → Nat → List Nat → List Nat → List Nat → Option (List Nat)

/-- Verification by ECDSA P-384 (R126): key, the bytes signed, the signature. The spec names the function and does not define it. -/
opaque ecdsaP384 : List Nat → List Nat → List Nat → Bool

/-- The planes that a partial load begun by a plain register write is writing: the container lies encrypted in the Drawer (R144, R149). -/
opaque loadPlanes : Nat → BitVec 16

/-- Whether a write that hung in a stopped domain was carried out before the watchdog's reset withdrew it (R93). -/
opaque hungWrite : Nat → Bool

/-- The state in which SEQ.r.STATE shows a REMOTE rail that is reported UP: a report has 2 bits for START, DOWNWAIT, STOP and FAILED, and the
spec does not say which of the four is shown (R258, R382). -/
opaque remoteUp : Nat → Fin 4

/-- The command byte and the address that HST.H_LAST shows after an unknown or cut-short command (R427). -/
opaque strayCommand : Nat → BitVec 32

/-- A byte of the capture ring as DMA reads it: the spec does not place the records and the samples inside the two areas (R500). -/
opaque ringByte : Nat → BitVec 8

/-- The delay-line tap with which a TSYNC marker that departs or arrives in a tick is stamped, 1/64 tick (R387): a measured value. -/
opaque tsyncTap : Nat → BitVec 6

/-- The rate against its parent that TIM tracks, in increments per 2^32 ticks: from the rate held, the offset of an exchange in 1/64 ticks and
the ticks since the last one. The spec says that TIM tracks the rate, and not how (R387). -/
opaque trackRate : Int → Int → Nat → Int

/-- By how many ticks the LOOP-side mirror of a SYS register lags its source as a snapshot latches it in a tick: the spec bounds the lag by the
round trip of 45 ns (R403). -/
opaque mirrorLag : Nat → Fin 10

/-- The digest of a frame period after one more tick: the digest so far, and the outputs committed in the tick. R364 gives CRC-32 over the
outputs, and not their layout. -/
opaque digest : Nat → List Nat → BitVec 32

/-- The bytes of an item in a PEER frame, with its arrival tick: the spec gives ITEMS its 24 bytes and not the items' layout (R358, R359). -/
opaque itemBytes : Nat → PeerItem → List (BitVec 8)

end Sys2Proof.Config
end

