-- ==== Sys2Proof/Machine/Operands.lean ====
section
/-! DEFINITION. Tunable fields as the blocks use them: the value written, held to the field's bound, to the range its table
states and to the couplings the chapters name (R125, R161, R166, R174, R190); and the readings in engineering units. -/

namespace Sys2Proof.Machine

/-- The row of a field in the register index. -/
def Fld.row (f : Fld) : Option FldRow :=
  match rowAt f.addr with
  | some r => r.fields.find? (fun x => x.lo == f.lo)
  | none => none

/-- Whether a field is read as two's complement. -/
def Fld.isSigned (f : Fld) : Bool := ((f.row).map (·.signed)).getD false

/-- A field's bits as a number, with its sign where its table gives one. -/
def Fld.decode (f : Fld) (v : Nat) : Int := if f.isSigned then toSigned f.width v else v

/-- A number as a field's bits. -/
def Fld.encode (f : Fld) (i : Int) : Nat := if f.isSigned then ofSigned f.width i else min i.toNat f.top

/-- ENG's fields that software may only raise: MARGIN, EDOWN, PFLOOR, TLAND and HYST (R248). -/
def engRaiseOnly (f : Fld) : Bool :=
  f == F.ENG_LAND_MARGIN || f == F.ENG_LAND_HYST || f == F.ENG_EDOWN_EDOWN
    || (List.range 8).any (fun g => f == F.ENG_TLAND_TLAND g || f == F.ENG_PFLOOR_VALUE g)

/-- The bound entry of a field: of its Bench's active plane for a field of a Bench, else of the BOUNDS section (R125). -/
def Dev.boundEntry (d : Dev) (f : Fld) : Option Bound :=
  let own := if 0x40000 ≤ f.addr ∧ f.addr < 0x41000 then (d.bench ((f.addr - 0x40000) / 0x100)).active.bounds else []
  match own.find? (fun b => b.key == f.key) with
  | some b => some b
  | none => d.cfg.bounds.find? (fun b => b.key == f.key)

/-- A number held to a field's stated range and then to a bound (R125). -/
def holdTo (f : Fld) (b : Option Bound) (i : Int) : Int :=
  let j := match (f.row).bind (·.range) with
    | some (lo, hi) => holdIn lo hi i
    | none => i
  match b with
  | some b => holdIn b.lo b.hi j
  | none => j

/-- The shortest TLAND in effect of the used groups in ms, where any group is used (R240). -/
def Dev.shortestLanding (d : Dev) : Option Int :=
  d.cfg.ledger.landings.foldl (fun a l =>
    let f := F.ENG_TLAND_TLAND l.group
    let t := holdTo f (d.boundEntry f) (f.decode (d.get f))
    some (match a with
      | some x => min x t
      | none => t)) none

/-- The bound on a field: its entry; REPRIEVE is held to the shortest TLAND of any used group as well (R125, R240). -/
def Dev.boundOf (d : Dev) (f : Fld) : Option Bound :=
  let b := d.boundEntry f
  if f == F.ENG_LAND_REPRIEVE then
    match d.shortestLanding with
    | none => b
    | some t =>
      let b := b.getD ⟨f.key, 0, f.top⟩
      some ⟨f.key, min b.lo t, min b.hi t⟩
  else b

/-- A number held to a field's stated range and then to its bound (R125). -/
def Dev.hold (d : Dev) (f : Fld) (i : Int) : Int := holdTo f (d.boundOf f) i

/-- The value in effect of a field: the value written, held (R125). -/
def Dev.eff (d : Dev) (f : Fld) : Int := d.hold f (f.decode (d.get f))

/-- A number that software writes to a field, held so that ENG's one-way fields never move but in the limiting direction: MARGIN, EDOWN,
PFLOOR, TLAND and HYST not below the value in effect, REPRIEVE not above it (R248; log entry 34). -/
def Dev.oneWay (d : Dev) (f : Fld) (i : Int) : Int :=
  if f.addr / 0x10000 ≠ 10 then i
  else if f == F.ENG_LAND_REPRIEVE then min i (d.eff f)
  else if engRaiseOnly f then max i (d.eff f)
  else i

/-- The value in effect of an unsigned field. -/
def Dev.effN (d : Dev) (f : Fld) : Nat := (d.eff f).toNat

/-! ### Bench fields in effect (chapters 07 and 08) -/

/-- VSET_e (R166). -/
def Dev.vsetE (d : Dev) (n : Nat) : Nat := d.effN (F.BEN_VSET_VSET n)

/-- MARGIN_e (R166). -/
def Dev.marginE (d : Dev) (n : Nat) : Int := d.eff (F.BEN_MARGIN_MARGIN n)

/-- VT in nanovolts from the setpoint and the margin in effect: VSET_e x (1,000 + MARGIN_e) / 1,000 (R166), saturated at the end of V16
(R15). -/
def vtOf (vset : Nat) (margin : Int) : Nat := min (65535 * 2000000) ((vset : Int) * 2000 * (1000 + margin)).toNat

/-- The target that the present VSET and MARGIN give Bench `n`. -/
def Dev.vtNew (d : Dev) (n : Nat) : Nat := vtOf (d.vsetE n) (d.marginE n)

/-- SLEW in effect. -/
def Dev.slewE (d : Dev) (n : Nat) : Nat := d.effN (F.BEN_SLEW_SLEW n)

/-- PERIOD in effect: held also so that the update period lies between 100 and 256,000 ticks (R161). -/
def Dev.periodE (d : Dev) (n : Nat) : Nat :=
  let u := max 1 (d.bench n).active.updiv
  let p := d.effN (F.BEN_PERIOD_PERIOD n)
  max ((6400 + u - 1) / u) (min p (256000 * 64 / u))

/-- KSCALE in effect. -/
def Dev.kscaleE (d : Dev) (n : Nat) : Nat := d.effN (F.BEN_KSCALE_KSCALE n)

/-- ILIM held to its bounds, in milliamperes (R172). -/
def Dev.ilimE (d : Dev) (n : Nat) : Nat := d.effN (F.BEN_ILIM_ILIM n)

/-- IADD in effect, in milliamperes. -/
def Dev.iaddE (d : Dev) (n : Nat) : Nat := 10 * d.effN (F.BEN_PHTHR_IADD n)

/-- ISHED in effect, in milliamperes, held below IADD (R174). -/
def Dev.ishedE (d : Dev) (n : Nat) : Nat :=
  10 * min (d.effN (F.BEN_PHTHR_ISHED n)) (d.effN (F.BEN_PHTHR_IADD n) - 1)

/-- MINPH in effect: 1 to the phases of the plane. -/
def Dev.minphE (d : Dev) (n : Nat) : Nat :=
  max 1 (min (d.effN (F.BEN_SHED_MINPH n)) (d.bench n).active.phases.length)

/-- IPH_LIM in effect, in milliamperes. -/
def Dev.iphLimE (d : Dev) (n : Nat) : Nat := 10 * d.effN (F.BEN_PHLIM_IPH_LIM n)

/-- IPH_TRIP in effect, in milliamperes, held above IPH_LIM (R190). -/
def Dev.iphTripE (d : Dev) (n : Nat) : Nat :=
  10 * max (d.effN (F.BEN_PHLIM_IPH_TRIP n)) (d.effN (F.BEN_PHLIM_IPH_LIM n) + 1)

/-- OVP in effect, in V16. -/
def Dev.ovpE (d : Dev) (n : Nat) : Nat := d.effN (F.BEN_OVUV_OVP n)

/-- UVP in effect, in V16. -/
def Dev.uvpE (d : Dev) (n : Nat) : Nat := d.effN (F.BEN_OVUV_UVP n)

/-- The fields of a Bench under the bits of BEN.n.HELD. -/
def benHeldFields (n : Nat) : List (Nat × List Fld) :=
  [(0, [F.BEN_VSET_VSET n]), (1, [F.BEN_MARGIN_MARGIN n]), (2, [F.BEN_SLEW_SLEW n]), (3, [F.BEN_PERIOD_PERIOD n]),
   (4, [F.BEN_KSCALE_KSCALE n]), (5, [F.BEN_ILIM_ILIM n]), (6, [F.BEN_PHTHR_IADD n, F.BEN_PHTHR_ISHED n]),
   (7, [F.BEN_SHED_SHED_UPD n, F.BEN_SHED_MINPH n]), (8, [F.BEN_NLBAND_NL_LO n, F.BEN_NLBAND_NL_HI n]),
   (9, [F.BEN_NLMAX_NLMAX n]), (10, [F.BEN_DROPCFG_DEV n]),
   (11, [F.BEN_PSCFG_PS_BIAS n, F.BEN_PSCFG_PS_PULSE n, F.BEN_PSCFG_PS_REST n, F.BEN_PSTHR_PS_VRISE n,
     F.BEN_PSTHR_PS_IBIAS n, F.BEN_PSTHR_PS_ITRIP n, F.BEN_PHLIM_IPH_LIM n, F.BEN_PHLIM_IPH_TRIP n,
     F.BEN_OCCFG_PHOC_N n, F.BEN_OCCFG_OV_DB n, F.BEN_OCCFG_UV_DB n, F.BEN_OCCFG_LIMT n, F.BEN_ROC_RAILTRIP n,
     F.BEN_FOLD_FLOOR n, F.BEN_FOLD_FBVMIN n, F.BEN_OVUV_OVP n, F.BEN_OVUV_UVP n])]

/-- Whether a field's value written differs from the value in effect. -/
def Dev.fieldHeld (d : Dev) (f : Fld) : Bool := d.eff f != f.decode (d.get f)

/-- Whether one of the couplings between a Bench's fields holds a field: PERIOD (R161), ISHED (R174), IPH_TRIP (R190), MINPH. -/
def Dev.benCoupled (d : Dev) (n bit : Nat) : Bool :=
  match bit with
  | 3 => d.periodE n != d.get (F.BEN_PERIOD_PERIOD n)
  | 6 => d.ishedE n != 10 * d.get (F.BEN_PHTHR_ISHED n)
  | 7 => d.minphE n != d.get (F.BEN_SHED_MINPH n)
  | 11 => d.iphTripE n != 10 * d.get (F.BEN_PHLIM_IPH_TRIP n)
  | _ => false

/-- BEN.n.HELD: the fields being held to a bound. A Bench the bitstream leaves unconfigured reads 0. -/
def Dev.wBenHeld (d : Dev) (n : Nat) : Nat :=
  if d.hasBench n then
    (benHeldFields n).foldl (fun a x => if x.2.any d.fieldHeld || d.benCoupled n x.1 then a + 2 ^ x.1 else a) 0
  else 0

/-! ### Readings -/

/-- The ALLOT entry of a channel. -/
def Dev.chanCfg (d : Dev) (c : Nat) : ChanCfg :=
  (d.cfg.chans.find? (fun x => x.chan == c)).getD ⟨c, .unassigned, false, 10, 0, .plain⟩

/-- A converter code on a channel's I16 scale, saturated to the I16 range (R15, R158). -/
def chanSample (c : ChanCfg) (code : Int) : Int := holdIn (-32768) 32767 (roundR (code * c.perCode))

/-- The latest sample of a channel, in milliamperes. -/
def Dev.sampleMa (d : Dev) (c : Nat) : Rat := d.getS (F.ADC_RESULT_SAMPLE c) * (d.chanCfg c).mA

/-- The end of the latest block of four samples of channel `c` on a duplex device: 32m + 8j with j = c mod 4 (R360). -/
def Dev.blockEnd (d : Dev) (c : Nat) : Nat := ((d.chan c).tick + 8 - 8 * (c % 4)) / 32 * 32 + 8 * (c % 4)

/-- The latest block sum of channel `c` divided by four, in steps of its I16 scale (R360). -/
def Dev.blockWord (d : Dev) (c : Nat) : Nat :=
  let e := d.blockEnd c
  let l := (d.chan c).win.filter (fun x => decide (e ≤ x.1 + 32 ∧ x.1 < e))
  ofSigned 16 (holdIn (-32768) 32767 (roundR ((l.foldl (fun a x => a + x.2) 0 : Int) / (4 : Rat) * (d.chanCfg c).perCode)))

/-- A monitor code in V16 steps of rail volts: (code / 65,536) x 2.5 V x the declared ratio (R254). -/
def monRail16 (ratio : Rat) (code : Nat) : Rat := (code : Rat) * 1250 / 65536 * ratio

/-- The 12-bit threshold of a MON window that stands for a rail voltage in V16 steps (R170, R194). -/
def monThr12 (ratio v16 : Rat) : Nat :=
  if ratio = 0 then 0 else min 4095 (floorN (v16 / ratio * 4096 / 1250))

/-- The protection inputs of Bench `n`: MON inputs bound to its rail other than its feedback input (R194). -/
def Dev.railOfBench (d : Dev) (n : Nat) : Option RailCfg := d.cfg.rails.find? (fun r => r.kind == .bench n)

/-- The MON inputs by which OVP and UVP of Bench `n` are judged (R194). -/
def Dev.protInputs (d : Dev) (n : Nat) : List Nat :=
  let fb := (d.bench n).active.fb
  match d.railOfBench n with
  | none => [fb]
  | some r =>
    let l := (d.cfg.mons.filter (fun m => m.bind == .rail r.rail && m.input != fb && decide (m.input < 64))).map (·.input)
    if l.isEmpty then [fb] else l

/-- The Bench whose feedback or protection input a MON input is. -/
def Dev.benchOfInput (d : Dev) (i : Nat) : Option Nat :=
  (List.range 16).find? (fun n => d.hasBench n && (i == (d.bench n).active.fb || (d.protInputs n).contains i))

/-- Whether the readings of a converter-tier window have lain beyond an enabled side for WDB of them in a row (R321). -/
def Dev.windowOut (d : Dev) (i : Nat) (e : FaultEntry) : Bool :=
  let m := d.mon i
  !d.fastTier i && ((e.wlo && decide (e.wdb ≤ m.loRun ∧ 0 < m.loRun)) || (e.whi && decide (e.wdb ≤ m.hiRun ∧ 0 < m.hiRun)))

/-- Whether input `i` guards Bench `n` at the fast tier. A rail judged on its feedback readings is judged at converter tier, whatever the
tier of that input: its window pair serves R170 (R194). -/
def Dev.protFast (d : Dev) (n i : Nat) : Bool := d.fastTier i && i != (d.bench n).active.fb

end Sys2Proof.Machine
end

