-- ==== Sys2Proof/Machine/Transmit.lean ====
section
/-! DEFINITION. What a node's Igkulink ports send: frames and their symbols, the line code, the classes of frames, the queues, preemption and
the order in which frames leave (R375, R379 to R383). -/

namespace Sys2Proof.Machine

/-! ### Frames and symbols (R379, R380) -/

/-- Whether frames of a type are short (R382). -/
def shortFrame (typ : Nat) : Bool := decide (typ < 0x20)

/-- The payload of a frame of this node's own (R382, R491). -/
def Out.payload : Out → List Nat
  | .frame _ b => b
  | .clampFrame _ tick cause scope => le 8 tick ++ [cause, scope]
  | .image head data => head ++ data
  | _ => []

/-- The bytes of a frame's header (R380). -/
def Head.bytes (h : Head) (len : Nat) : List Nat :=
  [h.typ, h.hops] ++ le 2 h.src ++ le 2 h.seq ++ (if shortFrame h.typ then [] else le 2 h.dst ++ le 2 len)

/-- The bytes between the start and the end of a frame: header, payload, and the CRC over both; a short payload has 10 bytes (R380). -/
def Head.frame (h : Head) (data : List Nat) : List Nat :=
  let b := if shortFrame h.typ then h.bytes 0 ++ (data ++ List.replicate 10 0).take 10 else h.bytes data.length ++ data
  b ++ (if shortFrame h.typ then le 2 (crc16 b) else le 4 (crc32 b))

/-- The symbols of a frame, before a TSYNC its K28.6 marker (R379, R380, R387). -/
def Head.symbols (h : Head) (data : List Nat) (good : Bool) : List Sym :=
  (if h.typ = 3 then [.marker] else []) ++ .start :: (h.frame data).map .byte ++ [if good then .end_ else .bad]

/-- The six bits abcdei of the low five bits of a byte at negative disparity, in the common 8b/10b code (PRESUMED, log entry 94). -/
def sixBits : List Nat :=
  [0b100111, 0b011101, 0b101101, 0b110001, 0b110101, 0b101001, 0b011001, 0b111000] ++
  [0b111001, 0b100101, 0b010101, 0b110100, 0b001101, 0b101100, 0b011100, 0b010111] ++
  [0b011011, 0b100011, 0b010011, 0b110010, 0b001011, 0b101010, 0b011010, 0b111010] ++
  [0b110011, 0b100110, 0b010110, 0b110110, 0b001110, 0b101110, 0b011110, 0b101011]

/-- The four bits fghj of the high three bits at negative disparity. -/
def fourBits : List Nat := [0b1011, 0b1001, 0b0101, 0b1100, 0b1101, 0b1010, 0b0110, 0b1110]

/-- The ones among the low `n` bits of a word. -/
def onesIn (n w : Nat) : Nat := ((List.range n).filter (fun i => w.testBit i)).length

/-- A part of `n` bits at a running disparity, `rd` for positive, and the disparity after it: one with more ones than zeros is inverted at
positive disparity, and so is the balanced one that `alt` marks. -/
def partCode (n w : Nat) (alt rd : Bool) : Nat × Bool :=
  let even := 2 * onesIn n w == n
  (if rd && (alt || !even) then 2 ^ n - 1 - w else w, rd != !even)

/-- The ten line bits of a byte, the first sent most significant, and the disparity after it. -/
def byteCode (b : Nat) (rd : Bool) : Nat × Bool :=
  let x := b % 32
  let y := b / 32 % 8
  let s := partCode 6 (sixBits[x]?.getD 0) (x == 7) rd
  let alt := y == 7 && (if s.2 then [11, 13, 14].contains x else [17, 18, 20].contains x)
  let f := partCode 4 (if alt then 0b0111 else fourBits[y]?.getD 0) (y == 3) s.2
  (s.1 * 16 + f.1, f.2)

/-- The ten line bits of a symbol (R379), and the disparity after it. -/
def Sym.code (rd : Bool) : Sym → Nat × Bool
  | .byte b => byteCode b rd
  | .comma => partCode 10 0b0011111010 false rd
  | .start => partCode 10 0b1101101000 true rd
  | .end_ => partCode 10 0b1011101000 true rd
  | .bad => partCode 10 0b0111101000 true rd
  | .suspend => partCode 10 0b0011110100 true rd
  | .marker => partCode 10 0b0011110110 false rd

/-! ### A port's transmitter (R381) -/

/-- The class of a frame type in falling precedence: 0 URGENT, 1 CAP, 2 STATE, 3 BULK (R381, R382). -/
def frameClass (typ : Nat) : Nat := if typ < 0x10 then 0 else if typ < 0x20 then 1 else if typ < 0x30 then 2 else 3

/-- Whether a frame goes before one that stands ahead of it in the queue: its class is higher, or it is a TSYNC that became ready together
with a CLAMP (R381, R399). -/
def TxFrame.before (f g : TxFrame) : Bool :=
  decide (frameClass f.typ < frameClass g.typ) || (f.typ == 3 && g.typ == 1 && f.at_ == g.at_)

/-- The frame of a queue that goes next: of the highest class waiting the one that became ready first (R381). -/
def TxPort.next (x : TxPort) : Option TxFrame :=
  x.queue.foldl (fun a f => match a with
    | some g => if f.before g then some f else a
    | none => some f) none

/-- A TSYNC stamped with the tick and the tap with which its marker departs; one that carries an arrival keeps that (R382, R387). -/
def TxFrame.stamp (tick : Nat) (f : TxFrame) : TxFrame :=
  match f.item with
  | .own h (.frame 3 b) =>
    if b[9]? = some 3 then f
    else
      let b := le 8 tick ++ [(Config.tsyncTap tick).toNat] ++ b.drop 9
      { f with item := .own h (.frame 3 b), syms := h.symbols b true }
  | _ => f

/-- A frame taken from its queue and begun in a tick, over those that it suspends. -/
def TxPort.begin_ (x : TxPort) (tick : Nat) (f : TxFrame) : TxPort := { x with queue := x.queue.erase f, stack := f.stamp tick :: x.stack }

/-- One symbol of the frame in progress, K28.5 without one; after its last symbol, the frame has left. -/
def TxPort.send (x : TxPort) : TxPort × Option Out :=
  match x.stack with
  | [] => ({ x with sym := .comma }, none)
  | f :: rest =>
    match f.syms with
    | [] => ({ x with stack := rest, sym := .comma }, none)
    | [y] => ({ x with stack := rest, sym := y }, some f.item)
    | y :: ys => ({ x with stack := { f with syms := ys } :: rest, sym := y }, none)

/-- The next symbol of a port (R379, R381): K28.0, with which a waiting frame of a higher class suspends the one in progress, at most three
deep; else a symbol of the frame in progress, or of the next where none is in progress. -/
def TxPort.symbol (x : TxPort) (tick : Nat) : TxPort × Option Out :=
  match x.next, x.stack with
  | some f, [] => (x.begin_ tick f).send
  | some f, g :: rest =>
    if frameClass f.typ < frameClass g.typ ∧ rest.length < 3 then ({ x.begin_ tick f with sym := .suspend }, none) else x.send
  | none, _ => x.send

/-- One tick of a port: a symbol lasts 16 ns, 16/5 of a tick; each is put on the line in its code (R379). -/
def TxPort.tick (x : TxPort) (tick : Nat) : TxPort × Option Out :=
  let x := { x with phase := x.phase + 5 }
  if x.phase < 16 then (x, none)
  else
    let (x, o) := ({ x with phase := x.phase - 16 } : TxPort).symbol tick
    let c := x.sym.code x.plus
    ({ x with line := c.1, plus := c.2 }, o)

/-- A port's transmitter. -/
def Dev.tx (d : Dev) (p : Nat) : TxPort := d.link.tx[p]?.getD {}

/-- A port's transmitter replaced. -/
def Dev.setTx (d : Dev) (p : Nat) (x : TxPort) : Dev := { d with link := { d.link with tx := d.link.tx.setIfInBounds p x } }

/-- The ports that a role uses (R375): a root that has no manager above it uses no UP port. -/
def Dev.usedPorts (d : Dev) : List Nat :=
  match d.cfg.link with
  | none => []
  | some c => if c.role = 0 ∨ c.root then [0, 1] else [0, 1, 2]

/-- Whether a port sends frames of a type: UP all of them, in IDENT a LINKSTAT only (R385). -/
def Dev.portSends (d : Dev) (p typ : Nat) : Bool :=
  let s := d.get (F.LNK_STATUS_STATE p)
  s == 3 || (s == 2 && typ == 0x22)

/-- One tick of one port that the device uses: what leaves is given out. A port that is neither UP nor in IDENT drops what it holds and sends
K28.5 (R379, R385). -/
def Dev.txPort (d : Dev) (p : Nat) : Dev :=
  if !d.usedPorts.contains p then d
  else
    let x := d.tx p
    let (x, o) := (if d.portSends p 0x22 then x else { x with queue := [], stack := [] }).tick d.tim
    let d := d.setTx p x
    match o with
    | some o => { d with out := d.out ++ [.left_ p o] }
    | none => d

/-- One tick of the three ports. -/
def Dev.txTick (d : Dev) : Dev := Dev.each [0, 1, 2] (fun p d => d.txPort p) d

/-! ### What is sent, and where (R375, R377, R382) -/

/-- A frame ready to be sent on a port that sends frames of its type. Those of the SYS side, TUNNEL and IMAGE, it refuses while its FIFO
resynchronises; the others run on through a warm reset (R98, R399, log entry 95). -/
def Dev.queueOn (h : Head) (data : List Nat) (good : Bool) (o : Out) (inp : Option Nat) (p : Nat) (d : Dev) : Dev :=
  if d.portSends p h.typ && (decide (h.typ < 0x30) || d.fifoOk p) then
    let x := d.tx p
    d.setTx p { x with queue := x.queue ++ [{ typ := h.typ, syms := h.symbols data good, at_ := d.now, inp := inp, item := o }] }
  else d

/-- The port that leads to a worker's manager: WEST where the manager sends over its EAST port, else EAST (R390). -/
def Dev.managerPort (d : Dev) (c : LinkCfg) : Nat := if c.index ≤ d.get F.LNK_RING_EASTEND then 1 else 0

/-- The ports by which a frame of this node's own leaves, by its type and the node's role (R375, R377, R382, R390). -/
def Dev.sendPorts (d : Dev) (typ : Nat) : List Nat :=
  match d.cfg.link with
  | none => []
  | some c =>
    if typ = 0x10 ∨ typ = 0x23 then (if c.role = 0 then [d.managerPort c] else [2])
    else if c.role ≤ 1 then [0, 1] else [0]

/-- A frame ready to be sent on ports under a header: given out as it is formed, and queued on each. -/
def Dev.sendHead (d : Dev) (h : Head) (ports : List Nat) (o : Out) : Dev :=
  Dev.each ports (fun p d => d.queueOn h o.payload true (.own h o) none p) { d with out := d.out ++ [.own h o] }

/-- The SEQ of the next frame of a TYPE (R380). -/
def Dev.seqOf (d : Dev) (typ : Nat) : Nat := ((d.link.seqs.find? (fun x => x.1 == typ)).map (·.2)).getD 0

/-- A SEQ of a TYPE taken: its frames are numbered modulo 65,536 (R380). -/
def Dev.seqTake (d : Dev) (typ : Nat) : Dev :=
  let l := d.link.seqs.filter (fun x => x.1 != typ)
  { d with link := { d.link with seqs := (typ, (d.seqOf typ + 1) % 65536) :: l } }

/-- A frame sent on ports from a source to an address, under the next SEQ of its TYPE (R380). -/
def Dev.sendFrom (d : Dev) (src dst : Nat) (ports : List Nat) (typ : Nat) (o : Out) : Dev :=
  (d.seqTake typ).sendHead { typ := typ, src := src, seq := d.seqOf typ, dst := dst } ports o

/-- The address of every node within a frame's scope (R378). -/
def everyNode : Nat := 0xFFFF

/-- A frame of this node's own sent on ports to every node. -/
def Dev.sendOn (d : Dev) (ports : List Nat) (typ : Nat) (o : Out) : Dev := d.sendFrom d.node everyNode ports typ o

/-- A frame of this node's own by its payload, on the ports that its type takes. -/
def Dev.send (d : Dev) (typ : Nat) (bytes : List Nat) : Dev := d.sendOn (d.sendPorts typ) typ (.frame typ bytes)

/-- A CLAMP frame under the address of its origin; a manager sends it along its UP ring too where the scope reaches beyond its rack (R392, R404). -/
def Dev.sendClamp (d : Dev) (origin tick cause scope : Nat) : Dev :=
  let up : List Nat := if decide (2 ≤ scope) && d.cfg.link.any (fun c => c.role != 0) then [2] else []
  d.sendFrom origin everyNode (d.sendPorts 1 ++ up) 1 (.clampFrame origin tick cause scope)

end Sys2Proof.Machine
end

