-- ==== Sys2Proof/Machine/Clamp.lean ====
section
/-! DEFINITION. Taking a Clamp: merging, latching, missing it, its record, its pulse and its frame, and what it does to the
waveform (R401 to R409 of spec/18_recorder_snapshots.md). -/

namespace Sys2Proof.Machine

/-- Ticks between waveform samples (R408). -/
def Dev.waveStep (d : Dev) : Nat := 8 * 2 ^ d.effN F.EVR_WCFG_DLOG

/-- Samples each channel holds: 98,304 / NCH (R408). -/
def Dev.waveDepth (d : Dev) : Nat := 98304 / max 1 d.evr.nch

/-- Whether a Clamp triggers the waveform: sampling runs and is not in post-trigger (R409). -/
def Dev.waveArmed (d : Dev) : Bool := d.on F.EVR_WCFG_WEN && !d.on F.EVR_STATUS_WFROZEN && d.evr.trig.isNone

/-- The waveform triggered at reference tick `r`: the first sample at or after it, or the oldest held (R409). `post` counts the samples that
are still to come, the trigger sample itself among them where it is not taken yet. -/
def Dev.waveTrigger (d : Dev) (r : Nat) : Dev :=
  let st := d.waveStep
  let want := (r + st - 1) / st * st
  let heldN := min d.evr.samples d.waveDepth
  let oldest := d.evr.newest - (heldN - 1) * st
  let early := decide (0 < heldN ∧ r < oldest)
  let t := if early then oldest else if heldN = 0 then max want ((d.tim + st - 1) / st * st) else want
  let total := d.waveDepth * (16 - d.get F.EVR_WCFG_PRE) / 16
  let ahead := if heldN = 0 then 1 else (t - d.evr.newest) / st
  let d := { d with evr := { d.evr with
    trig := some t, post := total + ahead - (d.evr.newest - t) / st, trigNo := d.get F.SNP_NUMBER_NUMBER } }
  if early then d.stick F.EVR_WCFG_EARLYMISS 1 else d

/-- The CLAMP record (R412). -/
def Dev.clampRecord (d : Dev) (flags c cause origin r : Nat) : Dev :=
  d.record 2 flags c (le 4 (d.get F.SNP_NUMBER_NUMBER) ++ [2 ^ cause % 256, 0, 0, 0] ++ le 2 origin ++ [0, 0] ++ le 8 r
    ++ le 4 (d.get F.SNP_COUNTS_MISSED))

/-- Whether a Clamp is merged into the last latched one (R404). -/
def Dev.clampMerges (d : Dev) (c origin otick : Nat) : Bool :=
  (match d.snap.c0 with
   | some c0 => decide (c0 ≤ c ∧ c < c0 + 64)
   | none => false) || d.snap.seen.contains (origin, otick)

/-- The waveform triggered by a Clamp that finds it armed (R409). -/
def Dev.waveIf (d : Dev) (wave : Bool) (r : Nat) : Dev := if wave then d.waveTrigger r else d

/-- A Clamp that is merged into the last latched one: its cause is added while the set is HELD, and it is counted (R404). -/
def Dev.clampMerged (d : Dev) (cause : Nat) : Dev :=
  (if d.on F.SNP_STATUS_HELD then d.orBits F.SNP_STATUS_CAUSE (2 ^ cause) else d).inc F.SNP_COUNTS_MERGED

/-- The NOWAVE bit of a CLAMP record (R412). -/
def Dev.noWave (d : Dev) : Nat := if d.waveArmed then 0 else 4

/-- A Clamp that arrives while the set is HELD: it latches nothing, and its record carries NOSNAP (R405). -/
def Dev.clampMissed (d : Dev) (cause c r origin : Nat) : Dev :=
  (((d.inc F.SNP_COUNTS_MISSED).incMod F.SNP_NUMBER_NUMBER).waveIf d.waveArmed r).clampRecord (2 + d.noWave) c cause origin r

/-- The snapshot registers of LOOP blocks latched at tick `c`; those of the other blocks follow three ticks later (R403). -/
def Dev.clampLatch (d : Dev) (c r origin otick : Nat) : Dev :=
  { d with snap := { d.snap with
    c0 := some c, seen := d.snap.seen ++ [(origin, otick)], copied := false, regs := d.latchWords, lateAt := some (d.loop + 3),
    refHi := r / 2 ^ 32, latHi := c / 2 ^ 32 } }

/-- SNP's registers after a latch (R402, R405). -/
def Dev.clampShow (d : Dev) (cause c r origin : Nat) : Dev :=
  (d.setB F.SNP_STATUS_HELD true).set F.SNP_STATUS_CAUSE (2 ^ cause) |>.set F.SNP_STATUS_ORIGIN origin
    |>.set F.SNP_REF_LO_TICK (r % 2 ^ 32) |>.set F.SNP_LATCH_LO_TICK (c % 2 ^ 32)

/-- A Clamp with cause number `cause`, latch tick `c`, reference tick `r`, origin node and origin tick (R401 to R405, R409). -/
def Dev.clampTake (d : Dev) (cause c r origin otick : Nat) : Dev :=
  if !d.ready 17 then d
  else if d.clampMerges c origin otick then d.clampMerged cause
  else if d.on F.SNP_STATUS_HELD then d.clampMissed cause c r origin
  else
    ((((d.incMod F.SNP_NUMBER_NUMBER).clampLatch c r origin otick).clampShow cause c r origin).waveIf d.waveArmed r).clampRecord
      d.noWave c cause origin r

/-- The pulse on CLAMP, 40 ticks long (R53). -/
def Dev.clampPulse (d : Dev) : Dev :=
  { d with snap := { d.snap with pulseEnd := some (d.loop + 40) }, out := d.out ++ [.clampPin true] }

/-- The pulse on CLAMP and the Igkulink frame of a Clamp that this device originates; a device that does not drive the shelf, or whose
SNP is not READY, drives no pulse (R50, R53, R356, R406). -/
def Dev.clampSend (d : Dev) (cause tick : Nat) : Dev :=
  let d := if d.drives && d.ready 17 then d.clampPulse else d
  if d.get F.LNK_CFG_CLAMPSCOPE = 0 then d
  else d.sendClamp d.node tick cause (d.get F.LNK_CFG_CLAMPSCOPE)

/-- A Clamp that this device originates at TIM tick `c` (causes 0 to 5: r is c, R402); a SNP that is not READY takes none. -/
def Dev.clampOwn (d : Dev) (cause c : Nat) : Dev :=
  if d.ready 17 then (d.clampTake cause c c d.node c).clampSend cause c else d

/-- The Clamp of a TRIP or HALT that is decided in this tick: SNP takes it in the next (R325, R402). -/
def Dev.clampNext (d : Dev) : Dev := { d with snap := { d.snap with trips := d.snap.trips + 1 } }

/-- The Clamps of the TRIPs and HALTs that the last tick decided (R325, R402). -/
def Dev.clampTrips (d : Dev) : Dev :=
  Dev.each (List.range d.snap.trips) (fun _ d => d.clampOwn 0 d.tim) { d with snap := { d.snap with trips := 0 } }

end Sys2Proof.Machine
end

