-- ==== Sys2Proof/Machine/Fault.lean ====
section
/-! DEFINITION. Raising a fault source: its class in effect, its record and Clamp, the Benches and slots it forces, the
last-fault record, and letting go of what nothing holds any more (chapters 08, 12 and 14 of the spec). -/

namespace Sys2Proof.Machine

/-! ### The vault's queue (R423) -/

/-- Whether a vault write goes before all others: first-failure and last-fault records do. -/
def VKind.first : VKind → Bool
  | .lastFault _ => true
  | .firstFail => true
  | _ => false

/-- A write put into the vault's queue: a first-failure or last-fault write goes before the others that wait, behind those of
its own kind and behind the write that is already under way (R423). -/
def vaultEnqueue (w : VWrite) (q : List VWrite) : List VWrite :=
  match q with
  | [] => [w]
  | h :: t =>
    if w.kind.first then h :: (t.filter (fun x => x.kind.first) ++ [w] ++ t.filter (fun x => !x.kind.first))
    else h :: t ++ [w]

/-- A vault write requested. -/
def Dev.vaultPut (d : Dev) (w : VWrite) : Dev := { d with vault := { d.vault with queue := vaultEnqueue w d.vault.queue } }

/-- A byte of the vault. -/
def Dev.vaultByte (d : Dev) (a : Nat) : Nat := (Memory.read a d.vault.bytes).toNat

/-- `n` bytes of the vault from an address. -/
def Dev.vaultBytes (d : Dev) (a n : Nat) : List Nat := (List.range n).map (fun i => d.vaultByte (a + i))

/-- A little-endian word of the vault. -/
def Dev.vaultWord (d : Dev) (a : Nat) : Nat := fromLe (d.vaultBytes a 4)

/-! ### The last-fault record (R199 to R202) -/

/-- The hotter die sensor in T12 (R202, R350). -/
def Dev.hotDie (d : Dev) : Int := max (d.getS (F.THM_TEMP_T 0)) (d.getS (F.THM_TEMP_T 1))

/-- The reading of a protection input as its Bench judges it: of the feedback input the Bench's own (R163, R194). -/
def Dev.protRead (d : Dev) (n i : Nat) : Rat :=
  let b := d.bench n
  if i = b.active.fb then (b.fbNext.map (·.v)).getD b.fb else (d.mon i).rv

/-- BEN.n.SPCAUSE as the last update and readings left it (R196). -/
def Dev.spOvUv (d : Dev) (n : Nat) : Nat :=
  let ins := (d.protInputs n).filter (fun i => (d.mon i).valid)
  let ov := ins.any (fun i => decide ((d.ovpE n : Rat) ≤ d.protRead n i))
  let uv := d.get (F.BEN_STATUS_STATE n) == 3 && ins.any (fun i => decide (d.protRead n i < (d.uvpE n : Rat)))
  16 * ov.toNat + 32 * uv.toNat

/-- The latest valid last-fault record of a Bench: its slot and its COUNT (R200). -/
def Dev.lastFaultStored (d : Dev) (n : Nat) : Option (Nat × Nat) :=
  let at_ (k : Nat) : Option (Nat × Nat) :=
    let b := d.vaultBytes (0x1000 + 0x100 * n + 0x80 * k) 128
    if fromLe (b.take 2) = 0x464C ∧ fromLe (b.drop 124) = crc32 (b.take 124) then some (k, fromLe ((b.drop 4).take 4)) else none
  match at_ 0, at_ 1 with
  | some a, some b => if a.2 < b.2 then some b else some a
  | some a, none => some a
  | none, b => b

/-- The slot and the COUNT of the next last-fault record of a Bench: the other slot, and one more than the vault holds (R200, R202). -/
def Dev.lastFaultNext (d : Dev) (n : Nat) : Nat × Nat :=
  match d.lastFaultStored n with
  | some (k, c) => (1 - k, c + 1)
  | none => (0, 1)

/-- The latest valid first-failure record: its place, COUNT and rail (R274). -/
def Dev.firstFailStored (d : Dev) : Option (Nat × Nat × Nat) :=
  (List.range 32).foldl (fun best i =>
    let b := d.vaultBytes (0xC00 + 0x20 * i) 32
    if fromLe (b.take 2) = 0x4646 ∧ fromLe (b.drop 28) = crc32 (b.take 28) then
      let c := fromLe ((b.drop 4).take 4)
      match best with
      | some (_, c', _) => if c' < c then some (i, c, fromLe ((b.drop 16).take 2)) else best
      | none => some (i, c, fromLe ((b.drop 16).take 2))
    else best) none

/-- The place and COUNT of the latest first-failure record brought up to what the vault holds. -/
def Dev.firstFailSync (d : Dev) : Dev :=
  match d.firstFailStored with
  | some (i, c, _) =>
    if d.vault.ffCount < c then { d with vault := { d.vault with ffNext := (i + 1) % 32, ffCount := c } } else d
  | none => d

/-- A first-failure record put into the vault's queue, at the place after the latest and with the COUNT after the latest (R274). -/
def Dev.firstFailWrite (d : Dev) (bytes : List Nat) : Dev :=
  let d := d.firstFailSync
  let b := bytes.take 4 ++ le 4 (d.vault.ffCount + 1) ++ bytes.drop 8
  let d := d.vaultPut ⟨0xC00 + 0x20 * (d.vault.ffNext % 32), b ++ le 4 (crc32 b), .firstFail⟩
  { d with vault := { d.vault with ffNext := (d.vault.ffNext + 1) % 32, ffCount := d.vault.ffCount + 1 } }

/-- Whether a Bench's updates run, so that the causes they judge can be present (R196). -/
def Dev.updating (d : Dev) (n : Nat) : Bool :=
  let s := d.get (F.BEN_STATUS_STATE n)
  s == 2 || s == 3 || s == 4

/-- BEN.n.SPCAUSE (R196): PHOC, PHTRIP, RAILOC and LIMTIME count as gone while no update runs, and until the first update after the Bench
has left OFF. -/
def Dev.wSpcause (d : Dev) (n : Nat) : Nat :=
  if d.hasBench n then
    let b := d.bench n
    (if d.updating n && decide (0 < b.updates) then
      (d.get (F.BEN_PHLIMACT_LIMACT n) != 0).toNat + 2 * b.limTrip.toNat + 4 * b.railOc.toNat
        + 8 * (d.on (F.BEN_STATUS_LIMITING n)).toNat
     else 0) + d.spOvUv n
  else 0

/-- The Bench's state before an event of the present tick: a STOP that a TRIP meets in one tick is discarded (R198). -/
def Dev.stateBefore (d : Dev) (n : Nat) : Nat :=
  match (d.bench n).stopFrom with
  | some (t, s) => if t = d.loop then s else d.get (F.BEN_STATUS_STATE n)
  | none => d.get (F.BEN_STATUS_STATE n)

/-- The bytes of a last-fault record but its CRC (R202). -/
def Dev.lastFaultBytes (d : Dev) (n src cls : Nat) : List Nat :=
  let iph := (List.range 32).flatMap (fun p => match (d.bench n).phases[p]? with
    | some ph => le 2 (ofSigned 16 (roundR (ph.mean / (d.chanCfg ph.chan).mA)))
    | none => [0, 0])
  le 2 0x464C ++ [1, n] ++ le 4 (d.lastFaultNext n).2 ++ le 8 d.tim ++ le 2 src ++ [cls, d.stateBefore n,
    d.get (F.BEN_PSTEST_RESULT n), d.get (F.BEN_PSTEST_PHASE n)] ++ le 2 (d.wSpcause n)
    ++ le 2 (d.vt16 n) ++ le 2 (d.vr16 n) ++ le 2 (d.get (F.BEN_VOUT_VOUT n)) ++ le 2 (d.get (F.BEN_DUTY_DUTY n))
    ++ le 4 (d.get (F.BEN_IOUT_IOUT n))
    ++ le 4 (d.get (F.BEN_ILIM_EFF_LIMIT n) + 2 ^ 24 * d.get (F.BEN_ILIM_EFF_SRC n))
    ++ le 4 (d.get (F.BEN_PHACT_ACT n)) ++ le 4 (d.get (F.BEN_PHDROP_DROP n))
    ++ le 4 (d.get (F.BEN_PHLIMACT_LIMACT n)) ++ le 2 (ofSigned 12 d.hotDie) ++ [0, 0]
    ++ le 4 (d.get F.FAB_RUN_ID_LO_ID) ++ iph

/-- The vault write of a last-fault record: the two slots of the Bench are written in turn, and COUNT is that of the record when it is
written (R200, R202). -/
def Dev.lastFaultWrite (d : Dev) (n : Nat) (bytes : List Nat) : VWrite :=
  let x := d.lastFaultNext n
  let b := bytes.take 4 ++ le 4 x.2 ++ bytes.drop 8
  { addr := 0x1000 + 0x100 * n + 0x80 * x.1, bytes := b ++ le 4 (crc32 b), kind := .lastFault n }

/-- A last-fault record kept in its Bench's one buffer; a record that already waited there is lost (R201). -/
def Dev.lastFaultHold (d : Dev) (n : Nat) (bytes : List Nat) : Dev :=
  let d := if (d.bench n).lf.isSome then d.inc (F.BEN_LFSTAT_LOST n) else d
  (d.modBench n (fun b => { b with lf := some ⟨bytes⟩ })).setB (F.BEN_LFSTAT_PENDING n) true

/-- The lowest source that acts on Bench `n` in this tick, with its class: `src`, or one raised in the tick that names the Bench or is at
home there (R199). -/
def Dev.lowestActing (d : Dev) (n src cls : Nat) : Nat × Nat :=
  (d.proNow.filter (fun s => (d.benchScope s).testBit n)).foldl (fun a s =>
    if s < a.1 then (s, ((d.raisedAt s).map (·.eff.code)).getD 0) else a) (src, cls)

/-- A last-fault record latched and sent to the vault, or held in its Bench's one buffer while writes are forbidden or the
Bench's previous write is under way; a newer record replaces a held one (R199, R201). -/
def Dev.lastFault (d : Dev) (n src cls : Nat) : Dev :=
  let low := d.lowestActing n src cls
  let bytes := d.lastFaultBytes n low.1 low.2
  let d := d.modBench n (fun b => { b with lfMark := some ⟨d.loop, low.1⟩ })
  if d.vault.forbidden || (d.bench n).lfBusy then d.lastFaultHold n bytes
  else (d.vaultPut (d.lastFaultWrite n bytes)).modBench n (fun b => { b with lfBusy := true })

/-- The bytes of a record, its CRC apart, after a further source has acted in its tick: SOURCE and CLASS of the lowest, and the causes then
present beside those that it holds (R199). -/
def lastFaultPatch (bytes : List Nat) (lower : Option (Nat × Nat)) (cause : Nat) : List Nat :=
  let b := bytes.take 22 ++ le 2 (fromLe ((bytes.drop 22).take 2) ||| cause) ++ (bytes.drop 24).take 100
  match lower with
  | some (s, c) => b.take 16 ++ le 2 s ++ [c] ++ b.drop 19
  | none => b

/-- A source that acts on a Bench in the tick of its last-fault record: the record takes it in while it is still whole, in the vault's
queue or in the Bench's buffer (R198, R199). -/
def Dev.lastFaultMeet (d : Dev) (n src cls : Nat) : Dev :=
  match (d.bench n).lfMark with
  | none => d
  | some m =>
    if m.tick ≠ d.loop then d
    else
      let lower := if src ≤ m.src then some (src, cls) else none
      let cause := d.wSpcause n
      let patch (b : List Nat) : List Nat := lastFaultPatch b lower cause
      let d := d.modBench n (fun b => { b with
        lfMark := some ⟨m.tick, min src m.src⟩
        lf := b.lf.map (fun r => ⟨patch r.bytes⟩) })
      if (d.bench n).lf.isSome then d
      else { d with vault := { d.vault with queue := d.vault.queue.map (fun w =>
        if w.kind == .lastFault n && w.bytes.length == 128 then { w with bytes := patch w.bytes ++ le 4 (crc32 (patch w.bytes)) }
        else w) } }

/-! ### Forcing (R165, R187, R277) -/

/-- A phase as a force or a return to OFF leaves it: not switching, in the condition given. -/
def Phase.still (p : Phase) (c : Cond) : Phase :=
  { p with
    switching := false, shed := false, joining := false, leaving := false, cond := c, lowAt := none, duty := 0, bal := 0, ic := 0,
    bump := false, limited := false, limWin := false, tripWin := false, limRun := 0, on := 0, onNow := 0, short := false }

/-- The status fields of a Bench whose updates have ended. -/
def Dev.benchQuiet (d : Dev) (n : Nat) : Dev :=
  d.setB (F.BEN_STATUS_SLEWING n) false |>.setB (F.BEN_STATUS_NL n) false |>.setB (F.BEN_STATUS_LIMITING n) false
    |>.setB (F.BEN_STATUS_SAT n) false |>.set (F.BEN_STATUS_NSW n) 0 |>.set (F.BEN_PHACT_ACT n) 0
    |>.set (F.BEN_DUTY_DUTY n) 0

/-- Bench `n` in a state with every undropped phase still. -/
def Dev.benchRest (d : Dev) (n : Nat) (st : BState) (c : Cond) : Dev :=
  let d := d.modBench n (fun b => { (b.anchor d.loop) with
    phases := b.phases.map (fun p => p.still c), left := [], zUpdate := false, psRun := false, limStart := none, limDone := false,
    limTrip := false, railOc := false, nlEnd := 0, nlResume := false, shedRun := 0, updTick := none })
  (d.benchQuiet n).set (F.BEN_STATUS_STATE n) st.code

/-- A force ends a running pre-start test with RESULT 111b (R187), also one that a STOP of the same tick would have ended (R198). -/
def Dev.prestartForced (d : Dev) (n : Nat) : Dev :=
  let b := d.bench n
  if b.psRun || b.zTick == some d.loop then d.set (F.BEN_PSTEST_RESULT n) 7 else d

/-- What a Bench notes of the force that takes it: whether its updates ran, for the samples of the same tick (R198), and OVP armed where
it leaves OFF (R195). -/
def Dev.forceNotes (d : Dev) (n : Nat) : Dev :=
  let off := d.stateBefore n == BState.off.code
  let ran := d.updating n
  let d := if off then Dev.each (d.protInputs n) (fun i d => d.modMon i (fun m => { m with ovRun := 0 })) d else d
  d.modBench n (fun b => { b with
    startHeld := false, forcedAt := some d.loop, ranAt := if ran then some d.loop else b.ranAt, ovArm := b.ovArm || off })

/-- A force from PRO: the end of a running pre-start test, a last-fault record, and FORCED; a Bench forced in this very tick only adds the
source to its record (R165, R187, R199). -/
def Dev.benchForce (d : Dev) (n src : Nat) (cls : Cls) : Dev :=
  if !d.hasBench n then d
  else if d.get (F.BEN_STATUS_STATE n) == BState.forced.code then d.lastFaultMeet n src cls.code
  else ((((d.prestartForced n).lastFault n src cls.code).forceNotes n).benchRest n .forced .low)

/-- A slot's gate sunk from tick `now`; a gate that was sourced or held counts as such until then (R280). -/
def Slot.sinkAt (s : Slot) (now : Nat) : Slot :=
  { s with gate := .sink, lastOn := if s.gate != .sink then now else s.lastOn }

/-- Lane `i` of a slot. -/
def Slot.lane (s : Slot) (i : Nat) : Lane := if i = 0 then s.laneA else if i = 1 then s.laneB else s.laneC

/-- The FAILED lanes of a slot. -/
def Slot.failedLanes (s : Slot) : List Nat := (List.range 3).filter (fun i => (s.lane i).failed)

/-- Whether the voter counts lane `i` as asserted at a tick: a FAILED lane always; a lane under test too, but not where another lane of the
slot is FAILED (R288, R289). -/
def Slot.asserted (s : Slot) (now i : Nat) : Bool :=
  let tested := match s.testLane with
    | some (j, e) => decide (i = j ∧ now < e)
    | none => false
  if tested then !s.failedLanes.any (· != i) else (s.lane i).raw || (s.lane i).failed

/-- The voter: at least two of its inputs asserted (R285). -/
def Slot.votes (s : Slot) (now : Nat) : Bool := decide (2 ≤ ((List.range 3).filter (s.asserted now)).length)

/-- Whether leaving its state clears a slot's trip latch: it leaves TRIPPED, or LOCKOUT where a trip took it there (R285). -/
def Dev.unlatches (d : Dev) (n : Nat) (st : SState) : Bool :=
  let s := (d.slot n).state
  s != st && (s == .tripped || (s == .lockout && d.get (F.HSW_STATUS_CAUSE n) == 8))

/-- A slot in a state, with its gate sunk in every state but RAMP and GOOD (R277), and there too while its trip latch holds the sink; a voter that
still asserts where HSW clears the latch sets it again, and its wire rises anew (R285). The deadlines of RAMP and GOOD begin anew with RAMP; they
stay when the slot leaves, for the trips of the same tick (R295), but the ramp's ends with GOOD (R283). -/
def Dev.slotGo (d : Dev) (n : Nat) (st : SState) : Dev :=
  let sl := d.slot n
  let wasOn := sl.gate != .sink
  let ran := sl.state == .ramp || sl.state == .good
  let runs := st == .ramp || st == .good
  let unlatch := d.unlatches n st
  let latch := if unlatch then sl.votes d.loop else sl.latch
  let d := d.modSlot n (fun s => { s with
    state := st
    gate := if runs && !latch then .source else .sink
    lastOn := if wasOn then d.loop else s.lastOn
    checkEnd := none, checkBad := false, checkRise := false, vsFirst := none
    vsRoll := if runs ∨ st = .empty ∨ st = .seating then [] else s.vsRoll
    rampEnd := if runs then none else s.rampEnd
    ocEnd := if st = .ramp then none else s.ocEnd
    gateEnd := if runs then none else s.gateEnd
    pgEnd := none, fetEnd := none, cleanEnd := none
    rampAt := if st = .ramp then d.loop else s.rampAt
    ranAt := if ran && !runs then some d.loop else s.ranAt
    latch := latch, kerfNew := s.kerfNew || (unlatch && latch) })
  d.set (F.HSW_STATUS_STATE n) st.code |>.setB (F.HSW_STATUS_PG n) (st == .good)

/-- Whether a slot is named by a SLOT entry of RAILS, so that SEQ owns its enable (R278). -/
def Dev.seqOwned (d : Dev) (n : Nat) : Bool := d.cfg.rails.any (fun r => r.kind == .slot n)

/-- A slot that SEQ owns and that trips, locks out or is forced has lost SEQ's start: it starts again when SEQ starts it again (R278). -/
def Dev.seqEnds (d : Dev) (n : Nat) : Dev := if d.seqOwned n then d.modSlot n (fun x => { x with enable := false }) else d

/-- A force from PRO on a slot: FORCED from every state except EMPTY and SEATING (R277). -/
def Dev.slotForce (d : Dev) (n : Nat) : Dev :=
  let s := (d.slot n).state
  if !d.hasSlot n || s == .empty || s == .seating || s == .forced then d
  else ((d.seqEnds n).modSlot n (fun x => { x with back := s })).slotGo n .forced

/-- Whether source `s` is one of the sources by which slot `n` itself trips or locks out; R290 gives its next state. -/
def ownTrip (s n : Nat) : Bool := decide (192 + 12 * n ≤ s ∧ s < 192 + 12 * n + 7)

/-- What a source in effect as TRIP or HALT forces: its Benches and slots, or all of them (R322, R323). A slot's own trip
leaves the state that R290 gives it (log entry 20). COREECC forces no output (R328). A NOTE or WARN forces nothing, but it is a source that acts
in the tick of a Bench's last-fault record (R199). -/
def Dev.forceFor (d : Dev) (s : Nat) (c : Cls) : Dev :=
  if s == coreEcc then d else
  match c with
  | .halt =>
    let d := Dev.each (List.range 16) (fun n d => d.benchForce n s c) d
    Dev.each (List.range 16) (fun n d => d.slotForce n) d
  | .trip =>
    let bs := d.benchScope s
    let ss := d.slotScope s
    let d := Dev.each (List.range 16) (fun n d => if bs.testBit n then d.benchForce n s c else d) d
    Dev.each (List.range 16) (fun n d => if ss.testBit n && !ownTrip s n then d.slotForce n else d) d
  | _ =>
    let bs := d.benchScope s
    Dev.each (List.range 16) (fun n d => if bs.testBit n then d.lastFaultMeet n s c.code else d) d

/-! ### Raising (R321, R322, R331 to R333) -/

/-- A raised source put into the list, which is ordered by source number. -/
def putRaised (x : Raised) : List Raised → List Raised
  | [] => [x]
  | y :: t => if x.src < y.src then x :: y :: t else if x.src = y.src then x :: t else y :: putRaised x t

/-- Whether a source of base class `c` and number `s` escalates against a list of sources: one of class `c` in effect,
unacknowledged, of another home (R331). -/
def escalates (c : Cls) (s : Nat) (l : List Raised) : Bool :=
  l.any (fun x => x.eff == c && !x.acked && home x.src != home s)

/-- The class in effect of a source raised in a tick: judged against the sources as they stood at the start of the tick, and against the
sources of its own base class and a lower number that are raised in the tick and took that class (R331, R333). -/
def judge (start batch : List Raised) (c : Cls) (s : Nat) : Cls :=
  if escalates c s start || escalates c s (batch.filter (fun x => x.base == c && decide (x.src < s))) then c.up else c

/-- The sources raised in this tick. -/
def Dev.batch (d : Dev) : List Raised := d.raised.filter (fun x => d.proNow.contains x.src)

/-- The class in effect of a source raised now, with base class `c` (R331, R333). -/
def Dev.effNow (d : Dev) (c : Cls) (s : Nat) : Cls := judge d.proStart d.batch c s

/-- Whether the raise of source `s`, of base class `c`, lifts a source of a higher number raised in this tick to the next class: of sources
raised in one tick the lowest number takes its base class (R333). -/
def Dev.lifts (d : Dev) (c : Cls) (s : Nat) (x : Raised) : Bool :=
  d.effNow c s == c && c != .halt && d.proNow.contains x.src && x.base == c && x.eff == c && decide (s < x.src) && home x.src != home s

/-- The list of raised sources after the raise of `s`. -/
def Dev.raisedAfter (d : Dev) (c : Cls) (s : Nat) : List Raised :=
  putRaised ⟨s, c, d.effNow c s, false⟩ (d.raised.map (fun x => if d.lifts c s x then { x with eff := c.up } else x))

/-- The FAULT record of a raise (R412). -/
def Dev.faultRecord (d : Dev) (s : Nat) (b e : Cls) (tag : Nat) : Dev :=
  d.record 1 0 d.tim (le 2 s ++ [b.code, e.code] ++ le 4 tag)

/-- A source's sticky bit set with its class in effect, PRO's counts, and ALERT asserted by each source that is WARN by it (R101, R322, R329,
R331). -/
def Dev.raiseMark (d : Dev) (s : Nat) (b : Cls) : Dev :=
  let up := (d.raised.filter (d.lifts b s)).length
  let n := up + (d.effNow b s != b).toNat
  let warns := (d.effNow b s == .warn).toNat + (if b.up = .warn then up else 0)
  let d := ({ d with alertX := d.alertX.assert d.loop warns, raised := d.raisedAfter b s, proNow := s :: d.proNow, freshSrc := s :: d.freshSrc } : Dev).inc F.PRO_COUNTS_RAISES
  d.set F.PRO_COUNTS_ESCAL (d.get F.PRO_COUNTS_ESCAL + n)

/-- The class in effect in a staged FAULT record of this tick corrected, as the source that it names is lifted (R333, R412). -/
def Dev.faultRecordLift (d : Dev) (s : Nat) (e : Cls) : Dev :=
  let fix (r : Rec) : Rec :=
    if r.typ = 1 ∧ r.tick = d.tim ∧ fromLe (r.payload.take 2) = s then { r with payload := r.payload.set 3 e.code } else r
  { d with evr := { d.evr with staged := d.evr.staged.map fix } }

/-- The Clamp of a raise: of every TRIP and HALT, which also asks for a page; of the others where the map says so (R322, R401, R415). That
of a TRIP or HALT comes in the tick after the raise, as R325 and R402 give it, while the last-fault record of R199 has the tick of the raise:
the model's choice (log entry 85). -/
def Dev.raiseClamp (d : Dev) (e : FaultEntry) (c : Cls) : Dev :=
  if c == .trip || c == .halt then (d.flushNow).clampNext
  else if e.clamp then d.clampOwn 1 d.tim else d

/-- A source lifted to class `c` in the tick of its raise: its record, its forces, and the Clamp of a TRIP (R322, R333). -/
def Dev.liftActs (d : Dev) (x : Raised) (c : Cls) : Dev :=
  let d := (d.faultRecordLift x.src c).forceFor x.src c
  match d.entry x.src with
  | some e => if c == .trip then d.raiseClamp e c else d
  | none => d

/-- One source raised, its class judged against the start of the tick and the raises of the tick: sticky bit, count, record, forces, Clamp,
and what it lifts (R321, R322, R333). A source whose sticky bit is set is not raised again, but the event counts for R11; an unused one is
never raised (R316). PRO raises nothing before it is READY. -/
def Dev.raiseOne (d : Dev) (s : Nat) : Dev :=
  match d.entry s with
  | none => d
  | some e =>
    if !d.ready 12 then d
    else if d.sticky s then { d with freshSrc := s :: d.freshSrc }
    else
      let c := d.effNow e.cls s
      let up := d.raised.filter (d.lifts e.cls s)
      Dev.each up (fun x d => d.liftActs x e.cls.up)
        ((((d.raiseMark s e.cls).faultRecord s e.cls c e.tag).forceFor s c).raiseClamp e c)

/-- Whether a fast-tier output of Bench `n` is beyond OVP. -/
def Dev.ovBeyond (d : Dev) (n : Nat) : Bool := (d.protInputs n).any (fun i => d.protFast n i && (d.mon i).cmpHi)

/-- The Benches that a force took out of OFF: a fast-tier output already beyond OVP raises it in the arming tick (R195). That source may
itself force further Benches out of OFF, so this is done at most once for each. -/
def Dev.ovArmed : Nat → Dev → Dev
  | 0, d => d
  | k + 1, d =>
    let l := (List.range 16).filter (fun n => (d.bench n).ovArm)
    if l.isEmpty then d
    else
      let d := Dev.each l (fun n d => d.modBench n (fun b => { b with ovArm := false })) d
      Dev.ovArmed k (Dev.each ((l.filter (fun n => d.ovBeyond n)).map (fun n => srcBench n 5)) (fun s d => d.raiseOne s) d)

/-- A source raised, and what that arms judged (R195, R321). -/
def Dev.raise (d : Dev) (s : Nat) : Dev := (d.raiseOne s).ovArmed 16

/-- Several sources raised in one tick (R333). -/
def Dev.raiseAll (d : Dev) (l : List Nat) : Dev := Dev.each l (fun s d => d.raise s) d

/-! ### Release (R295, R335) -/

/-- A Bench that PRO no longer holds goes from FORCED to OFF, its phases PASSIVE (R335). -/
def Dev.benchRelease (d : Dev) (n : Nat) : Dev :=
  if d.get (F.BEN_STATUS_STATE n) == BState.forced.code && !d.benchHeld n then d.benchRest n .off .passive else d

/-- Whether a cause of a slot's lockout remains: a transistor that conducts, two FAILED lanes, or a count that has reached NRETRY (R289 to R291). -/
def Dev.lockCause (d : Dev) (n : Nat) : Bool :=
  let s := d.slot n
  s.shorted || decide (2 ≤ s.failedLanes.length)
    || (d.get (F.HSW_STATUS_CAUSE n) == 8 && decide (d.effN (F.HSW_RETRY_NRETRY n) ≤ d.get (F.HSW_STATUS_COUNT n)))

/-- Whether a TRIPPED slot may go to SEATED: its retry timer has run, and its count is below NRETRY (R277). -/
def Dev.retryOver (d : Dev) (n : Nat) : Bool :=
  (d.slot n).retryEnd.isNone && decide (d.get (F.HSW_STATUS_COUNT n) < d.effN (F.HSW_RETRY_NRETRY n))

/-- A slot that PRO no longer holds leaves FORCED: to SEATED if its retry timer has run and no lockout cause remains, else to the
state it left (R295). -/
def Dev.slotRelease (d : Dev) (n : Nat) : Dev :=
  let s := d.slot n
  if s.state == .forced && !d.slotHeld n then
    if s.back == .lockout && (s.retryEnd.isSome || d.lockCause n) then d.slotGo n .lockout
    else if s.back == .tripped && !d.retryOver n then d.slotGo n .tripped
    else (d.modSlot n (fun x => { x with locked := x.locked && x.back != .lockout, lockHard := x.lockHard && x.back != .lockout })).slotGo n .seated
  else d

/-- Everything that no source holds any more let go (R335). -/
def Dev.releaseAll (d : Dev) : Dev :=
  let d := Dev.each (List.range 16) (fun n d => d.benchRelease n) d
  Dev.each (List.range 16) (fun n d => d.slotRelease n) d

/-! ### Pulse-handshake crossings (R100) -/

/-- A bit of CLK.XSUM set; a bit that sets raises XCROSS (R100, R317). -/
def Dev.xsum (d : Dev) (k : Nat) : Dev :=
  if d.bit F.CLK_XSUM_XFLAG k then d.stick F.CLK_XSUM_XFLAG (2 ^ k) else (d.stick F.CLK_XSUM_XFLAG (2 ^ k)).raise 623

/-- A merge at the crossing of ALERT shown in CLK.XSUM in the tick after it (R101). -/
def Dev.alertTick (d : Dev) : Dev :=
  if d.alertX.again then ({ d with alertX := { d.alertX with again := false } } : Dev).xsum 12 else d

/-- The pulse-handshake crossings: 0 to 63 the firmware sources, SYS to LOOP; 64 to 66 the event counters HST.COUNTS.BUSY, DENIED and
PROTO, HOST to SYS; 67 THM.COUNTS.SHUTDOWNS for SAFE's own shutdown, SAFE to LOOP. -/
def Dev.fwx (d : Dev) (j : Nat) : PulseX := d.fwCross[j]?.getD {}

/-- Crossing `j` changed. -/
def Dev.modFwx (d : Dev) (j : Nat) (f : PulseX → PulseX) : Dev := { d with fwCross := d.fwCross.setIfInBounds j (f (d.fwx j)) }

/-- What a transfer that carries `n` pulses does at the destination of crossing `j`. -/
def Dev.pulseTake (d : Dev) (j n : Nat) : Dev :=
  match j with
  | 64 => d.set F.HST_COUNTS_BUSY (d.get F.HST_COUNTS_BUSY + n)
  | 65 => d.set F.HST_COUNTS_DENIED (d.get F.HST_COUNTS_DENIED + n)
  | 66 => d.set F.HST_COUNTS_PROTO (d.get F.HST_COUNTS_PROTO + n)
  | 67 => d.set F.THM_COUNTS_SHUTDOWNS (d.get F.THM_COUNTS_SHUTDOWNS + n)
  | _ => d.raise (704 + j)

/-- The block that owns crossing `j`, as GLB.READY numbers it. -/
def pulseBlock (j : Nat) : Nat := if j < 64 then 12 else if j < 67 then 20 else 13

/-- A pulse on a crossing: a transfer starts, or the counter takes it, or the crossing overruns (R100). -/
def Dev.fwPulse (d : Dev) (j : Nat) : Dev :=
  let x := d.fwx j
  if !x.busy then (d.modFwx j (fun x => { x with busy := true })).pulseTake j 1
  else if x.count < 15 then d.modFwx j (fun x => { x with count := x.count + 1 })
  else (d.modFwx j (fun x => { x with overrun := true })).xsum (pulseBlock j)

/-- The acknowledge of a crossing's transfer completes: pulses that waited start the next transfer (R100). -/
def Dev.pulseDone (d : Dev) (j : Nat) : Dev :=
  let x := d.fwx j
  if !x.busy then d
  else if x.count = 0 then d.modFwx j (fun x => { x with busy := false })
  else (d.modFwx j (fun x => { x with count := 0 })).pulseTake j x.count

end Sys2Proof.Machine
end

