-- ==== Sys2Proof/Machine/Access.lean ====
section
/-! DEFINITION. A write of a whole register word under the access codes, locks, ranges and bounds (R7 to R12, R32, R125), for
the registers and the fields that have no behaviour of their own. -/

namespace Sys2Proof.Machine

/-- The LOCK bit that governs the RWL fields of a register (R12); none where its block has none. -/
def lockOf (addr : Nat) : Option Fld :=
  match addr / 0x10000 with
  | 1 => some F.CLK_CTRL_LOCK
  | 2 => some F.RST_WDT_LOCK
  | 4 => some (F.BEN_CTRL_LOCK ((addr - 0x40000) / 0x100))
  | 8 => some F.SHR_CTRL_LOCK
  | 9 => some F.CAP_CTRL_LOCK
  | 10 => some F.ENG_CTRL_LOCK
  | 12 => some F.SEQ_CTRL_LOCK
  | 13 => some (F.HSW_CTRL_LOCK (if addr < 0xD0400 then (addr - 0xD0000) / 0x40 else 0))
  | 22 => some F.HST_CFG_LOCK
  | 25 => some (F.TWB_CFG_LOCK ((addr - 0x190000) / 0x100))
  | 26 => some F.CPD_CTRL_LOCK
  | 27 => some F.UPD_CTRL_LOCK
  | _ => none

/-- Whether the RWL fields of a register are read-only. -/
def Dev.locked (d : Dev) (addr : Nat) : Bool :=
  match lockOf addr with
  | some f => d.on f
  | none => false

/-- The OVERRULED counter of the block that an address lies in (R32); none where the block has none. -/
def overruledOf (addr : Nat) : Option Fld :=
  match addr / 0x10000 with
  | 4 => some (F.BEN_COUNTS_OVERRULED ((addr - 0x40000) / 0x100))
  | 8 => some F.SHR_COUNTS_OVERRULED
  | 9 => some F.CAP_COUNTS_OVERRULED
  | 10 => some F.ENG_COUNTS_OVERRULED
  | 11 => some F.BAT_COUNTS_OVERRULED
  | 12 => some F.SEQ_COUNTS_OVERRULED
  | 13 => some F.HSW_COUNTS_OVERRULED
  | 15 => some F.THM_COUNTS_OVERRULED
  | _ => none

/-- The OVERRULED counter of an address raised by one. -/
def Dev.overruled (d : Dev) (addr : Nat) : Dev :=
  match overruledOf addr with
  | some f => d.inc f
  | none => d

/-- The field of a row at an address. -/
def FldRow.at (r : FldRow) (addr : Nat) : Fld := ⟨addr, r.lo, r.width⟩

/-- What a word write did besides storing: held a value, ignored an out-of-range one, met a locked field. -/
structure WriteFlags where
  held : Bool := false
  out : Bool := false
  locked : Bool := false
  deriving DecidableEq, Repr

/-- A field's bits as a number, with its sign where its table gives one. -/
def FldRow.num (r : FldRow) (v : Nat) : Int := if r.signed then toSigned r.width v else (v : Int)

/-- A field stored as it is written where it may stand so, else as it is held, which a Bench's field reads back unheld (R125). -/
def Dev.storeHeld (d : Dev) (r : FldRow) (addr v : Nat) (h : Int) (g : WriteFlags) : Dev × WriteFlags :=
  let f := r.at addr
  if h = r.num v then (d.set f v, g)
  else if r.ignoreOut then (d, { g with out := true })
  else
    let keep := if addr / 0x10000 = 4 then v else if r.signed then ofSigned r.width h else h.toNat
    (d.set f keep, { g with held := true })

/-- A field stored as DEFAULTS gives it: held to its range and bound (R124, R125). -/
def Dev.storeTuned (d : Dev) (r : FldRow) (addr v : Nat) (g : WriteFlags) : Dev × WriteFlags :=
  d.storeHeld r addr v (d.hold (r.at addr) (r.num v)) g

/-- Whether a rate bit of CLK.CTRL refuses a value: 133 MHz at 3.3 V, and any while the port's EN is 1 (R82, R104). -/
def Dev.rateRefused (d : Dev) (p : Nat) (v : Bool) : Bool :=
  (v && d.on F.RST_STRAP_IO_N) || d.on (if p = 0 then F.CLK_CTRL_NVA_EN else F.CLK_CTRL_NVB_EN)

/-- A field stored as a write gives it: held also to the one direction in which software may move some (R125, R248). -/
def Dev.storeWritten (d : Dev) (r : FldRow) (addr v : Nat) (g : WriteFlags) : Dev × WriteFlags :=
  d.storeHeld r addr v (d.hold (r.at addr) (d.oneWay (r.at addr) (r.num v))) g

/-- One field of a register word written (R10, R12). A W1C write clears what hardware did not set in the same SYS cycle (R11), a W1S write
sets; a write to an RO or WO field stores nothing. -/
def Dev.fieldWrite (addr w : Nat) (acc : Dev × WriteFlags) (r : FldRow) : Dev × WriteFlags :=
  let (d, g) := acc
  let f := r.at addr
  let v := w / 2 ^ r.lo % 2 ^ r.width
  match r.acc with
  | .ro => (d, g)
  | .wo => (d, g)
  | .w1c => (d.clrBits f (clr v (d.freshBits f.key)), g)
  | .stk => (d.clrBits f (clr v (d.freshBits f.key)), g)
  | .w1s => (d.orBits f v, g)
  | .rw => d.storeWritten r addr v g
  | .rwl =>
    if d.locked addr then (if d.get f = v then (d, g) else (d, { g with locked := true }))
    else d.storeWritten r addr v g

/-- A register word as its fields stand; a WO field reads 0 (R9, R10). -/
def Dev.plainWord (d : Dev) (addr : Nat) : Nat :=
  match rowAt addr with
  | none => 0
  | some r => r.fields.foldl (fun a x => if x.acc = .wo then a else a + d.get (x.at addr) * 2 ^ x.lo) 0

/-- What a write leaves besides its effect: OVERRULED and a NOTE of kind 01h where a value was held, a NOTE of kind 02h where
a locked field or an ignored range was met (R12, R32, R125). -/
def Dev.writeNotes (d : Dev) (addr w : Nat) (g : WriteFlags) : Dev :=
  let d := if g.held then (d.overruled addr).note 1 addr w (d.plainWord addr) else d
  if g.locked || g.out then d.note 2 addr w (d.plainWord addr) else d

/-- A whole word written to a register that has no behaviour of its own (R7, R10). An address that the index gives no register
ignores the write (R504). -/
def Dev.plainWrite (d : Dev) (addr w : Nat) : Dev :=
  match rowAt addr with
  | none => d
  | some r =>
    let (d', g) := r.fields.foldl (Dev.fieldWrite addr w) (d, {})
    d'.writeNotes addr w g

/-- A write to a block that is not READY: it is stored, its enable, start and GO bits (`go`) are ignored and read back 0, and an ignored
one leaves a NOTE (R117). -/
def Dev.goIgnored (d : Dev) (addr w go : Nat) : Dev :=
  let d := d.plainWrite addr (clr w go)
  if w &&& go = 0 then d else d.note 2 addr w (d.plainWord addr)

/-- A request that a master may not make: nothing is done but a NOTE of kind 03h (R412, R433, R501). -/
def Dev.noteDenied (d : Dev) (a w : Nat) : Dev := d.note 3 (a % 0x1000000) w (if a < 0x400000 then d.plainWord a else 0)

/-- A register word with one of its fields replaced. -/
def Dev.wordWith (d : Dev) (f : Fld) (v : Nat) : Nat :=
  let w := d.plainWord f.addr
  w - w / 2 ^ f.lo % 2 ^ f.width * 2 ^ f.lo + v % 2 ^ f.width * 2 ^ f.lo

end Sys2Proof.Machine
end

