-- ==== Sys2Proof/Machine/Bench.lean ====
section
/-! DEFINITION. The Benches: states, ramp and retarget, the pre-start test, the update, phases added, shed and dropped,
limits, nonlinear events (chapters 07 and 08 of the spec). -/

namespace Sys2Proof.Machine

/-- A phase of Bench `n` changed, by its rank in the phase map. -/
def Bench.modPhase (b : Bench) (p : Nat) (f : Phase → Phase) : Bench :=
  { b with phases := b.phases.mapIdx (fun i x => if i = p then f x else x) }

/-- Phases of a Bench that are switching. -/
def Bench.sw (b : Bench) : List Phase := b.phases.filter (·.switching)

/-- Phases joined by the plane and not dropped. -/
def Bench.healthy (b : Bench) : List Phase := b.phases.filter (fun p => !p.dropped)

/-- The bits of the phases for which `f` holds, in the order of the phase map. -/
def Bench.phaseMask (b : Bench) (f : Phase → Bool) : Nat :=
  maskOf b.phases.length (fun i => ((b.phases[i]?).map f).getD false)

/-- The status fields that show a Bench's phases. -/
def Dev.showPhases (d : Dev) (n : Nat) : Dev :=
  let b := d.bench n
  d.set (F.BEN_STATUS_NSW n) b.sw.length |>.set (F.BEN_STATUS_NHEALTHY n) b.healthy.length
    |>.set (F.BEN_PHACT_ACT n) (b.phaseMask (·.switching))

/-- The offsets that the switching phases move to: rank j of m at round(j x PERIOD / m); a phase that joins begins at its offset (R157,
R177). -/
def Bench.interleave (b : Bench) : Bench :=
  let m := b.sw.length
  let go := b.phases.foldl (fun (acc : List Phase × Nat) p =>
    if p.switching then
      let g := (roundR ((acc.2 * b.period : Nat) / (max 1 m : Nat) : Rat)).toNat
      (acc.1 ++ [{ p with goal := g, offset := if p.joining then g else p.offset }], acc.2 + 1)
    else (acc.1 ++ [p], acc.2)) ([], 0)
  { b with phases := go.1 }

/-- SLEWING and MARGINED as the ramp and the margin in effect stand. -/
def Dev.showRamp (d : Dev) (n : Nat) : Dev :=
  let b := d.bench n
  d.setB (F.BEN_STATUS_SLEWING n) (b.vrAt d.loop != b.vt) |>.setB (F.BEN_STATUS_MARGINED n) (d.marginE n != 0)

/-! ### Setpoint, margin, slew and period writes (R155, R166 to R168) -/

/-- The ramp turned to the target that the present VSET and MARGIN give, if the Bench is in RAMP or REG. A change of target while
the ramp has not reached the old one is a retarget (R167); two changes in one tick are one (R168). -/
def Dev.retarget (d : Dev) (n : Nat) : Dev :=
  let s := d.get (F.BEN_STATUS_STATE n)
  if s == 2 || s == 3 then
    let b := d.bench n
    let vt := d.vtNew n
    if vt = b.vtEff then d.showRamp n
    else
      let moving := b.vrAt d.loop != b.vt && b.vtTick != some d.loop
      let d := d.modBench n (fun b => { (b.anchor d.loop) with vt := vt, vtEff := vt, vtTick := some d.loop, slew := d.slewE n })
      (if moving then d.incMod (F.BEN_STATUS_RETARGET n) else d).showRamp n
  else d

/-- Whether a coupling between fields holds the register at a Bench's offset: PERIOD, PHTHR, SHED or PHLIM (R161, R174, R190). -/
def Dev.coupledAt (d : Dev) (n off : Nat) : Bool :=
  if off = 0x10 then d.benCoupled n 3
  else if off = 0x1C then d.benCoupled n 6
  else if off = 0x20 then d.benCoupled n 7
  else if off = 0x6C then d.benCoupled n 11
  else false

/-- Whether a LOCK bit keeps a write from the field that a coupling holds: PERIOD and MINPH are RWL fields (R12). -/
def Dev.coupledLock (d : Dev) (n off : Nat) : Bool := d.locked (0x40000 + 0x100 * n) && (off == 0x10 || off == 0x20)

/-- A word written to a register of Bench `n`: the plain write, and the overruling where a coupling holds it. A locked field is not
written, so nothing of it is overruled (R12). A Bench that the bitstream leaves unconfigured ignores the write (R504). -/
def Dev.benWrite (d : Dev) (n off w : Nat) : Dev :=
  if !d.hasBench n then d
  else
    let a := 0x40000 + 0x100 * n + off
    let k := d.get (F.BEN_COUNTS_OVERRULED n)
    let locked := d.coupledLock n off
    let d := d.plainWrite a w
    if !locked && d.coupledAt n off && d.get (F.BEN_COUNTS_OVERRULED n) == k then (d.overruled a).note 1 a w (d.plainWord a) else d

/-- VSET written (R167, R168). -/
def Dev.vsetWrite (d : Dev) (n w : Nat) : Dev := (d.benWrite n 0x04 w).retarget n

/-- MARGIN stored, and the ramp turned. -/
def Dev.marginStore (d : Dev) (n w : Nat) : Dev := ((d.benWrite n 0x08 w).retarget n).showRamp n

/-- MARGIN written by SYS: SEQ's write of the same tick counts as the later one, and its value stands (R168). -/
def Dev.marginWrite (d : Dev) (n w : Nat) : Dev :=
  let d := d.marginStore n w
  match (d.bench n).seqMargin with
  | some (t, v) => if t = d.loop then d.marginStore n v else d
  | none => d

/-- MARGIN written by SEQ (R168). -/
def Dev.marginBySeq (d : Dev) (n w : Nat) : Dev :=
  (d.modBench n (fun b => { b with seqMargin := some (d.loop, w) })).marginStore n w

/-- SLEW written: the ramp's rate changes from the next tick at the present position; no retarget (R167). -/
def Dev.slewWrite (d : Dev) (n w : Nat) : Dev :=
  let d := d.benWrite n 0x0C w
  if d.hasBench n then d.modBench n (fun b => { (b.anchor d.loop) with slew := d.slewE n }) else d

/-- PERIOD written: it takes effect at the first update boundary after (R155). -/
def Dev.periodWrite (d : Dev) (n w : Nat) : Dev := d.benWrite n 0x10 w

/-! ### Feedback and protection windows (R170, R184, R194) -/

/-- A MON window's thresholds set by its Bench. -/
def Dev.setWin (d : Dev) (i lo hi : Nat) : Dev := (d.set (F.MON_WIN_LO i) lo).set (F.MON_WIN_HI i) hi

/-- The feedback pair at VR less NL_LO and VR plus NL_HI, through the divider that the plane declares (R163, R170). -/
def Dev.feedbackWin (d : Dev) (n : Nat) : Dev :=
  let pl := (d.bench n).active
  let vr : Rat := ((d.bench n).vrAt d.loop : Rat) / nvStep
  d.setWin pl.fb (monThr12 pl.ratio (vr - d.effN (F.BEN_NLBAND_NL_LO n))) (monThr12 pl.ratio (vr + d.effN (F.BEN_NLBAND_NL_HI n)))

/-- The thresholds of the protection inputs rewritten from OVP and UVP (R194). The feedback pair serves R170, not these. -/
def Dev.protectWin (d : Dev) (n : Nat) : Dev :=
  Dev.each ((d.protInputs n).filter (fun i => i != (d.bench n).active.fb)) (fun i d =>
    match d.monCfg i with
    | none => d
    | some m => d.setWin i (monThr12 m.ratio (d.uvpE n)) (monThr12 m.ratio (d.ovpE n))) d

/-- OVP and UVP, their debounces or LIMT written: the thresholds follow in the tick it lands, in every state (R194). -/
def Dev.ovuvWrite (d : Dev) (n off w : Nat) : Dev := (d.benWrite n off w).protectWin n

/-! ### Starting and stopping (R165, R169, R183 to R188) -/

/-- UVP armed at the entry to REG: the run of readings starts there, and a fast-tier output already beyond raises at once
(R195). -/
def Dev.armUvp (d : Dev) (n : Nat) : Dev :=
  let ins := d.protInputs n
  let d := Dev.each ins (fun i d => d.modMon i (fun m => { m with uvRun := 0 })) d
  if ins.any (fun i => d.protFast n i && (d.mon i).cmpLo) then d.raise (srcBench n 6) else d

/-- OVP armed when the Bench leaves OFF (R195). -/
def Dev.armOvp (d : Dev) (n : Nat) : Dev :=
  let d := Dev.each (d.protInputs n) (fun i d => d.modMon i (fun m => { m with ovRun := 0 })) d
  if d.ovBeyond n then d.raise (srcBench n 5) else d

/-- The condition of a phase that takes its plane safe state. -/
def Phase.safe (p : Phase) : Cond := if p.safeZ then .z else .low

/-- A channel's sums and window checks opened afresh. -/
def Chan.clear (x : Chan) : Chan :=
  { x with
    sum := 0, cnt := 0, nextSum := 0, nextCnt := 0
    stuckWin := false, rangeWin := false, stuckNext := false, rangeNext := false }

/-- Entry to PRESTART: the target and V0 taken (R168, R184), the feedback pair set for the test, tested phases to Z, dropped phases in their safe state,
their channels' windows cleared (R183, R184). -/
def Dev.prestartEnter (d : Dev) (n : Nat) : Dev :=
  let b := d.bench n
  let tested := (List.range b.phases.length).filter (fun p => !(((b.phases[p]?).map (·.dropped)).getD true))
  let v0 := d.get (F.BEN_VOUT_VOUT n)
  let d := d.modBench n (fun b => { b with
    phases := b.phases.map (fun p => p.still (if p.dropped then p.safe else .z))
    startHeld := false, vtEff := d.vtNew n, v0 := v0, psEntry := d.loop, psRun := true, psBiasOk := false, psNext := 0, psTested := tested,
    psPulseEnd := 0, zUpdate := false })
  let d := Dev.each (b.phases.map (·.chan)) (fun c d => d.modChan c Chan.clear) d
  let d := d.setWin b.active.fb 0 (monThr12 b.active.ratio (v0 + d.effN (F.BEN_PSTHR_PS_VRISE n)))
  (d.set (F.BEN_STATUS_STATE n) 1).armOvp n

/-- A START: acted on in OFF, held while BEN READY is 0, discarded in FORCED, refused with a NOTE in STOPPING (R165). -/
def Dev.benchStart (d : Dev) (n : Nat) : Dev :=
  if !d.hasBench n then d
  else
    let s := d.get (F.BEN_STATUS_STATE n)
    if s = 0 then
      if d.ready 2 then d.prestartEnter n else d.modBench n (fun b => { b with startHeld := true })
    else if s = 4 then d.note 3 (0x40000 + 0x100 * n) 0 (d.plainWord (0x40000 + 0x100 * n))
    else d

/-- The phases of a Bench in Z for the last update of STOPPING, one update period from now (R165). -/
def Dev.stopZ (d : Dev) (n : Nat) : Dev :=
  let d := d.modBench n (fun b => { (b.anchor d.loop) with
    phases := b.phases.map (fun p => if p.dropped then p else { p.still .z with offset := p.offset })
    left := b.left.map (fun p => p.still .z), zUpdate := true, zEnd := d.loop + b.updTicks })
  d.benchQuiet n

/-- A Bench's STOP itself: a held START withdrawn; PRESTART to OFF with RESULT 110b, its tested phases Z in this tick and PASSIVE from the next; RAMP and
REG to STOPPING from the present VR, its Z update at once when VR is at or below the stop floor or the plane coasts (R165, R187). -/
def Dev.stopNow (d : Dev) (n : Nat) : Dev :=
  if !d.hasBench n then d
  else
    let s := d.get (F.BEN_STATUS_STATE n)
    let d := d.modBench n (fun b => { b with startHeld := false })
    if s = 1 then
      ((d.modBench n (fun b => { b with zTick := some d.loop, stopFrom := some (d.loop, s) })).set (F.BEN_PSTEST_RESULT n) 6).benchRest
        n .off .passive
    else if s = 2 ∨ s = 3 then
      let b := d.bench n
      let floor := b.active.stopFloor * nvStep
      let d := d.modBench n (fun b => { (b.anchor d.loop) with
        vt := min floor (b.vrAt d.loop), slew := d.slewE n, stopFrom := some (d.loop, s) })
      let d := (d.set (F.BEN_STATUS_STATE n) 4).showRamp n
      if b.active.coast || decide (b.vrAt d.loop ≤ floor) then d.stopZ n else d
    else d

/-- The pre-start test failed: its result, its count, and its TRIP source (R187); a STOP of the same tick is discarded (R198). -/
def Dev.prestartFail (d : Dev) (n result phase : Nat) : Dev :=
  let d := (d.set (F.BEN_PSTEST_RESULT n) result).set (F.BEN_PSTEST_PHASE n) phase |>.inc (F.BEN_PSTEST_FAILS n)
  (d.modBench n (fun b => { b with psRun := false, zTick := none })).raise (srcBench n 0)

/-- Whether Bench `n` is under test in this tick: a STOP of the same tick takes nothing from a condition that trips it (R198). -/
def Dev.testing (d : Dev) (n : Nat) : Bool := (d.bench n).psRun || (d.bench n).zTick == some d.loop

/-- The tick t0 of the first pulse: e + PS_BIAS + 10 (R186). On a duplex device it comes as much later as the results do, so that the last of
the window is in when the window is judged: the model's choice (R359; log entry 84). -/
def Dev.psT0 (d : Dev) (n : Nat) : Nat := (d.bench n).psEntry + d.effN (F.BEN_PSCFG_PS_BIAS n) + 10 + d.lag

/-- The pulse spacing P = PS_PULSE + 10 + PS_REST (R186). -/
def Dev.psP (d : Dev) (n : Nat) : Nat := d.effN (F.BEN_PSCFG_PS_PULSE n) + 10 + d.effN (F.BEN_PSCFG_PS_REST n)

/-- The mean current of a phase's channel over its window, in milliamperes: formed from the codes at full precision, converted to the
channel's I16 scale, and only then saturated to its range (R158). -/
def Dev.chanMean (d : Dev) (c : Nat) : Option Rat :=
  let x := d.chan c
  if x.cnt = 0 then none
  else some (clampR ((x.sum : Rat) / (x.cnt : Rat) * (d.chanCfg c).perCode) (-32768) 32767 * (d.chanCfg c).mA)

/-- The bias window judged at t0: the sense check ranks over the current check, PHASE names the lowest rank (R185). -/
def Dev.prestartJudge (d : Dev) (n : Nat) : Dev :=
  let b := d.bench n
  if !(d.testing n && !b.psBiasOk && decide (d.psT0 n ≤ d.loop)) then d
  else
    let chanOf (p : Nat) : Nat := ((b.phases[p]?).map (·.chan)).getD 0
    let sense (p : Nat) : Bool := d.on (F.ADC_STATUS_STUCK (chanOf p)) || d.on (F.ADC_STATUS_RANGE (chanOf p))
    let exceeds (p : Nat) : Bool :=
      decide ((10 * d.effN (F.BEN_PSTHR_PS_IBIAS n) : Rat) < absR ((d.chanMean (chanOf p)).getD 0))
    match b.psTested.find? sense with
    | some p => d.prestartFail n 5 p
    | none =>
      match b.psTested.find? exceeds with
      | some p => d.prestartFail n 3 p
      | none => d.modBench n (fun b => { b with psBiasOk := true })

/-- The pulse of the next tested phase begins: LOW, every other tested phase Z (R186). -/
def Dev.prestartPulse (d : Dev) (n : Nat) : Dev :=
  let b := d.bench n
  let at0 := d.psT0 n + b.psNext * d.psP n
  match b.psTested[b.psNext]? with
  | none => d
  | some p =>
    if b.psRun && b.psBiasOk && decide (at0 ≤ d.loop) then
      d.modBench n (fun b => { b with
        phases := b.phases.mapIdx (fun i x => if x.dropped then x else { x with cond := if i = p then .low else .z })
        psNext := b.psNext + 1, psPulseEnd := at0 + d.effN (F.BEN_PSCFG_PS_PULSE n) })
    else d

/-- A feedback result taken for the next update to be computed (R160, R163). -/
def Bench.takeFb (b : Bench) (x : FbRead) : Bench := { b with fb := x.v, fbTick := x.tick, fbVr := x.vr, fbNew := true }

/-- The latest feedback reading of a Bench. -/
def Bench.fbLatest (b : Bench) : Rat := (b.fbNext.map (·.v)).getD b.fb

/-- What came after the window had closed taken for the update after it (R160). -/
def Bench.fbCarry (b : Bench) : Bench :=
  match b.fbNext with
  | some x => { b.takeFb x with fbNext := none }
  | none => b

/-- The loop's memory and counters as a START from rest finds them. The spec names no values for iv, dv, e_prev and y at the entry to RAMP;
0 is the model's choice (log entry 83). -/
def Bench.loopReset (b : Bench) : Bench :=
  { b with
    iv := 0, dv := 0, y := 0, cmd := 0, dlim := none, bump := false, ePrev := 0, fold := 1, limStart := none, limDone := false
    nlEnd := 0, nlWin := false, nlResume := false, nlUnderHold := 0, nlOverHold := 0, sinceNl := 64, shedRun := 0, senseRun := 0
    railOc := false, limTrip := false, updates := 0, updTick := none, nlGo := 0, fbNext := none, hist := [], left := [], adds := [] }

/-- Entry to RAMP: VR starts at the feedback voltage measured, or at VT if that is at or above it; every undropped phase
switches (R169). A phase keeps the offset that it had and moves from it to its new one as R157 says; that it does not begin at the new one is
the model's choice (log entry 82). -/
def Dev.rampEnter (d : Dev) (n : Nat) : Dev :=
  let fb := d.get (F.BEN_VOUT_VOUT n) * nvStep
  let d := d.modBench n (fun b =>
    let vt := b.vtEff
    let ph := b.phases.map (fun p => if p.dropped then p else
      { (p.still .low) with switching := true, was := 0, wait := 0, dropRun := 0 })
    ({ b.loopReset with
        vt := vt, vr := min fb vt, vrTick := d.loop, slew := d.slewE n, psRun := false, period := d.periodE n
        epoch := d.loop, kth := 1, phases := ph }).interleave)
  let d := Dev.each ((d.bench n).phases.map (·.chan)) (fun c d => d.modChan c Chan.clear) d
  ((d.set (F.BEN_STATUS_STATE n) 2).showPhases n).showRamp n |>.protectWin n

/-- The test passes at t0 + k x P, and the Bench enters RAMP (R186). -/
def Dev.prestartPass (d : Dev) (n : Nat) : Dev :=
  let b := d.bench n
  if b.psRun && b.psBiasOk && b.psNext == b.psTested.length
      && decide (d.psT0 n + b.psTested.length * d.psP n ≤ d.loop) then
    (d.set (F.BEN_PSTEST_RESULT n) 1 |>.set (F.BEN_PSTEST_PHASE n) 0).rampEnter n
  else d

/-- A crossing of V0 + PS_VRISE fails the test with RESULT 010b (R184). -/
def Dev.prestartRise (d : Dev) (n : Nat) : Dev := if d.testing n then d.prestartFail n 2 0 else d

/-- Entry to REG (R165, R195). -/
def Dev.regEnter (d : Dev) (n : Nat) : Dev := ((d.set (F.BEN_STATUS_STATE n) 3).showRamp n).armUvp n

/-- VR has reached VT: RAMP becomes REG, and SLEWING clears (R165, R166). A ramp that begins at VT ends at the next update (R169). -/
def Dev.rampReached (d : Dev) (n : Nat) : Dev :=
  let b := d.bench n
  let s := d.get (F.BEN_STATUS_STATE n)
  if !d.hasBench n || b.vrAt d.loop != b.vt then d
  else if s = 2 then (if b.updates = 0 ∧ b.vr = b.vt then d else d.regEnter n)
  else if s = 3 then d.showRamp n
  else d

/-- VR has reached the stop floor: the Z update begins (R165). -/
def Dev.stopFloor (d : Dev) (n : Nat) : Dev :=
  let b := d.bench n
  if d.get (F.BEN_STATUS_STATE n) = 4 ∧ !b.zUpdate ∧ b.vrAt d.loop = b.vt then d.stopZ n else d

/-! ### Current samples (R73, R158, R159, R186, R189, R190) -/

/-- The Bench and the rank of the phase that a channel senses. -/
def Dev.phaseOf (d : Dev) (c : Nat) : Option (Nat × Nat) :=
  match (d.chanCfg c).owner with
  | .bench n => ((d.bench n).phases.findIdx? (fun p => p.chan == c)).map (fun i => (n, i))
  | _ => none

/-- Where a sample of channel `c` with sample tick `t` belongs: 1 the open window, 2 the one after it, 0 neither. The bias window of a
pre-start test is [e, e + PS_BIAS), that of update k of a running Bench [s(k-1), s(k)) (R158, R185). -/
def Dev.windowOf (d : Dev) (c t : Nat) : Nat :=
  match d.phaseOf c with
  | none => 0
  | some (n, _) =>
    let b := d.bench n
    if b.psRun then (if b.psEntry ≤ t ∧ t < b.psEntry + d.effN (F.BEN_PSCFG_PS_BIAS n) then 1 else 0)
    else if !d.updating n || decide (t < d.updAt n (b.kth - 1)) then 0
    else if t < d.updAt n b.kth then 1
    else 2

/-- A channel with one more code of a sample tick, counted where it belongs, and its two plausibility checks (R158, R159). -/
def Chan.take (x : Chan) (t : Nat) (code : Int) (win : Nat) : Chan :=
  let stuck := if code = x.last ∧ x.seen then x.stuckRun + 1 else 1
  let range := if code = -8192 ∨ code = 8191 then x.rangeRun + 1 else 0
  let x := { x with
    last := code, tick := t, seen := true, win := ((t, code) :: x.win).take 26, stuckRun := stuck, rangeRun := range }
  if win = 1 then { x with
    sum := x.sum + code, cnt := x.cnt + 1
    stuckWin := x.stuckWin || decide (64 ≤ stuck), rangeWin := x.rangeWin || decide (8 ≤ range) }
  else if win = 2 then { x with
    nextSum := x.nextSum + code, nextCnt := x.nextCnt + 1
    stuckNext := x.stuckNext || decide (64 ≤ stuck), rangeNext := x.rangeNext || decide (8 ≤ range) }
  else x

/-- One more code of channel `c`, and the sticky bits of its two checks (R159). The sample was taken 10 ticks before its result (R73), on
a duplex device 32 more (R359). -/
def Dev.plausible (d : Dev) (c : Nat) (code : Int) : Dev :=
  let t := d.loop - (10 + d.lag)
  let w := d.windowOf c t
  let d := d.modChan c (fun x => x.take t code w)
  let d := if 64 ≤ (d.chan c).stuckRun then d.stick (F.ADC_STATUS_STUCK c) 1 else d
  if 8 ≤ (d.chan c).rangeRun then d.stick (F.ADC_STATUS_RANGE c) 1 else d

/-- A sample of the phase being pulsed, compared with PS_ITRIP while its results arrive (R186), on a duplex device 32 ticks later
(log entry 84). -/
def Dev.pulseSample (d : Dev) (n p : Nat) (mA : Rat) : Dev :=
  let b := d.bench n
  let cur := b.psTested[b.psNext - 1]?
  let t := b.psPulseEnd - d.effN (F.BEN_PSCFG_PS_PULSE n)
  if b.psBiasOk && decide (0 < b.psNext) && cur == some p && decide (t + d.lag ≤ d.loop ∧ d.loop < b.psPulseEnd + 10 + d.lag)
      && decide ((100 * d.effN (F.BEN_PSTHR_PS_ITRIP n) : Rat) < mA) then
    (d.modBench n (fun b => b.modPhase p (fun x => { x with cond := .z }))).prestartFail n 4 p
  else d

/-- A phase whose sample lies above IPH_LIM: its HIGH ends in the next tick, for the rest of the period. A phase with no HIGH to end is
not limited (R189). -/
def Phase.limit (p : Phase) (now period : Nat) : Phase :=
  if p.condAt now == .high then
    { p with
      limited := true, limWin := true, lowAt := some (now + 1)
      short := p.short || decide (10 * (64 * (now + 1 - p.start)) < period), onNow := min p.onNow (64 * (now + 1 - p.start)) }
  else p

/-- A phase whose sample lies above IPH_TRIP goes LOW in the next tick (R190). -/
def Phase.trip (p : Phase) (now : Nat) : Phase := { p with tripWin := true, lowAt := some (now + 1) }

/-- A sample of a phase of a running Bench: above IPH_LIM its HIGH ends for the rest of the period; above IPH_TRIP the source
PHTRIP is raised and the phase goes LOW (R189, R190). -/
def Dev.limitSample (d : Dev) (n p : Nat) (mA : Rat) : Dev :=
  let lim := decide ((d.iphLimE n : Rat) < mA)
  let trip := decide ((d.iphTripE n : Rat) < mA)
  let d := if !d.updating n then d else d.modBench n (fun b => b.modPhase p (fun x =>
    let x := if lim then x.limit d.loop b.period else x
    if trip then x.trip d.loop else x))
  if trip then d.raise (srcBench n 2) else d

/-- A current-sense result reaches every consumer (R26, R73). A sample of the tick in which a STOP or a force has ended what judges it is
judged all the same (R198). -/
def Dev.adcResult (d : Dev) (c : Nat) (code : Int) : Dev :=
  let d := (d.plausible c code).setS (F.ADC_RESULT_SAMPLE c) (chanSample (d.chanCfg c) code)
  let mA := d.sampleMa c
  match d.phaseOf c with
  | none => d
  | some (n, p) =>
    let b := d.bench n
    if d.testing n then d.pulseSample n p mA
    else if d.updating n || b.ranAt == some d.loop then d.limitSample n p mA
    else d

/-! ### PWM periods (R154 to R157, R176, R177, R189, R190) -/

/-- The on-time of a duty in a period: round(D x PERIOD) with D in steps of 1/65,536, and the plane's minimum on-time and off-time (R156).
A duty is cut down to such a step (log entry 7). -/
def onTime (pl : Plane) (period : Nat) (duty : Rat) : Nat :=
  let on := (roundR ((floorN (duty * 65536) : Rat) / 65536 * period)).toNat
  if on < pl.minOn then 0
  else if period < on + pl.minOff then period - pl.minOff
  else on

/-- An offset moved towards its goal by at most PERIOD / 8 (R157). -/
def moveOffset (period off goal : Nat) : Nat :=
  let s := period / 8
  if off < goal then min goal (off + s) else max goal (off - s)

/-- The Bench and rank of the phase on a PWM pin. -/
def Dev.phaseOfPin (d : Dev) (pin : Nat) : Option (Nat × Nat) :=
  match (List.range 16).find? (fun n => (d.bench n).phases.any (fun p => p.pin == pin)) with
  | some n => ((d.bench n).phases.findIdx? (fun p => p.pin == pin)).map (fun i => (n, i))
  | none => none

/-- A phase at its period start: a shed phase takes Z, a joining phase begins to switch, the limit run counts the period that
ends, the pin is HIGH for the on-time, and the phase moves to its offset (R156, R157, R176, R177, R189, R190). `hold` says that a nonlinear
event or the wait for its first update boundary commands the pin (R171); `upd` is the tick of the last update: a period that starts in it or
in the next uses the duty before it (R160), no phase that it added begins in them, and one that it shed leaves after it (R176, R177). -/
def Phase.periodStart (p : Phase) (pl : Plane) (period : Nat) (hold : Bool) (upd : Option Nat) (now : Nat) : Phase :=
  let old := upd == some now || upd.map (· + 1) == some now
  if p.dropped || (p.leaving && upd == some now) || (p.joining && old) then p
  else if p.leaving then
    { p with leaving := false, switching := false, shed := true, cond := .z, lowAt := none, bal := 0, ic := 0, on := p.onNow, onNow := 0 }
  else if !p.switching then p
  else
    let on := onTime pl period (if old then p.was else p.duty)
    let q := { p with
      joining := false, limRun := if p.limited then p.limRun + 1 else 0, limited := false, offset := moveOffset period p.offset p.goal }
    if hold then q
    else { q with
      on := p.onNow, onNow := on, start := now, short := p.short || decide (10 * on < period)
      cond := if on = 0 then .low else .high, lowAt := some (now + (on + 63) / 64) }

/-- A period start on a PWM pin of a running Bench; a phase that a swap removed leaves as a shed one does (R149, R176). -/
def Dev.periodStart (d : Dev) (pin : Nat) : Dev :=
  match d.phaseOfPin pin with
  | some (n, i) =>
    if d.updating n && !(d.bench n).zUpdate then
      let hold := d.on (F.BEN_STATUS_NL n) || (d.bench n).nlResume || decide (d.loop < (d.bench n).nlGo)
      (d.modBench n (fun b => b.modPhase i (fun p => p.periodStart b.active b.period hold b.updTick d.loop))).showPhases n
    else d
  | none => Dev.each (List.range 16) (fun n d => d.modBench n (fun b => { b with
      left := b.left.map (fun p => if p.pin = pin ∧ p.leaving then p.periodStart b.active b.period false none d.loop else p) })) d

/-- A phase limited in PHOC_N consecutive switching periods raises PHOC (R190). -/
def Dev.phocCount (d : Dev) (n p : Nat) : Dev :=
  match (d.bench n).phases[p]? with
  | none => d
  | some x =>
    if d.updating n && decide (d.effN (F.BEN_OCCFG_PHOC_N n) ≤ x.limRun + x.limited.toNat) && decide (0 < x.limRun + x.limited.toNat)
    then d.raise (srcBench n 1) else d

/-! ### Nonlinear events (R171) -/

/-- A plane number with 24 fraction bits (R163). -/
def fx (i : Int) : Rat := (i : Rat) / 16777216

/-- The mean of a list of rationals; 0 of an empty one. -/
def meanR (l : List Rat) : Rat := if l.isEmpty then 0 else l.foldl (· + ·) 0 / (l.length : Rat)

/-- A phase that joins a Bench: switching from its next period start at its new offset, with the duty and the integrator given; its
share and plausibility checks begin three windows later (R177). -/
def Phase.join (p : Phase) (duty ic : Rat) : Phase :=
  { p with
    joining := true, leaving := false, switching := true, shed := false, duty := duty, bal := 0, ic := ic, bump := true, wait := 3
    dropRun := 0 }

/-- Phase `i` joined: it takes the mean duty of the switching phases, and in a CM plane the integrator that R164 gives it, with the
error that the current command shared among the phases with it leaves (R177). -/
def Bench.joinPhase (b : Bench) (i : Nat) : Bench :=
  let duty := meanR (b.sw.map (·.duty))
  let ec := b.cmd / (b.sw.length + 1 : Nat) - (((b.phases[i]?).map (·.mean)).getD 0) / 1000
  let ic := if b.active.cm then duty - fx b.active.kpc * ec else 0
  (b.modPhase i (fun p => p.join duty ic)).interleave

/-- Every healthy shed phase joined, as an undershoot event does (R171, R174). -/
def Bench.joinAll (b : Bench) : Bench :=
  ((List.range b.phases.length).filter (fun i => ((b.phases[i]?).map (fun p => !p.dropped && (p.shed || p.leaving) && !p.joining)).getD
    false)).foldl Bench.joinPhase b

/-- What an event commands of a phase: HIGH, or the plane's release condition; a phase that its limit has cut stays LOW (R171, R189). -/
def Phase.event (p : Phase) (c : Cond) (now : Nat) : Phase :=
  if p.dropped || p.limited then p else { p with cond := c, lowAt := none, start := now }

/-- A crossing of the feedback band starts an event on every joined, undropped phase; shed phases that an undershoot uses are
added (R171, R174). -/
def Dev.nlStart (d : Dev) (n : Nat) (under : Bool) : Dev :=
  let b := d.bench n
  let hold := if under then b.nlUnderHold else b.nlOverHold
  if !(d.hasBench n && d.on (F.BEN_CTRL_NL_EN n) && d.get (F.BEN_STATUS_STATE n) == 3 && !d.on (F.BEN_STATUS_NL n)
      && decide (hold ≤ d.loop)) then d
  else if under && decide ((d.get (F.BEN_ILIM_EFF_LIMIT n) : Rat) ≤ b.iout) then d
  else
    let c : Cond := if under then .high else if b.active.nlrelZ then .z else .low
    let d := d.modBench n (fun b =>
      let b := if under then b.joinAll else b
      { b with
        phases := b.phases.map (fun p => p.event c d.loop), nlUnder := under, nlFrom := d.loop, nlEnd := d.loop + d.effN (F.BEN_NLMAX_NLMAX n)
        nlWin := true, nlResume := false, sinceNl := 0 })
    ((d.setB (F.BEN_STATUS_NL n) true).inc (F.BEN_COUNTS_NLCOUNT n)).showPhases n

/-- A phase when the event ends: a HIGH ends, a switching phase waits LOW, a shed one goes back to Z (log entry 58). -/
def Phase.eventEnd (p : Phase) : Phase :=
  if p.dropped then p else if p.switching then { p with cond := .low, lowAt := none } else { p with cond := .z, lowAt := none }

/-- Whether the event of Bench `n` has come to its end: the comparator that started it has cleared, or NLMAX ticks have passed (R171). -/
def Dev.nlOver (d : Dev) (n : Nat) : Bool :=
  let b := d.bench n
  let m := d.mon b.active.fb
  d.on (F.BEN_STATUS_NL n) && (decide (b.nlEnd ≤ d.loop) || !(if b.nlUnder then m.cmpLo else m.cmpHi))

/-- The event ends: switching resumes with the duty of the first update boundary after it, and a new event in the same direction cannot
start for one update period (R171). The updates of R174 count from here (log entry 59). -/
def Dev.nlEnd (d : Dev) (n : Nat) : Dev :=
  if d.nlOver n then
    ((d.upsetAt (d.bench n).nlFrom d.loop).modBench n (fun b =>
      let until_ := d.loop + b.updTicks
      let b := { b with phases := b.phases.map Phase.eventEnd, nlResume := true, sinceNl := 0 }
      if b.nlUnder then { b with nlUnderHold := until_ } else { b with nlOverHold := until_ })).setB (F.BEN_STATUS_NL n) false
  else d

/-- No event outlasts NLMAX: each that has run so long ends in this tick (R171). -/
def Dev.nlBound (d : Dev) : Dev :=
  Dev.each (List.range 16) (fun n d => if d.on (F.BEN_STATUS_NL n) && decide ((d.bench n).nlEnd ≤ d.loop) then d.nlEnd n else d) d

/-! ### The update (R160 to R164, R172 to R181, R191, R192) -/

/-- The mean of a figure over the switching phases other than rank `i`, if there are others. -/
def othersMean (b : Bench) (i : Nat) (f : Phase → Rat) : Option Rat :=
  let l := (b.phases.mapIdx (fun j p => (j, p))).filter (fun x => x.1 != i && x.2.switching)
  if l.isEmpty then none else some (meanR (l.map (fun x => f x.2)))

/-- MISMATCH of a phase: switching with an on-time of at least 10 % of the period in every period of the window, and a mean current
magnitude below 5 % of the mean of the other switching phases (R159). -/
def mismatch (b : Bench) (i : Nat) (p : Phase) : Bool :=
  match othersMean b i (·.mean) with
  | none => false
  | some m => p.switching && decide (p.wait = 0) && !p.short && decide (b.period ≤ 10 * p.onNow) && decide (absR p.mean < absR m * 5 / 100)

/-- Share deviation of a phase: its current or its duty differs from the mean of the others by more than DEV percent (R178). -/
def shareDev (b : Bench) (dev : Nat) (i : Nat) (p : Phase) : Bool :=
  let off (x : Rat) (m : Option Rat) : Bool :=
    match m with
    | none => false
    | some m => decide (absR m * dev / 100 < absR (x - m))
  p.switching && decide (p.wait = 0) && (off p.mean (othersMean b i (·.mean)) || off p.duty (othersMean b i (·.duty)))

/-- Whether a phase is not plausible in the window that closes (R159). -/
def Dev.implausible (d : Dev) (b : Bench) (i : Nat) (p : Phase) : Bool :=
  let x := d.chan p.chan
  x.stuckWin || x.rangeWin || mismatch b i p

/-- The phase means of the window that closes, and the means that ADC shows (R158). MEAN and IOUT are rounded to the nearest step (log
entry 7). -/
def Dev.closeWindow (d : Dev) (n : Nat) : Dev :=
  let d := d.modBench n (fun b => { b with
    phases := b.phases.map (fun p => { p with mean := (d.chanMean p.chan).getD p.mean })
    limTrip := b.phases.any (·.tripWin) })
  let b := d.bench n
  let d := Dev.each b.phases (fun p d => d.setS (F.ADC_RESULT_MEAN p.chan) (roundR (p.mean / (d.chanCfg p.chan).mA))) d
  let iout := (b.phases.map (·.mean)).foldl (· + ·) 0
  let d := d.set (F.BEN_PHLIMACT_LIMACT n) (b.phaseMask (·.limWin))
  (d.modBench n (fun b => { b with
    iout := iout, phases := b.phases.map (fun p => { p with limWin := false, tripWin := false }) })).setS
    (F.BEN_IOUT_IOUT n) (roundR iout)

/-- The next window of a channel opened: what already lies in it counts. -/
def Chan.open (x : Chan) : Chan :=
  { x with
    sum := x.nextSum, cnt := x.nextCnt, nextSum := 0, nextCnt := 0
    stuckWin := x.stuckNext, rangeWin := x.rangeNext, stuckNext := false, rangeNext := false }

/-- The next update window of a Bench opened: its channels, and its phases' periods from the one that now runs. -/
def Dev.openWindow (d : Dev) (n : Nat) : Dev :=
  let d := d.modBench n (fun b => { b with
    phases := b.phases.map (fun p => { p with short := p.switching && decide (10 * p.onNow < b.period) }) })
  Dev.each ((d.bench n).phases.map (·.chan)) (fun c d => d.modChan c Chan.open) d

/-- The drop rule on every phase: share deviation and implausibility together in 6 consecutive windows; a window with a
nonlinear event neither advances nor resets the count (R179). -/
def Dev.dropRuns (d : Dev) (n : Nat) : Dev :=
  let b := d.bench n
  let dev := d.effN (F.BEN_DROPCFG_DEV n)
  d.modBench n (fun _ => { b with
    phases := b.phases.mapIdx (fun i p =>
      if p.dropped || b.nlWin then p
      else { p with dropRun := if shareDev b dev i p && d.implausible b i p then p.dropRun + 1 else 0 })
    senseRun := if b.phases.length = 1 ∧ !b.nlWin then
        (if (b.phases.mapIdx (fun i p => d.implausible b i p)).any id then b.senseRun + 1 else 0)
      else b.senseRun })

/-- The phases that meet the drop rule dropped: safe state, mark, interleave (R180). A Bench of one phase drops none (R181). -/
def Dev.dropPhases (d : Dev) (n : Nat) : Dev :=
  let b := d.bench n
  if b.phases.length ≤ 1 then d
  else
    let b' : Bench := { b with
      phases := b.phases.map (fun p : Phase =>
        if !p.dropped && decide (6 ≤ p.dropRun) then { (p.still p.safe) with dropped := true, dropRun := 0 } else p) }
    (d.modBench n (fun _ => b'.interleave)).stick (F.BEN_PHDROP_DROP n) (b'.phaseMask (·.dropped))

/-- ILIM_EFF and its lowest term (R172, R192): of equal lowest terms the one with the lower code. -/
def Dev.limitTerms (d : Dev) (n : Nat) : List (Rat × Nat) :=
  let b := d.bench n
  let big : Rat := 16777215
  let h := b.healthy.length
  let base : Rat := (d.ilimE n : Rat) * h / (max 1 b.phases.length : Nat)
  [(base, if h = b.phases.length then 0 else 1), (base * b.fold, 2), ((b.thmLim.map (fun k => (d.ilimE n : Rat) * k / 100)).getD big, 3), (b.capLim.getD big, 4)]

/-- The lowest of the terms. -/
def lowestTerm (l : List (Rat × Nat)) : Rat × Nat :=
  l.foldl (fun a x => if x.1 < a.1 then x else a) (16777215, 0)

/-- The fold-back factor from the latest feedback reading and the ramp position at its sample tick (R192). Where FBVMIN and that position
are both 0 the quotient has no value, and the factor is 1: the model's choice (log entry 78). -/
def Dev.foldback (d : Dev) (n : Nat) : Rat :=
  let b := d.bench n
  let fl : Rat := (d.effN (F.BEN_FOLD_FLOOR n) : Rat) / 100
  if b.fbVr < (d.effN (F.BEN_FOLD_FBVMIN n) : Rat) || b.fbVr == 0 then 1
  else fl + (1 - fl) * clampR (b.fb / b.fbVr) 0 1

/-- The voltage loop on a new feedback result (R163). Errors are in volts at the rail. In the first computation after a swap the integrator
stands as R147 sets it. -/
def Dev.voltLoop (d : Dev) (n : Nat) (b : Bench) (nl : Bool) : Bench :=
  let pl := b.active
  let k : Rat := (d.kscaleE n : Rat) / 256
  let e := (b.fbVr - b.fb) / 500
  let dv := b.dv + fx pl.ad * (fx pl.kd * k * (e - b.ePrev) - b.dv)
  let satHigh := decide (fx pl.ymax ≤ b.y) && decide (0 < e)
  let satLow := decide (b.y ≤ fx pl.ymin) && decide (e < 0)
  let iv := if b.bump || nl || satHigh || satLow then b.iv else b.iv + fx pl.ki * k * e
  { b with iv := iv, dv := dv, ePrev := e, bump := false, y := clampR (iv + fx pl.kp * k * e + dv) (fx pl.ymin) (fx pl.ymax) }

/-- One phase loop of a CM plane (R163); an integrator just set stands in its first computation (R147, R164). -/
def cmPhase (pl : Plane) (target : Rat) (p : Phase) : Phase :=
  let ec := target - p.mean / 1000
  let atTop := decide (fx pl.dmax ≤ p.duty) && decide (0 < ec)
  let atBottom := decide (p.duty ≤ 0) && decide (ec < 0)
  let ic := if p.bump || atTop || atBottom then p.ic else p.ic + fx pl.kic * ec
  { p with ic := ic, bump := false, duty := clampR (ic + fx pl.kpc * ec) 0 (fx pl.dmax) }

/-- One phase of a VM plane: its balance term integrates its share error (R162, R163); one just set stands in its first computation. -/
def vmPhase (pl : Plane) (dv iMean : Rat) (p : Phase) : Phase :=
  let go := if p.bump then p.bal else p.bal + fx pl.kb * (iMean - p.mean / 1000)
  let bal := clampR go (-fx pl.balmax) (fx pl.balmax)
  { p with bal := bal, bump := false, duty := clampR (dv + bal) 0 (fx pl.dmax) }

/-- Where the limit loop of a VM plane holds D_v: while IOUT is at or above the limit it lowers it in every update (R173). How far is a free
value. -/
def Dev.limitLoop (d : Dev) (b : Bench) (limit : Rat) : Option Rat :=
  if b.iout < limit then none
  else
    let cut : Rat := ((Config.limitCut d.free % 65536 + 1 : Nat) : Rat) / 65536
    let dv := match b.dlim with
      | some x => min x b.y
      | none => b.y
    some (max (fx b.active.ymin) (dv - absR dv * cut))

/-- The phase loops of an update, with the current clamp of a CM plane or the limit loop of a VM plane, and whether a clamp acts
(R163, R173). -/
def Dev.phaseLoops (d : Dev) (b : Bench) (limit : Rat) : Bench × Bool :=
  let pl := b.active
  let m : Rat := (max 1 b.sw.length : Nat)
  if pl.cm then
    let cmd := if limit / 1000 < b.y then limit / 1000 else b.y
    ({ b with cmd := cmd, phases := b.phases.map (fun p => if p.switching then cmPhase pl (cmd / m) p else p) },
      decide (limit / 1000 < b.y))
  else
    let lim := d.limitLoop b limit
    let dv := match lim with
      | some x => min x b.y
      | none => b.y
    let mean := meanR (b.sw.map (fun p => p.mean / 1000))
    ({ b with dlim := lim, phases := b.phases.map (fun p => if p.switching then vmPhase pl dv mean p else p) }, lim.isSome)

/-- One healthy shed phase of lowest rank added (R175, R177). -/
def Bench.addPhase (b : Bench) : Bench :=
  match b.phases.findIdx? (fun p => !p.dropped && p.shed && !p.joining) with
  | none => b
  | some i => b.joinPhase i

/-- The phases that a plane swap added joined, in the first update on the new plane (R149). -/
def Bench.joinAdds (b : Bench) : Bench := { b.adds.foldl Bench.joinPhase b with adds := [] }

/-- The switching phase of highest rank shed: it takes Z at its first period start after the boundary (R175, R176). -/
def Bench.shedPhase (b : Bench) : Bench :=
  match (b.phases.mapIdx (fun i p => (i, p))).reverse.find? (fun x => x.2.switching) with
  | none => b
  | some (i, _) =>
    (b.modPhase i (fun p => { p with switching := false, shed := true, leaving := true, bal := 0, ic := 0 })).interleave

/-- The phase count decided: add, shed or neither (R174, R181). While shedding is suspended its count of updates begins anew (log entry
59). -/
def Dev.phaseCount (d : Dev) (n : Nat) (b : Bench) (loneBad : Bool) : Bench :=
  let m := b.sw.length
  let canAdd := b.phases.any (fun p => !p.dropped && p.shed)
  if canAdd && (decide (((m * d.iaddE n : Nat) : Rat) < b.iout) || loneBad) then { b.addPhase with shedRun := 0 }
  else
    let low := decide (b.iout < (((m - 1) * d.ishedE n : Nat) : Rat))
    let run := if low then b.shedRun + 1 else 0
    let may := d.on (F.BEN_CTRL_SHED_EN n) && d.get (F.BEN_STATUS_STATE n) == 3 && b.vrAt d.loop == b.vt
      && !b.phases.any (fun p => p.switching && p.offset != p.goal) && decide (64 ≤ b.sinceNl)
    if may && decide (d.effN (F.BEN_SHED_SHED_UPD n) ≤ run) && decide (0 < run) && decide (d.minphE n < m) then
      { b.shedPhase with shedRun := 0 }
    else { b with shedRun := if may then run else 0 }

/-- The fields an update publishes (R160, R172, R173). -/
def Dev.publish (d : Dev) (n : Nat) (limit : Rat × Nat) (limiting : Bool) : Dev :=
  let b := d.bench n
  let pl := b.active
  let sat := decide (b.y ≤ fx pl.ymin) || decide (fx pl.ymax ≤ b.y)
    || b.sw.any (fun p => decide (p.duty ≤ 0) || decide (fx pl.dmax ≤ p.duty))
  let d := d.set (F.BEN_ILIM_EFF_LIMIT n) (floorN limit.1) |>.set (F.BEN_ILIM_EFF_SRC n) limit.2
  let d := d.setB (F.BEN_STATUS_LIMITING n) limiting |>.setB (F.BEN_STATUS_SAT n) sat
  (d.set (F.BEN_DUTY_DUTY n) (floorN (meanR (b.sw.map (·.duty)) * 65536))).showPhases n

/-- The sources an update raises: RAILOC, PHDROP, PHDROP2 and SENSE1, in ascending number; and the last-fault record of a PHDROP, which
is that of the force where one of them forces the Bench (R180, R181, R191, R199). -/
def Dev.updateRaises (d : Dev) (n before : Nat) : Dev :=
  let b := d.bench n
  let dropped := (b.phases.filter (·.dropped)).length
  let oc := decide ((d.effN (F.BEN_ROC_RAILTRIP n) : Rat) < b.iout)
  let d := d.modBench n (fun b => { b with railOc := oc })
  let first := decide (before = 0 ∧ 0 < dropped)
  let d := d.raiseAll ((if oc then [srcBench n 3] else []) ++ (if first then [srcBench n 7] else [])
    ++ (if before < dropped ∧ 2 ≤ dropped then [srcBench n 8] else [])
    ++ (if 6 ≤ b.senseRun then [srcBench n 9] else []))
  if !first then d
  else
    let cls := ((d.raisedAt (srcBench n 7)).map (·.eff.code)).getD 1
    if ((d.bench n).lfMark.map (·.tick)) == some d.loop then d.lastFaultMeet n (srcBench n 7) cls
    else d.lastFault n (srcBench n 7) cls

/-- The next update window of a Bench, and the period in effect from this boundary on (R155, R158). With a new period the epoch moves to the
window's start, from which the update ticks count anew, and the phases move to their new offsets (R157; log entry 60). -/
def Bench.nextWindow (b : Bench) (period : Nat) : Bench :=
  if b.period = period then { b with kth := b.kth + 1 }
  else ({ b with epoch := b.updAt b.kth, kth := 1, period := period } : Bench).interleave

/-- One update of a Bench in RAMP, REG or STOPPING (R160). -/
def Dev.benchCompute (d : Dev) (n : Nat) : Dev :=
  let before := ((d.bench n).phases.filter (·.dropped)).length
  let d := (d.closeWindow n).dropRuns n
  let b0 := d.bench n
  let loneBad := decide (b0.sw.length = 1) && (b0.phases.mapIdx (fun i p => p.switching && d.implausible b0 i p)).any id
  let d := d.dropPhases n
  let nl := d.on (F.BEN_STATUS_NL n)
  let fold := if (d.bench n).fbNew then d.foldback n else (d.bench n).fold
  let d := d.modBench n (fun b => { b with fold := fold })
  let limit := lowestTerm (d.limitTerms n)
  let b := d.bench n
  let b : Bench := if b.fbNew then { d.voltLoop n b nl with fbNew := false } else b
  let (b, limiting) := d.phaseLoops b limit.1
  let b := (d.phaseCount n b loneBad).joinAdds
  let start := if limiting then (if b.limStart.isSome then b.limStart else some d.loop) else none
  let b : Bench := { b with
    limStart := start, limDone := limiting && b.limDone, updates := b.updates + 1, updTick := some d.loop, nlWin := nl
    nlResume := b.nlResume && nl, nlGo := if b.nlResume && !nl then d.loop + 2 else b.nlGo, sinceNl := if nl then 0 else b.sinceNl + 1
    phases := (b.phases.zip b0.phases).map (fun x => { x.1 with was := x.2.duty, wait := x.1.wait - 1 }) }
  let b := (b.fbCarry).nextWindow (d.periodE n)
  let d : Dev := { (d.modBench n (fun _ => b)) with free := d.free + 1 }
  let d := ((d.openWindow n).publish n limit limiting).feedbackWin n
  let d := d.showRamp n
  let d := if d.get (F.BEN_STATUS_STATE n) = 2 ∧ b.vrAt d.loop = b.vt then d.regEnter n else d
  d.updateRaises n before

/-- Whether the update of the open window is due: its duty commands are delivered 14 ticks after s(k) (R160). -/
def Dev.updateDue (d : Dev) (n : Nat) : Bool := decide (d.updAt n (d.bench n).kth + 14 + d.lag ≤ d.loop)

/-- A Bench update: the Z update at the end of STOPPING takes the Bench to OFF; else one update of a Bench whose updates run, once
it is due (R160, R165). -/
def Dev.benchUpdate (d : Dev) (n : Nat) : Dev :=
  if !d.hasBench n then d
  else if d.get (F.BEN_STATUS_STATE n) = 4 ∧ (d.bench n).zUpdate then
    if (d.bench n).zEnd ≤ d.loop then d.benchRest n .off .passive else d
  else if d.updating n && d.updateDue n then d.benchCompute n
  else d

/-- LIMITING set without a break for longer than LIMT raises LIMTIME (R191). -/
def Dev.limtime (d : Dev) (n : Nat) : Dev :=
  match (d.bench n).limStart with
  | none => d
  | some t =>
    if d.on (F.BEN_STATUS_LIMITING n) && !(d.bench n).limDone && decide (t + 2000 * d.effN (F.BEN_OCCFG_LIMT n) < d.loop) then
      (d.modBench n (fun b => { b with limDone := true })).raise (srcBench n 4)
    else d

/-- A STOP. An update, a LIMTIME or the judging of a pre-start test that falls due in its tick comes first, so that what trips there is not
missed (R165, R198). -/
def Dev.benchStop (d : Dev) (n : Nat) : Dev :=
  if !d.hasBench n then d
  else
    let d := (d.prestartJudge n).limtime n
    (if d.updating n && d.updateDue n then d.benchUpdate n else d).stopNow n

/-- Drop marks cleared by W1C, in OFF only; in any other state the write is ignored and leaves a NOTE (R182). -/
def Dev.phdropClear (d : Dev) (n w : Nat) : Dev :=
  let a := (F.BEN_PHDROP_DROP n).addr
  if !d.hasBench n then d
  else if d.get (F.BEN_STATUS_STATE n) = 0 then
    let d := d.clrBits (F.BEN_PHDROP_DROP n) w
    (d.modBench n (fun b => { b with
      phases := b.phases.mapIdx (fun i p => if w.testBit i then { p with dropped := false, dropRun := 0, cond := .passive } else p) })).showPhases n
  else d.note 2 a w (d.plainWord a)

end Sys2Proof.Machine
end

