-- ==== Sys2Proof/Machine/Monitor.lean ====
section
/-! DEFINITION. Monitor and high-voltage results and the window comparators, with every consumer taking one result in one tick
(R26, R194, R195, R253, R321). -/

namespace Sys2Proof.Machine

/-- The run of results beyond a threshold: one longer, or ended (R321). -/
def runOf (beyond : Bool) (n : Nat) : Nat := if beyond then n + 1 else 0

/-- The window source of an input: MON i or HVM h (R315). -/
def srcWindow (i : Nat) : Nat := 384 + i

/-- A converter-tier window judged on a new result: raised on the WDB-th consecutive result beyond an enabled side (R321). -/
def Dev.windowRaise (d : Dev) (i : Nat) (below above : Bool) : Dev :=
  let d := d.modMon i (fun m => { m with loRun := runOf below m.loRun, hiRun := runOf above m.hiRun })
  match d.entry (srcWindow i) with
  | none => d
  | some e => if d.windowOut i e then d.raise (srcWindow i) else d

/-- OVP and UVP of Bench `n` judged on a reading of one of its protection inputs at converter tier, in the state that a STOP
of the same tick found (R194, R195, R198). -/
def Dev.ovUvJudge (d : Dev) (n i : Nat) : Dev :=
  let s := d.stateBefore n
  let rv := d.protRead n i
  let ov := decide (s ≠ 0) && decide ((d.ovpE n : Rat) ≤ rv)
  let uv := decide (s = 3) && decide (rv < (d.uvpE n : Rat))
  let d := d.modMon i (fun m => { m with ovRun := runOf ov m.ovRun, uvRun := runOf uv m.uvRun })
  let m := d.mon i
  d.raiseAll ((if ov ∧ d.effN (F.BEN_OCCFG_OV_DB n) ≤ m.ovRun then [srcBench n 5] else [])
    ++ (if uv ∧ d.effN (F.BEN_OCCFG_UV_DB n) ≤ m.uvRun then [srcBench n 6] else []))

/-- How many ticks a monitor result lies behind its sample (R253), on a duplex device 32 more (R359). -/
def Dev.monAge (d : Dev) : Nat := 50 + d.lag

/-- A feedback result taken by its Bench: the reading in rail volts through the divider that the plane declares, and the ramp position at
its sample tick (R163). One that comes after the tick s in which the open window has closed is for the next update (R160). A result sampled before the entry
to RAMP is compared with where the ramp of the Bench's last run stood: the model's choice (log entry 83). -/
def Dev.feedback (d : Dev) (n code : Nat) : Dev :=
  let late := d.updating n && decide (d.updAt n (d.bench n).kth + d.lag < d.loop)
  let d := d.modBench n (fun b =>
    let t := d.loop - d.monAge
    let x : FbRead := ⟨monRail16 b.active.ratio code, t, (b.vrPast t : Rat) / nvStep⟩
    if late then { b with fbNext := some x } else b.takeFb x)
  d.set (F.BEN_VOUT_VOUT n) (floorN (d.bench n).fbLatest)

/-- Whether the sample of a result that arrives now lies on input `i`'s grid (R253): MON i at the ticks t with t mod 800 = 50 x floor(i / 4),
HVM h (input 64 + h) at those with t mod 2,000 = 250 x h. Ticks are TIM's. -/
def Dev.onGrid (d : Dev) (i : Nat) : Bool :=
  let t := d.tim - d.monAge
  decide (d.monAge ≤ d.tim) && (if i < 64 then t % 800 == 50 * (i / 4) else t % 2000 == 250 * (i - 64))

/-- A monitor conversion result as MON, its Bench and its window take it (R253, R254). -/
def Dev.monTake (d : Dev) (i code : Nat) : Dev :=
  let rv := ((d.monCfg i).map (fun m => monRail16 m.ratio code)).getD 0
  let below := decide (code < 16 * d.get (F.MON_WIN_LO i))
  let above := decide (16 * d.get (F.MON_WIN_HI i) < code)
  let d := d.modMon i (fun m => { m with rv := rv, tick := d.tim - d.monAge, valid := true })
  let d := d.set (F.MON_RESULT_CODE i) code |>.set (F.MON_RESULT_RAILV i) (floorN rv)
  let d := if d.fastTier i then d else d.setB (F.MON_WIN_BELOW i) below |>.setB (F.MON_WIN_ABOVE i) above
  let d := match d.benchOfInput i with
    | none => d
    | some n =>
      let d := if i = (d.bench n).active.fb then d.feedback n code else d
      if (d.protInputs n).contains i && !d.protFast n i then d.ovUvJudge n i else d
  d.windowRaise i below above

/-- An HVM conversion result as MON and its window take it (R132, R253). -/
def Dev.hvmTake (d : Dev) (h v : Nat) : Dev :=
  let below := decide (v < d.effN (F.MON_HVM_WIN_LO h))
  let above := decide (d.effN (F.MON_HVM_WIN_HI h) < v)
  let d := d.modMon (64 + h) (fun m => { m with rv := v, tick := d.tim - d.monAge, valid := true })
  let d := d.set (F.MON_HVM_RESULT_V h) v |>.setB (F.MON_HVM_RESULT_BELOW h) below |>.setB (F.MON_HVM_RESULT_ABOVE h) above
  d.windowRaise (64 + h) below above

/-- The levels of an input's comparators, which stand whether or not a clock runs (R20, R23). -/
def Dev.cmpLine (d : Dev) (i : Nat) (below above : Bool) : Dev :=
  { d with lines := { d.lines with below := putBit d.lines.below i below, above := putBit d.lines.above i above } }

/-- A window comparator's outputs change on a MON input (R184, R195, R321). A change to beyond on a side raises what watches that
side at the fast tier, and a rise past V0 + PS_VRISE ends a pre-start test. A feedback input's pair serves its Bench's band, and raises no
OVP or UVP (R170, R194). MON.WIN shows the comparators of a fast-tier input only (R132). -/
def Dev.comparator (d : Dev) (i : Nat) (below above : Bool) : Dev :=
  let old := d.mon i
  let fell := below && !old.cmpLo
  let rose := above && !old.cmpHi
  let d := d.modMon i (fun m => { m with cmpLo := below, cmpHi := above })
  let d := if d.fastTier i then d.setB (F.MON_WIN_BELOW i) below |>.setB (F.MON_WIN_ABOVE i) above else d
  let test := match d.benchOfInput i with
    | some n => if i = (d.bench n).active.fb ∧ rose then some n else none
    | none => none
  let d := match test with
    | some n => d.prestartRise n
    | none => d
  if !d.fastTier i then d
  else
    let bench := match d.benchOfInput i with
      | some n =>
        if (d.protInputs n).contains i && d.protFast n i then
          let s := d.stateBefore n
          (if rose ∧ s ≠ 0 then [srcBench n 5] else []) ++ (if fell ∧ s = 3 then [srcBench n 6] else [])
        else []
      | none => []
    let win := match d.entry (srcWindow i) with
      | some e => if (e.wlo && fell) || (e.whi && rose) then [srcWindow i] else []
      | none => []
    d.raiseAll (bench ++ win)

end Sys2Proof.Machine
end

