-- ==== Sys2Proof/Machine/Slots.lean ====
section
/-! DEFINITION. The hot-swap slots: seating, the pass-transistor check, inrush, the trips and their retries, the Kerf lanes and
their tests, shedding (spec/12_hot_swap_slots.md). -/

namespace Sys2Proof.Machine

/-- Whether a request to shed a slot stands (R294). -/
def Slot.shedReq (s : Slot) : Bool := s.reqCap || s.reqForce || s.reqEng

/-- A slot that has reached SEATED goes on: to LOCKOUT where two of its lanes are FAILED, to FORCED while PRO holds it, to SHED while a shed
request stands, to CHECK if its enable is present, its retry timer has run and no lockout stands (R277, R289, R291, R294). An enable that
comes before HSW is READY waits in SEATED (R116). -/
def Dev.slotOnward (d : Dev) (n : Nat) : Dev :=
  let s := d.slot n
  if s.state != .seated then d
  else if 2 ≤ s.failedLanes.length then d.slotGo n .lockout
  else if d.slotHeld n then (d.modSlot n (fun x => { x with back := .seated })).slotGo n .forced
  else if s.shedReq then
    (d.slotGo n .shed).setB (F.HSW_STATUS_SHEDBY n) (s.reqEng && !(s.reqCap || s.reqForce))
  else if s.enable && d.ready 11 && !s.locked then
    if s.retryEnd.isSome then d.setB (F.HSW_STATUS_RETRYWAIT n) true
    else
      let d := (d.slotGo n .check).setB (F.HSW_STATUS_RETRYWAIT n) false
      d.modSlot n (fun x => { x with checkEnd := some (d.loop + 40000) })
  else d

/-- A slot in SEATED, and onward from there in the same tick (R277). -/
def Dev.slotSeated (d : Dev) (n : Nat) : Dev := (d.slotGo n .seated).slotOnward n

/-- A slot's enable arrives (R277, R278). -/
def Dev.slotEnable (d : Dev) (n : Nat) : Dev :=
  if d.hasSlot n then (d.modSlot n (fun x => { x with enable := true })).slotOnward n else d

/-- A slot's enable is withdrawn: CHECK, RAMP and GOOD return to SEATED with the gate sunk (R277). -/
def Dev.slotDisable (d : Dev) (n : Nat) : Dev :=
  if d.hasSlot n then
    let s := (d.slot n).state
    let d := (d.modSlot n (fun x => { x with enable := false })).setB (F.HSW_STATUS_RETRYWAIT n) false
    if s = .check ∨ s = .ramp ∨ s = .good then d.slotSeated n else d
  else d

/-! ### Seating and removal (R277, R279, R292) -/

/-- The tick from which a condition has held, kept on while it holds. -/
def holdSince (c : Bool) (t : Option Nat) (now : Nat) : Option Nat := if c then (if t.isSome then t else some now) else none

/-- The levels of a slot's seating inputs, which stand whether or not a clock runs (R23). -/
def Dev.seatLine (d : Dev) (n : Nat) (a b : Bool) : Dev :=
  { d with lines := { d.lines with seatA := putBit d.lines.seatA n a, seatB := putBit d.lines.seatB n b } }

/-- TSEAT has run with both inputs low: SEATED, or FORCED while PRO holds the slot (R277). -/
def Dev.seatDone (d : Dev) (n : Nat) : Dev :=
  let s := d.slot n
  if s.state == .seating && due s.seatEnd d.loop then
    (d.modSlot n (fun x => { x with seatEnd := none })).slotSeated n
  else d

/-- Removal: an input high for 40 ticks in any state after SEATING. It is not a trip and stops no retry timer (R279, R292). -/
def Dev.slotRemove (d : Dev) (n : Nat) : Dev :=
  let s := d.slot n
  let gone := due (s.highA.map (· + 40)) d.loop || due (s.highB.map (· + 40)) d.loop
  if s.state != .empty && s.state != .seating && gone && d.hasSlot n then
    let d := (d.slotGo n .empty).setB (F.HSW_STATUS_RETRYWAIT n) false
    d.modSlot n (fun x => { x with coolEnd := some (d.loop + 60 * sec), shorted := false, overAt := none })
  else d

/-- One input low and the other high for more than 500 ms (R279). -/
def Dev.seatFault (d : Dev) (n : Nat) : Dev :=
  match (d.slot n).oddSince with
  | some t => if t + 500 * ms < d.loop then d.raise (srcSlot n 10) else d
  | none => d

/-- The synchronised seating inputs as they now read: true is seated (low) (R277, R279). A window that ends in this tick is complete before
they are looked at (R17). -/
def Dev.seating (d : Dev) (n : Nat) (a b : Bool) : Dev :=
  let d := ((d.seatDone n).slotRemove n).seatFault n
  let d := d.setB (F.HSW_STATUS_SEATA n) a |>.setB (F.HSW_STATUS_SEATB n) b
  if !d.hasSlot n then d
  else
    let both := a && b
    let d := d.modSlot n (fun s => { s with
      oddSince := holdSince (a != b) s.oddSince d.loop, highA := holdSince (!a) s.highA d.loop, highB := holdSince (!b) s.highB d.loop })
    match (d.slot n).state with
    | .empty =>
      if both then
        (d.modSlot n (fun s => { s with
          seatEnd := some (d.loop + d.effN (F.HSW_TIMES_TSEAT n) * ms), coolEnd := none })).slotGo n .seating
      else d
    | .seating => if both then d else (d.modSlot n (fun s => { s with seatEnd := none })).slotGo n .empty
    | _ => d

/-- The seating inputs of slot `n` read again. -/
def Dev.seatRead (d : Dev) (n : Nat) : Dev := d.seating n (d.lines.seatA.testBit n) (d.lines.seatB.testBit n)

/-! ### Trips and lockout (R285, R289 to R293) -/

/-- The code of a cause in HSW.n.STATUS.CAUSE, by the source's index in the slot (R290). -/
def slotCause (k : Nat) : Nat := k + 1

/-- A trip in the tick in which CAP shed the slot: it is recorded as tripped, not shed, and its relief still counts (R226). -/
def Dev.capTripped (d : Dev) (n : Nat) : Dev :=
  match d.cap.shed.find? (fun x => x.1 == n && x.2.2 == d.loop) with
  | none => d
  | some x =>
    let d : Dev := { d with cap := { d.cap with
      shed := d.cap.shed.filter (fun y => y.1 != n), gone := (x.2.1, d.loop) :: d.cap.gone.filter (fun y => decide (d.loop < y.2 + 200)) } }
    (d.modSlot n (fun s => { s with reqCap := false })).setBit F.CAP_STATUS_SHED n false

/-- A counted trip: the retry count, EN of a slot that SEQ does not own and that does not retry by itself, and TRIPPED with its
retry timer, or LOCKOUT when the count reaches NRETRY; then the trip's source (R278, R290, R291). A slot that PRO holds in FORCED
takes the state it will return to; one removed in the same tick is counted and stays EMPTY; one that CAP shed in the same tick is no longer
CAP's (R226, R295). -/
def Dev.slotTrip (d : Dev) (n k : Nat) : Dev :=
  let cnt := d.get (F.HSW_STATUS_COUNT n) + 1
  let d := (d.set (F.HSW_STATUS_COUNT n) cnt).inc F.HSW_COUNTS_TRIPS
  let d := if !d.seqOwned n && !d.on (F.HSW_CTRL_AUTORETRY n) then
      (d.setB (F.HSW_CTRL_EN n) false).modSlot n (fun x => { x with enable := false })
    else d.seqEnds n
  let out := decide (d.effN (F.HSW_RETRY_NRETRY n) ≤ cnt)
  let st : SState := if out then .lockout else .tripped
  let d := d.set (F.HSW_STATUS_CAUSE n) (if out then 8 else slotCause k)
  let d := if out then d.modSlot n (fun x => { x with locked := true }) else
    d.modSlot n (fun x => { x with retryEnd := some (d.loop + d.effN (F.HSW_RETRY_TRETRY n) * 10 * ms * 2 ^ (cnt - 1)) })
  let d := if (d.slot n).state == .forced then d.modSlot n (fun x => { x with back := st })
    else if (d.slot n).state == .empty then d else d.slotGo n st
  ((d.capTripped n).modSlot n (fun x => { x with ranAt := none, tripAt := some d.loop })).raise (srcSlot n k)

/-- Whether a trip of slot `n` counts now: it is in RAMP or GOOD, or has left them in this very tick (R277, R295;
log entry 62). -/
def Dev.slotRan (d : Dev) (n : Nat) : Bool :=
  let s := d.slot n
  s.state == .ramp || s.state == .good || s.ranAt == some d.loop

/-- A slot locked out by FETSHORT or LANEFAIL2, with the source raised (R280, R281, R289, R290). -/
def Dev.slotLock (d : Dev) (n k : Nat) : Dev :=
  let d := ((d.seqEnds n).set (F.HSW_STATUS_CAUSE n) (slotCause k)).modSlot n (fun x => { x with locked := true, lockHard := true })
  let st := (d.slot n).state
  let d := if st == .forced then d.modSlot n (fun x => { x with back := .lockout })
    else if st == .empty || st == .seating then d else d.slotGo n .lockout
  d.raise (srcSlot n k)

/-- Lane `i` of a slot changed. -/
def Slot.modLane (s : Slot) (i : Nat) (f : Lane → Lane) : Slot :=
  if i = 0 then { s with laneA := f s.laneA } else if i = 1 then { s with laneB := f s.laneB } else { s with laneC := f s.laneC }

/-- The lane fields of HSW.n.STATUS. -/
def Dev.showLanes (d : Dev) (n : Nat) : Dev :=
  let s := d.slot n
  d.set (F.HSW_STATUS_LFAIL n) (maskOf 3 (fun i => (s.lane i).failed))
    |>.set (F.HSW_STATUS_LSUSP n) (maskOf 3 (fun i => (s.lane i).suspect))
    |>.set (F.HSW_STATUS_LRAW n) (maskOf 3 (fun i => (s.lane i).raw))

/-- The lanes' raw outputs taken from a mask. -/
def Slot.setRaw (s : Slot) (lanes : Nat) : Slot :=
  { s with
    laneA := { s.laneA with raw := lanes.testBit 0 }
    laneB := { s.laneB with raw := lanes.testBit 1 }
    laneC := { s.laneC with raw := lanes.testBit 2 } }

/-- The power-side die's part of a trip, without any clock: the lanes' outputs, and with two of three the latch and the sink (R20, R21,
R285). -/
def Dev.kerfSink (d : Dev) (n lanes : Nat) : Dev :=
  d.modSlot n (fun s =>
    let s := s.setRaw lanes
    if s.votes d.loop then
      { s.sinkAt d.loop with latch := true, kerfNew := s.kerfNew || !s.latch || s.state == .ramp || s.state == .good }
    else s)

/-- The trip wire seen in LOOP: the slot trips and the trip counts (R286, R290); in EMPTY, SEATING, TRIPPED, LOCKOUT and FORCED, which no trip
leaves, KERF is raised alone (log entry 21). -/
def Dev.kerfTake (d : Dev) (n : Nat) : Dev :=
  let st := (d.slot n).state
  if d.slotRan n || st == .seated || st == .check || st == .shed then d.slotTrip n 0 else d.raise (srcSlot n 0)

/-- A trip wire that has risen as PRO takes it: at once, on a duplex device 32 ticks later, and the next frame tells the
partner (R286, R358, R361). -/
def Dev.kerfLater (d : Dev) (n : Nat) : Dev :=
  if d.cfg.duplex.isSome then { d with dpx := { d.dpx with
    items := d.dpx.items ++ [(d.loop + 32, .trip n)], trips := d.dpx.trips ||| 2 ^ n } } else d.kerfTake n

/-- LOOP's part of a trip: the lanes' outputs through their synchronisers, and the trip wire where it has risen (R23, R286, R287). -/
def Dev.kerfSeen (d : Dev) (n : Nat) : Dev :=
  let d := d.showLanes n
  if (d.slot n).kerfNew then
    ((d.upsetAt d.loop d.loop).modSlot n (fun s => { s with kerfNew := false })).kerfLater n
  else d

/-- Kerf lanes assert: the power-side die acts, and LOOP sees it (R285, R286). -/
def Dev.kerfTrip (d : Dev) (n lanes : Nat) : Dev := if d.hasSlot n then (d.kerfSink n lanes).kerfSeen n else d

/-- Kerf lanes assert on the power-side die of a device that has power, whatever its clocks do (R20, R24, R295). -/
def Dev.kerfLine (d : Dev) (n lanes : Nat) : Dev := if d.hasSlot n then d.kerfSink n lanes else d

/-- A trip of slot `n` on either device of a pair, 32 ticks after it: its sink holds the joined gate, and the slot trips (R54, R295, R361). -/
def Dev.partnerTrip (d : Dev) (n : Nat) : Dev := if d.hasSlot n then d.kerfTake n else d

/-! ### Lane tests (R287 to R289, R295) -/

/-- The lanes of the present slots, in the order of the rotation (R288). -/
def Dev.laneList (d : Dev) : List (Nat × Nat) :=
  ((List.range 16).filter d.hasSlot).flatMap (fun n => [(n, 0), (n, 1), (n, 2)])

/-- The lane of the next test: the first SUSPECT one, else that of the rotation; a FAILED lane counts as SUSPECT no longer. With it, whether its
place is that of the rotation (R287, R288, R295). -/
def Dev.laneNext (d : Dev) : Option ((Nat × Nat) × Bool) :=
  let l := d.laneList
  match l.find? (fun x => ((d.slot x.1).lane x.2).suspect && !((d.slot x.1).lane x.2).failed) with
  | some x => some (x, false)
  | none => (l[d.lanes.pos % l.length]?).map (fun x => (x, true))

/-- The lane that a test diverts from the voter for 64 ticks; the other lanes may trip the slot with it (R288, R295). -/
def Dev.laneDivert (d : Dev) (n i : Nat) : Dev :=
  let d := d.modSlot n (fun s => { s with testLane := some (i, d.loop + 64) })
  let s := d.slot n
  if s.votes d.loop && !s.latch then d.kerfTrip n (maskOf 3 (fun j => (s.lane j).raw)) else d

/-- A lane that misses a check of its test: FAILED with LANEFAIL, and a second one locks the slot out (R288, R289). -/
def Dev.laneFail (d : Dev) (n i : Nat) : Dev :=
  if ((d.slot n).lane i).failed then d
  else
    let d := (d.modSlot n (fun s => s.modLane i (fun l => { l with failed := true }))).showLanes n
    let two := decide (2 ≤ (d.slot n).failedLanes.length)
    let d := d.raise (srcSlot n 9)
    if two then d.slotLock n 6 else d

/-- A test of one lane begins, where it is that lane's turn and the test slot has come; the tests of all lanes share LANETEST.PERIOD evenly.
`seen` and `fell` are what the checks of ticks 22 and 52 will find (R288; log entries 62 and 89). -/
def Dev.laneTest (d : Dev) (n i : Nat) (seen fell : Bool) : Dev :=
  match d.laneNext with
  | none => d
  | some (x, turn) =>
    if x ≠ (n, i) ∨ d.lanes.run.isSome ∨ d.loop < d.lanes.due ∨ !d.ready 11 then d
    else
      let gap := d.effN F.HSW_LANETEST_PERIOD * ms / d.laneList.length
      ({ d with lanes := { d.lanes with
        due := d.loop + gap
        run := some { slot := n, lane := i, start := d.loop, seen := seen, fell := fell, turn := turn } } } : Dev).laneDivert n i

/-- Whether the latest shunt result of a slot lies above its threshold less the band, so that the check of tick 52 is skipped (R287, R288). -/
def Dev.laneSkips (d : Dev) (n : Nat) : Bool :=
  match d.slotCfg n, (d.slot n).shunts.getLast? with
  | some c, some code =>
    let thr := (c.kerf : Rat) / 2
    decide (thr - (2 + thr * 4 / 100) < (code : Rat) * 200 / 8192)
  | _, _ => false

/-- The test under way at a tick: its checks at ticks 22 and 52, where a SUSPECT lane that has passed both is cleared, and its end at tick 64,
where a rotation may be complete (R288). -/
def Dev.laneTick (d : Dev) : Dev :=
  match d.lanes.run with
  | none => d
  | some r =>
    let put (d : Dev) (r : LaneRun) : Dev := { d with lanes := { d.lanes with run := some r } }
    if r.checks = 0 ∧ r.start + 22 ≤ d.loop then
      let d := put d { r with checks := 1, missed := !r.seen }
      if r.seen then d else d.laneFail r.slot r.lane
    else if r.checks = 1 ∧ r.start + 52 ≤ d.loop then
      let bad := !r.fell && !d.laneSkips r.slot
      let d := put d { r with checks := 2, missed := r.missed || bad }
      if bad then d.laneFail r.slot r.lane
      else if r.missed then d
      else (d.modSlot r.slot (fun s => s.modLane r.lane (fun l => { l with suspect := false }))).showLanes r.slot
    else if r.checks = 2 ∧ r.start + 64 ≤ d.loop then
      let last := r.turn && decide (d.laneList.length ≤ d.lanes.pos + 1)
      let d : Dev := { d with lanes := { d.lanes with run := none, pos := if last then 0 else d.lanes.pos + r.turn.toNat } }
      if last then d.incMod F.HSW_LANETEST_PASSES else d
    else d

/-- With LOOP's clock the lane tests stop, and a diverted lane returns to its voter (R295). -/
def Dev.laneStop (d : Dev) : Dev :=
  Dev.each (List.range 16) (fun n d => d.modSlot n (fun s => { s with testLane := none })) { d with lanes := { d.lanes with run := none } }

/-- Trip wires that have risen without a command of their own, where a voter still asserts as HSW clears its latch (R285). -/
def Dev.kerfTick (d : Dev) : Dev := Dev.each ((List.range 16).filter (fun n => (d.slot n).kerfNew)) (fun n d => d.kerfSeen n) d

/-! ### Slot results (R276, R280 to R284, R287) -/

/-- A shunt code in millivolts: ±200 mV over 14 bits (R276). -/
def shuntMv (code : Int) : Rat := (code : Rat) * 200 / 8192

/-- A shunt code in milliamperes through the declared shunt. -/
def shuntMa (c : SlotCfg) (code : Int) : Rat := if c.shunt = 0 then 0 else shuntMv code / c.shunt * 1000

/-- Lane `i` judged on a shunt result: it disagrees if asserted below the threshold less the band, or not asserted above the
threshold plus the band; the band is 2 mV + 4 % (R287). -/
def laneDisagrees (thr mv : Rat) (raw : Bool) : Bool :=
  let band := 2 + thr * 4 / 100
  (raw && decide (mv < thr - band)) || (!raw && decide (thr + band < mv))

/-- The runs of disagreement on one result; five make a lane SUSPECT and raise LANEDIS (R287). -/
def Dev.laneJudge (d : Dev) (n : Nat) (thr mv : Rat) : Dev :=
  let step (l : Lane) : Lane :=
    let run := runOf (laneDisagrees thr mv l.raw) l.disRun
    { l with disRun := run, suspect := l.suspect || decide (5 ≤ run) }
  let hit := (List.range 3).any (fun i => decide (5 ≤ (step ((d.slot n).lane i)).disRun))
  let d := (d.modSlot n (fun s => { s with laneA := step s.laneA, laneB := step s.laneB, laneC := step s.laneC })).showLanes n
  if hit then d.raise (srcSlot n 8) else d

/-- How many ticks a shunt result lies behind its sample (R276), on a duplex device 32 more (R359). -/
def Dev.shuntAge (d : Dev) : Nat := 12 + d.lag

/-- How many ticks a VS and VDS result lies behind its sample (R276, R359). -/
def Dev.voltAge (d : Dev) : Nat := 20 + d.lag

/-- Whether results count for the damaged-transistor check: sampled at least 200 ticks after the gate was last sourced or
held; a result arrives `lat` ticks after its sample (R276, R280). -/
def Slot.settled (s : Slot) (now lat : Nat) : Bool := s.gate == .sink && decide (s.lastOn + 200 + lat ≤ now)

/-- Whether a slot is in one of the states that R281 watches. -/
def SState.watched (s : SState) : Bool :=
  s == .seated || s == .tripped || s == .shed || s == .forced || s == .lockout

/-- Whether the tick `t` of a result's sample lies in the window of the check (R280). -/
def Slot.inCheck (s : Slot) (t : Nat) : Bool :=
  match s.checkEnd with
  | some e => decide (e ≤ t + 40000 ∧ t < e)
  | none => false

/-- Whether VS rises by more than 1.0 V from the first to the last result of the rolling window (R281). -/
def Slot.rolledUp (s : Slot) : Bool := decide (((s.vsRoll.head?).getD 0) + 500 < ((s.vsRoll.getLast?).getD 0))

/-- The condition of FETSHORT in the gate-sunk states, over a rolling window of 200 us that ends with a sample at tick `t`; where it
begins, the slot is locked out (R281). -/
def Dev.shortWatch (d : Dev) (n t : Nat) : Dev :=
  let s := d.slot n
  let exceeds := match s.overAt with
    | some a => decide (t + 160 < a + 40000)
    | none => false
  let bad := exceeds || s.rolledUp
  if bad && !s.shorted then (d.modSlot n (fun x => { x with shorted := true })).slotLock n 5
  else d.modSlot n (fun x => { x with shorted := bad })

/-- The current side of the check in CHECK and of the watch in the gate-sunk states: a mean of five results, all sampled inside the
window and late enough after the gate was on, above ICHECK (R280, R281). -/
def Dev.currentCheck (d : Dev) (n : Nat) : Dev :=
  let s := d.slot n
  let t := d.loop - d.shuntAge
  let exceeds := decide ((10 * d.effN (F.HSW_FET_ICHECK n) : Rat) < s.imean) && decide (5 ≤ s.shunts.length)
    && s.settled d.loop (160 + d.shuntAge)
  if s.state == .check then
    (if exceeds && s.inCheck t && s.inCheck (t - 160) then d.modSlot n (fun x => { x with checkBad := true, overAt := some t }) else d)
  else if s.state.watched then
    (if exceeds then d.modSlot n (fun x => { x with overAt := some t }) else d).shortWatch n t
  else d

/-- The SOA window of the VDS result sampled at v judged once the last shunt result of [v, v + 200) has arrived: it counts where it began at
or after the entry to RAMP and the product of VDS and the mean of its five shunt results is at least PSOA (R283). -/
def Dev.soaJudge (d : Dev) (n : Nat) : Dev :=
  let s := d.slot n
  let t := d.loop - d.shuntAge
  match s.soaAt with
  | some v =>
    if v + 160 ≤ t ∧ (s.state = .ramp ∨ s.state = .good) then
      let watts : Rat := (s.soaVds : Rat) * s.imean / 1000000
      d.modSlot n (fun s => { s with
        soaAt := none
        soaCount := if t < v + 200 ∧ (d.effN (F.HSW_SOA_PSOA n) : Rat) ≤ watts then s.soaCount + 1 else s.soaCount })
    else d
  | none => d

/-- The time IMEAN above IOC has lasted at this result: a result at the end of the time comes too late to break it (R17, R290). -/
def Dev.ocRun (d : Dev) (n : Nat) (exceeds : Bool) : Dev :=
  d.modSlot n (fun s => { s with
    ocEnd := if due s.ocEnd d.loop then s.ocEnd else if exceeds then (if s.ocEnd.isSome then s.ocEnd
      else some (d.loop + d.effN (F.HSW_TIMES_TOC n) * 2000)) else none })

/-- A slot shunt result (R276, R282, R287, R290). -/
def Dev.shuntResult (d : Dev) (n : Nat) (code : Int) (lanes : Nat) : Dev :=
  match d.slotCfg n with
  | none => d
  | some c =>
    let d := (d.kerfTrip n lanes).modSlot n (fun s =>
      let l := (s.shunts ++ [code]).drop (s.shunts.length - 4)
      { s with shunts := l, imean := meanR (l.map (shuntMa c)) })
    let im := (d.slot n).imean
    let d := d.setS (F.HSW_IMEAN_IMEAN n) (roundR im)
    let d := d.laneJudge n ((c.kerf : Rat) / 2) (shuntMv code)
    let st := (d.slot n).state
    let d := if st = .ramp then
        let exceeds := decide ((10 * d.effN (F.HSW_ILIM_IINRUSH n) : Rat) < im)
        d.modSlot n (fun s => { s with gate := if s.latch then .sink else if exceeds then .hold else .source })
      else d
    let d := if st = .ramp ∨ st = .good then d.ocRun n (decide ((10 * d.effN (F.HSW_ILIM_IOC n) : Rat) < im)) else d
    (d.soaJudge n).currentCheck n

/-- The voltage side of the check and of the watch: VS rises by more than 1.0 V from the first to the last result of the window
(R280, R281). -/
def Dev.voltCheck (d : Dev) (n vs : Nat) : Dev :=
  let s := d.slot n
  let t := d.loop - d.voltAge
  if !s.settled d.loop d.voltAge then d
  else
    let roll (x : Slot) : Slot := { x with vsRoll := (x.vsRoll ++ [vs]).drop (x.vsRoll.length - 199) }
    if s.state == .check then
      let first := s.vsFirst.getD vs
      d.modSlot n (fun x =>
        if s.inCheck t then { roll x with vsFirst := some first, checkRise := decide (first + 500 < vs) } else roll x)
    else if s.state.watched then (d.modSlot n roll).shortWatch n t
    else d

/-- The deadline of a run: kept where it is complete (R17), begun or kept on while its condition holds, else none. -/
def Dev.runEnd (d : Dev) (c : Bool) (t : Option Nat) (len : Nat) : Option Nat :=
  if due t d.loop then t else if c then (if t.isSome then t else some (d.loop + len)) else none

/-- Whether the latest VDS result of a slot is at or below VDSMAX. -/
def Dev.vdsLow (d : Dev) (n : Nat) : Bool := decide ((d.slot n).vds ≤ d.effN (F.HSW_FET_VDSMAX n))

/-- ENH as it now reads: the runs of GOOD's condition and of GATEFAIL (R277, R281, R284). -/
def Dev.slotEnh (d : Dev) (n : Nat) (enh : Bool) : Dev :=
  d.modSlot n (fun s => { s with
    enh := enh
    pgEnd := d.runEnd (s.state == .ramp && enh && d.vdsLow n) s.pgEnd (d.effN (F.HSW_TIMES_PGDELAY n) * ms)
    gateEnd := if s.state == .good then d.runEnd (!enh) s.gateEnd 2000 else s.gateEnd })

/-- A VS and VDS result, with ENH as it reads at it: the SOA window it opens, the conditions of GOOD, FETDEG and GATEFAIL
(R276, R281, R283, R284). VDS is in millivolts. -/
def Dev.voltResult (d : Dev) (n vs vds : Nat) (enh : Bool) : Dev :=
  if !d.hasSlot n then d
  else
    let d := d.set (F.HSW_VOLT_VS n) vs |>.set (F.HSW_VOLT_VDS n) vds
    let s := d.slot n
    let v := d.loop - d.voltAge
    let on := (s.state == .ramp || s.state == .good) && decide (s.rampAt ≤ v)
    let d := d.modSlot n (fun s => { s with vds := vds, soaVds := vds, soaAt := if on then some v else none })
    let high := s.state == .good && !d.vdsLow n
    let d := d.modSlot n (fun s => { s with
      fetEnd := d.runEnd high s.fetEnd (d.effN (F.HSW_FET_FETDB n) * ms), fetHigh := high })
    (d.slotEnh n enh).voltCheck n vs

/-- The level of a comparator, which stands whether or not a clock runs (R20, R23, R276). -/
def Dev.cmpSet (d : Dev) (x : CmpInput) (below above : Bool) : Dev :=
  match x with
  | .window i => d.cmpLine i below above
  | .enh n => { d with lines := { d.lines with enh := putBit d.lines.enh n above } }

/-- A comparator's output as LOOP takes it: a window pair, or ENH of a present slot (R276, R321). -/
def Dev.cmpTake (d : Dev) (x : CmpInput) (below above : Bool) : Dev :=
  match x with
  | .window i => d.comparator i below above
  | .enh n => if d.hasSlot n then d.slotEnh n above else d

/-- What LOOP reads when its clock runs again: every seating input, trip wire and comparator as it then stands (R23, R24, R276, R321). -/
def Dev.linesRead (d : Dev) : Dev :=
  let d := Dev.each (List.range 16) (fun n d =>
    (d.seatRead n).when (d.hasSlot n) (fun d => (d.kerfSeen n).slotEnh n (d.lines.enh.testBit n))) d
  Dev.each (List.range 64) (fun i d =>
    let lo := d.lines.below.testBit i
    let hi := d.lines.above.testBit i
    if (d.mon i).cmpLo != lo || (d.mon i).cmpHi != hi then d.comparator i lo hi else d) d

/-- The tick at which the last shunt and VS results sampled before `e` have arrived, by the converters' grids; `lag` is 32 ticks on a duplex
device (R276, R280, R359). -/
def checkJudged (lag n e : Nat) : Nat :=
  let ws := e - 1 - (e - 1 + 40 - 5 * (n % 8)) % 40
  let wv := e - 1 - (e - 1 + 200 - 10 * n) % 200
  max (ws + 12) (wv + 20) + lag

/-- Entry to RAMP, with the SOA count and the time of the ramp begun anew (R283). A latch that stands keeps the gate sunk (R285); a voter that
asserts trips the slot. While HSW is not READY the slot waits in SEATED (R116). -/
def Dev.rampStart (d : Dev) (n : Nat) : Dev :=
  if !d.ready 11 then d.slotSeated n
  else
    let d := (d.slotGo n .ramp).modSlot n (fun x => { x with
      rampEnd := some (d.loop + d.effN (F.HSW_TIMES_TRAMP n) * ms), soaCount := 0, soaVds := 0, soaAt := none })
    let s := d.slot n
    if s.votes d.loop then d.kerfTrip n (maskOf 3 (fun j => (s.lane j).raw)) else d

/-- The check window judged, once its last results have arrived: RAMP, or SHED where a shed request came, or LOCKOUT with FETSHORT
(R280, R295). -/
def Dev.checkDone (d : Dev) (n : Nat) : Dev :=
  let s := d.slot n
  if s.state == .check && due (s.checkEnd.map (checkJudged d.lag n)) d.loop then
    if s.checkBad || s.checkRise then (d.modSlot n (fun x => { x with shorted := true })).slotLock n 5
    else if s.shedReq then
      (d.slotGo n .shed).setB (F.HSW_STATUS_SHEDBY n) (s.reqEng && !(s.reqCap || s.reqForce))
    else
      d.rampStart n
  else d

/-! ### Expiries (R281, R283, R284, R290 to R294) -/

/-- The SOA count has reached TSOA (R283). -/
def Dev.soaTrip (d : Dev) (n : Nat) : Dev :=
  let s := d.slot n
  if d.slotRan n && decide (0 < s.soaCount) && decide (d.effN (F.HSW_SOA_TSOA n) ≤ s.soaCount) then
    d.slotTrip n 2
  else d

/-- RAMP has lasted TRAMP (R283). -/
def Dev.rampTrip (d : Dev) (n : Nat) : Dev :=
  let s := d.slot n
  if d.slotRan n && s.state != .good && due s.rampEnd d.loop then d.slotTrip n 3 else d

/-- Full enhancement and a low drop held for PGDELAY: GOOD, HSnnPG high (R277, R284). -/
def Dev.pgDone (d : Dev) (n : Nat) : Dev :=
  let s := d.slot n
  if s.state == .ramp && due s.pgEnd d.loop then
    let d := d.slotGo n .good
    d.modSlot n (fun x => { x with cleanEnd := some (d.loop + d.effN (F.HSW_RETRY_TCLEAN n) * sec) })
  else d

/-- IMEAN above IOC for TOC (R290). -/
def Dev.ocTrip (d : Dev) (n : Nat) : Dev :=
  let s := d.slot n
  if d.slotRan n && due s.ocEnd d.loop then d.slotTrip n 1 else d

/-- VDS above VDSMAX in GOOD for FETDB raises FETDEG (R281). -/
def Dev.fetDeg (d : Dev) (n : Nat) : Dev :=
  let s := d.slot n
  if s.state == .good && due s.fetEnd d.loop then d.raise (srcSlot n 7) else d

/-- ENH low for 10 us in GOOD: GATEFAIL (R281). -/
def Dev.gateFail (d : Dev) (n : Nat) : Dev :=
  let s := d.slot n
  if d.slotRan n && s.state != .ramp && due s.gateEnd d.loop then d.slotTrip n 4 else d

/-- A TRIPPED slot whose retry timer has run and whose count is below NRETRY becomes SEATED, and goes on from there (R277). -/
def Dev.tripOver (d : Dev) (n : Nat) : Dev := if (d.slot n).state == .tripped && d.retryOver n then d.slotSeated n else d

/-- The retry timer expires: TRIPPED becomes SEATED while the count is below NRETRY, the latch is cleared, and a waiting enable takes effect
(R277, R285, R291). -/
def Dev.retryDone (d : Dev) (n : Nat) : Dev :=
  let s := d.slot n
  if due s.retryEnd d.loop then
    let d := (d.modSlot n (fun x => { x with retryEnd := none })).setB (F.HSW_STATUS_RETRYWAIT n) false
    if s.state == .seated then d.slotOnward n else d.tripOver n
  else d

/-- GOOD without a break for TCLEAN: the retry count returns to 0 (R291). -/
def Dev.cleanDone (d : Dev) (n : Nat) : Dev :=
  let s := d.slot n
  if s.state == .good && due s.cleanEnd d.loop then
    (d.set (F.HSW_STATUS_COUNT n) 0).modSlot n (fun x => { x with cleanEnd := none })
  else d

/-- EMPTY for 60 s after the latest removal: count, timer and every lockout not of FETSHORT or LANEFAIL2 cleared (R292). -/
def Dev.coolDone (d : Dev) (n : Nat) : Dev :=
  let s := d.slot n
  if s.state == .empty && due s.coolEnd d.loop then
    (d.set (F.HSW_STATUS_COUNT n) 0).modSlot n (fun x => { x with coolEnd := none, retryEnd := none, locked := x.locked && x.lockHard })
  else d

/-- UNLOCK: LOCKOUT released and the count set to 0, unless FETSHORT's cause is present, which leaves a NOTE, or two lanes are
FAILED (R289, R293). -/
def Dev.unlock (d : Dev) (n : Nat) : Dev :=
  let a := (F.HSW_CTRL_UNLOCK n).addr
  let s := d.slot n
  if !d.hasSlot n then d
  else if s.shorted then d.note 2 a 4 (d.plainWord a)
  else if 2 ≤ s.failedLanes.length then d
  else
    let d := (d.set (F.HSW_STATUS_COUNT n) 0).modSlot n (fun x => { x with locked := false, lockHard := false })
    if s.state == .lockout then d.slotSeated n
    else if s.state == .seated then d.slotOnward n
    else if s.state == .forced then
      d.modSlot n (fun x => { x with back := if x.back = .lockout then .seated else x.back })
    else d

/-- A shed request set or withdrawn on a slot. -/
def Slot.setReq (s : Slot) (by_ : ShedBy) (v : Bool) : Slot :=
  match by_ with
  | .cap => { s with reqCap := v }
  | .force => { s with reqForce := v }
  | .eng => { s with reqEng := v }

/-- A shed request: the gate sinks in RAMP and GOOD at once and in SEATED the slot enters SHED; a slot in CHECK enters it once the
check ends; in any other state the request is recorded (R294, R295). -/
def Dev.shed (d : Dev) (n : Nat) (by_ : ShedBy) : Dev :=
  if !d.hasSlot n then d
  else
    let d := d.modSlot n (fun s => s.setReq by_ true)
    let st := (d.slot n).state
    if st = .ramp ∨ st = .good ∨ st = .seated then (d.slotGo n .shed).setB (F.HSW_STATUS_SHEDBY n) (by_ == .eng) else d

/-- A shed request withdrawn; a SHED slot with none left returns to SEATED (R294). -/
def Dev.unshed (d : Dev) (n : Nat) (by_ : ShedBy) : Dev :=
  let d := d.modSlot n (fun s => s.setReq by_ false)
  let s := d.slot n
  if s.state == .shed && !s.shedReq then d.slotSeated n else d

end Sys2Proof.Machine
end

