-- ==== Sys2Proof/Machine/TwoWire.lean ====
section
/-! DEFINITION. The two-wire controllers: the queue of each bus, attempts, arbitration, timeouts, bus clears
(R453 to R462, R467 of spec/20_two_wire_buses.md). -/

namespace Sys2Proof.Machine

/-- Two-wire bus `x`. -/
def Dev.bus (d : Dev) (x : Nat) : TwBus := d.buses[x]?.getD {}

/-- Two-wire bus `x` changed. -/
def Dev.modBus (d : Dev) (x : Nat) (f : TwBus → TwBus) : Dev :=
  { d with buses := d.buses.setIfInBounds x (f (d.bus x)) }

/-- The precedence of a transaction's source (R457). -/
def TxSrc.rank : TxSrc → Nat
  | .seq _ => 0
  | .bat _ => 1
  | .vout _ => 2
  | .poll _ => 3
  | .fw => 4

/-- Whether a transaction is an engine's. -/
def Txn.engine (t : Txn) : Bool := t.src != .fw

/-- TWB.x.STATUS.QUEUED and IDLE as the queue stands. -/
def Dev.showBus (d : Dev) (x : Nat) : Dev :=
  d.setB (F.TWB_STATUS_QUEUED x) ((d.bus x).queue.any (·.engine)) |>.setB (F.TWB_STATUS_IDLE x)
    (d.ready 23 && (d.bus x).cur.isNone && !d.on (F.TWB_STATUS_STUCK x))

/-- A rectifier's VOUT_COMMAND ended unacknowledged: it is queued again with its next poll (R207). -/
def Dev.voutRetry (d : Dev) (r : Nat) : Dev :=
  { d with rects := d.rects.setIfInBounds r { (d.rects[r]?.getD {}) with retry := true } }

/-- The target of the VOUT_COMMAND that SEQ writes in a transaction for a rail whose reference is to move to it (R272). -/
def Dev.seqVout (d : Dev) (t : Txn) : Option Nat :=
  match t.src with
  | .seq r => if t.ops.any (fun o => match o, (d.rail r).refNew with
      | .vout v, some k => decide (v = (k : Rat) / 1000)
      | _, _ => false) then some r else none
  | _ => none

/-- That VOUT_COMMAND has been written: MSETTLE counts from here (R272). -/
def Dev.voutSent (d : Dev) (t : Txn) : Dev :=
  match d.seqVout t with
  | some r => d.modRail r (fun x => { x with settle := some (d.loop + d.effN F.SEQ_REQUAL_MSETTLE * ms) })
  | none => d

/-- That VOUT_COMMAND is withheld or has failed: the reference stays (R272, R456). -/
def Dev.voutLost (d : Dev) (t : Txn) : Dev :=
  match d.seqVout t with
  | some r => d.modRail r (fun x => { x with refNew := none, settle := none })
  | none => d

/-- An engine's transaction queued. A device that does not drive the shelf starts none and holds none (R363, R467); a STUCK bus ends it
at once (R460). Where the device does not drive, its partner writes what SEQ would have (R363). -/
def Dev.twbPut (d : Dev) (x : Nat) (t : Txn) : Dev :=
  if !d.drives then d.voutSent t
  else if d.on (F.TWB_STATUS_STUCK x) then
    match t.src with
    | .vout r => d.voutRetry r
    | _ => d.voutLost t
  else (d.modBus x (fun b => { b with queue := b.queue ++ [t] })).showBus x

/-- Whether a rectifier's poll is queued or under way on a bus (R458). -/
def TwBus.polls (b : TwBus) (r : Nat) : Bool :=
  b.queue.any (fun t => t.src == .poll r) || (match b.cur with
    | some t => t.src == .poll r
    | none => false)

/-- The VOUT_MODE byte of a target, once read. -/
def TwBus.modeOf (b : TwBus) (a : Nat) : Option Nat := (b.modes.find? (fun m => m.1 == a)).map (·.2)

/-- Whether a target is marked MODEERR (R456). -/
def TwBus.modeErr (b : TwBus) (a : Nat) : Bool := ((b.modeOf a).map (fun m => decide (32 ≤ m))).getD false

/-- The signed exponent of a VOUT_MODE byte. -/
def modeExp (m : Nat) : Int := toSigned 5 (m % 32)

/-- A power of two with a signed exponent. -/
def pow2 (n : Int) : Rat := if 0 ≤ n then (2 ^ n.toNat : Nat) else 1 / ((2 ^ (-n).toNat : Nat) : Rat)

/-- The word of a VOUT_COMMAND: round(V x 2^-N) (R456). -/
def voutWord (m : Nat) (v16 : Rat) : Nat := min 65535 (roundR (v16 / 500 * pow2 (-(modeExp m)))).toNat

/-- A LINEAR11 word in I16 at 10 mA, saturated (R456). -/
def linear11 (w : Nat) : Int := holdIn (-32768) 32767 (roundR ((toSigned 11 (w % 2048) : Int) * pow2 (toSigned 5 (w / 2048 % 32)) * 100))

/-- What an operation puts on the bus: its protocol, its command code and the data bytes that it writes (R454, R455). -/
def TwBus.wire (b : TwBus) (a : Nat) : TwOp → Nat × Nat × List Nat
  | .raw c p bytes => (p, c, if p ≤ 2 ∨ p = 5 then bytes else [])
  | .readMode => (3, 0x20, [])
  | .vout v => (2, 0x21, le 2 (voutWord ((b.modeOf a).getD 0) v))

/-- The next operation of the transaction under way begins: a VOUT_COMMAND write to a target marked MODEERR is withheld with a
NOTE (R456). -/
def Dev.beginOps (d : Dev) (x : Nat) (t : Txn) : List TwOp → Dev
  | [] => (d.modBus x (fun b => { b with cur := none })).showBus x
  | o :: rest =>
    let hold := match o with
      | .vout _ => (d.bus x).modeErr t.addr
      | _ => false
    if hold then ((d.note 3 (0x190000 + 0x100 * x) 0x21 t.addr).voutLost { t with ops := [o] }).beginOps x t rest
    else
      let d := d.modBus x (fun b => { b with cur := some { t with ops := o :: rest }, attempts := 0, losses := 0 })
      let w := (d.bus x).wire t.addr o
      ({ d with out := d.out ++ [Out.twb x t.addr w.1 w.2.1 w.2.2 (d.on (F.TWB_CFG_PEC x))] } : Dev).showBus x

/-- Whether a transaction needs its target's VOUT_MODE: those of SHR and SEQ, at the first contact with each target (R455). -/
def Txn.needsMode (t : Txn) (b : TwBus) : Bool :=
  (match t.src with
   | .seq _ => true
   | .vout _ => true
   | .poll _ => true
   | _ => false) && (b.modeOf t.addr).isNone

/-- The transaction that starts next: the lowest rank, and within it the one queued first (R457). -/
def nextTxn (q : List Txn) : Option Txn :=
  q.foldl (fun a t => match a with
    | none => some t
    | some u => if t.src.rank < u.src.rank then some t else some u) none

/-- The highest-precedence queued transaction starts when the bus is idle; a transaction that has started runs to its end
(R457). A device that does not drive the shelf empties its queue of engine transactions (R467). -/
def Dev.txnStart (d : Dev) (x : Nat) : Dev :=
  let d := if d.drives then d
    else (Dev.each ((d.bus x).queue.filter (·.engine)) (fun t d => d.voutSent t)
      (d.modBus x (fun b => { b with queue := b.queue.filter (fun t => !t.engine) }))).showBus x
  let b := d.bus x
  if d.ready 23 && d.on (F.TWB_CFG_EN x) && b.cur.isNone && !d.on (F.TWB_STATUS_STUCK x) && d.drives then
    match nextTxn b.queue with
    | none => d
    | some t =>
      let d := d.modBus x (fun b => { b with queue := b.queue.erase t })
      d.beginOps x t (if t.needsMode b then .readMode :: t.ops else t.ops)
  else d

/-- The end of a firmware transaction: its code, attempts and length, and GO cleared (R459). -/
def Dev.fwTxnEnd (d : Dev) (x code att rx : Nat) : Dev :=
  d.set (F.TWB_RESULT_CODE x) code |>.set (F.TWB_RESULT_ATTEMPTS x) att |>.set (F.TWB_RESULT_RXLEN x) rx
    |>.setB (F.TWB_CMD_GO x) false

/-- A transaction that ends with a failure: a rectifier's VOUT_COMMAND is queued again with its next poll (R207); a permission
byte is repeated by its timer (R307), a start or stop is judged by its rail (R259), and a poll by SHR (R213). -/
def Dev.txnFail (d : Dev) (x : Nat) (t : Txn) (code att : Nat) : Dev :=
  match t.src with
  | .vout r => d.voutRetry r
  | .fw => d.fwTxnEnd x code att 0
  | _ => d.voutLost t

/-- The code of a failed attempt in TWB.x.RESULT.CODE. -/
def twCode : TwResult → Nat
  | .done _ => 0
  | .addrNack _ => 1
  | .dataNack _ => 2
  | .arb .. => 3
  | .stretch _ => 4
  | .timeout _ => 5
  | .pec => 7
  | .blockLong => 8

/-- The bytes received by a firmware transaction, four to a word, in its data registers. -/
def Dev.fwData (d : Dev) (x : Nat) (bytes : List Nat) : Dev :=
  Dev.each (List.range 8) (fun k d =>
    if 4 * k < bytes.length then d.set (F.TWB_DATA_BYTES x k) (fromLe ((bytes.drop (4 * k)).take 4)) else d) d

/-- An operation has succeeded. The byte of a VOUT_MODE read marks its target MODEERR where bits 7:5 are not 0 (R456). -/
def Dev.opDone (d : Dev) (x : Nat) (t : Txn) (bytes : List Nat) : Dev :=
  match t.ops with
  | .readMode :: rest =>
    let m := bytes.headD 0
    let d := d.modBus x (fun b => { b with modes := b.modes ++ [(t.addr, m)] })
    let d := if 32 ≤ m then (d.set (F.TWB_MODEERR_ADDR x) t.addr).inc (F.TWB_MODEERR_COUNT x) else d
    d.beginOps x t rest
  | o :: rest =>
    let att := (d.bus x).attempts + 1
    let d := if t.src = .fw then
        (match o with
         | .raw _ p _ => if p = 3 ∨ p = 4 ∨ p = 6 then (d.fwData x bytes).fwTxnEnd x 0 att (if p = 6 then bytes.length else 0)
           else d.fwTxnEnd x 0 att 0
         | _ => d)
      else match t.src with
        | .vout r => { d with rects := d.rects.setIfInBounds r { (d.rects[r]?.getD {}) with retry := false } }
        | _ => d.voutSent { t with ops := [o] }
    d.beginOps x t rest
  | [] => d.beginOps x t []

/-- The transaction under way ends with a failure code. -/
def Dev.curFail (d : Dev) (x : Nat) (t : Txn) (code att : Nat) : Dev :=
  ((d.modBus x (fun b => { b with cur := none, attempts := 0, losses := 0 })).txnFail x t code att).showBus x

/-- An attempt ends (R459, R462): a failure is retried up to three attempts; a lost arbitration is no attempt, and 16 in a row end
the transaction with ARB; a block longer than 32 bytes ends it at once (log entry 25). -/
def Dev.attempt (d : Dev) (x : Nat) (r : TwResult) : Dev :=
  let b := d.bus x
  match b.cur with
  | none => d
  | some t =>
    match r with
    | .done bytes => d.opDone x t bytes
    | .blockLong => d.curFail x t 8 (b.attempts + 1)
    | .arb byte bit =>
      let d := (d.inc (F.TWB_COUNTS_ARB_LOST x)).set (F.TWB_STATUS_ARB_BYTE x) byte |>.set (F.TWB_STATUS_ARB_BIT x) bit
      if b.losses + 1 = 16 then d.curFail x t 3 (b.attempts + 1)
      else d.modBus x (fun b => { b with losses := b.losses + 1 })
    | _ =>
      let d := match r with
        | .addrNack _ => d.inc (F.TWB_COUNTS_NACK x)
        | .dataNack _ => d.inc (F.TWB_COUNTS_NACK x)
        | .stretch _ => d.inc (F.TWB_COUNTS_TIMEOUT x)
        | .timeout _ => d.inc (F.TWB_COUNTS_TIMEOUT x)
        | _ => d
      if b.attempts + 1 = 3 then d.curFail x t (twCode r) 3
      else d.modBus x (fun b => { b with attempts := b.attempts + 1, losses := 0 })

/-- A bus clear: counted; if SDA stays low the bus is STUCK, every queued transaction ends with that code, and the clear is tried
again in 10 ms (R460). -/
def Dev.busClear (d : Dev) (x : Nat) (free : Bool) : Dev :=
  let d := d.inc (F.TWB_COUNTS_CLEARS x)
  if free then
    ((d.modBus x (fun b => { b with retryAt := none })).setB (F.TWB_STATUS_STUCK x) false).showBus x
  else
    let b := d.bus x
    let l := (match b.cur with
      | some t => [t]
      | none => []) ++ b.queue
    let d := d.modBus x (fun b => { b with queue := [], cur := none, attempts := 0, losses := 0, retryAt := some (d.now + 10 * ms) })
    let d := Dev.each l (fun t d => d.txnFail x t 6 (b.attempts + 1)) d
    (d.setB (F.TWB_STATUS_STUCK x) true).showBus x

/-- A bus clear where SDA reads low, as what it reads afterwards tells (R453, R467). -/
def Dev.sdaClear (d : Dev) (x : Nat) : Sda → Dev
  | .high => d
  | .cleared => d.busClear x true
  | .held => d.busClear x false

/-- The bus clear that an attempt's end calls for: after a timeout, and where a target holds SDA low after a NACK (R460, R467). -/
def Dev.clearAfter (d : Dev) (x : Nat) : TwResult → Dev
  | .addrNack sda => d.sdaClear x sda
  | .dataNack sda => d.sdaClear x sda
  | .stretch free => d.busClear x free
  | .timeout free => d.busClear x free
  | _ => d

/-- The attempt under way ends, and the bus is cleared where that is called for. -/
def Dev.attemptEnd (d : Dev) (x : Nat) (r : TwResult) : Dev :=
  if (d.bus x).cur.isNone then d else (d.attempt x r).clearAfter x r

/-- SCL has been held low for STRETCH or 25 ms: the attempt fails, the lines are released, the bus is cleared (R459, R460). -/
def Dev.busTimeout (d : Dev) (x : Nat) (free : Bool) : Dev :=
  (d.attempt x (if d.effN (F.TWB_TIMING_STRETCH x) < 2500 then .stretch free else .timeout free)).busClear x free

/-- The clear of a STUCK bus tried again (R460). -/
def Dev.stuckRetry (d : Dev) (x : Nat) (free : Bool) : Dev :=
  if d.on (F.TWB_STATUS_STUCK x) && due (d.bus x).retryAt d.now then d.busClear x free else d

/-- A firmware transaction as TWB.x.CMD and the data registers give it. -/
def Dev.fwTxn (d : Dev) (x : Nat) : Txn :=
  let p := d.get (F.TWB_CMD_PROTO x)
  let data := (List.range 8).flatMap (fun k => le 4 (d.get (F.TWB_DATA_BYTES x k)))
  let n := if p = 1 then 1 else if p = 2 then 2 else if p = 5 then d.get (F.TWB_CMD_LEN x) else 0
  { src := .fw, addr := d.get (F.TWB_CMD_ADDR x), ops := [.raw (d.get (F.TWB_CMD_CODE x)) p (data.take n)] }

/-- GO written with TWB.x.CMD: ignored while TWB READY is 0, with a NOTE while set; protocol 111b is not used and queues nothing
(log entry 25); a block length above 32 ends the transaction with code 8h. -/
def Dev.twbGo (d : Dev) (x : Nat) : Dev :=
  if !d.ready 23 then d
  else if d.on (F.TWB_CMD_GO x) then d.note 2 (F.TWB_CMD_GO x).addr (2 ^ 31) (d.plainWord (F.TWB_CMD_GO x).addr)
  else if d.get (F.TWB_CMD_PROTO x) = 7 then d
  else if d.get (F.TWB_CMD_PROTO x) = 5 && decide (32 < d.get (F.TWB_CMD_LEN x)) then d.fwTxnEnd x 8 1 0
  else if d.on (F.TWB_STATUS_STUCK x) then d.fwTxnEnd x 6 1 0
  else ((d.modBus x (fun b => { b with queue := b.queue ++ [d.fwTxn x] })).setB (F.TWB_CMD_GO x) true).showBus x

/-- RST.BLOCK of a bus, and a warm reset (R453, R467): the lines are released; a firmware transaction ends with code RESET; the
engines' queued transactions stay; a bus clear follows if SDA reads low. -/
def Dev.busReset (d : Dev) (x : Nat) (sda : Sda) : Dev :=
  let b := d.bus x
  let l := (match b.cur with
    | some t => [t]
    | none => []) ++ b.queue.filter (fun t => !t.engine)
  let d := d.modBus x (fun b => { b with queue := b.queue.filter (·.engine), cur := none, attempts := 0, losses := 0, retryAt := none })
  let d := Dev.each l (fun t d => d.txnFail x t 9 (b.attempts + 1)) d
  ((d.setB (F.TWB_STATUS_STUCK x) false).sdaClear x sda).showBus x

end Sys2Proof.Machine
end

