-- ==== Sys2Proof/Machine/Rails.lean ====
section
/-! DEFINITION. SEQ: rail states, requests, ordered starts and stops, supervision, margining, the first-failure record and the
rail reports (spec/11_sequencing.md). -/

namespace Sys2Proof.Machine

/-! ### Looking at rails (R251, R255, R258) -/

/-- The RAILS entry of a rail. -/
def Dev.railCfg (d : Dev) (r : Nat) : Option RailCfg := d.cfg.rails.find? (fun x => x.rail == r)

/-- The state of a rail, own or reported. -/
def Dev.rstate (d : Dev) (r : Nat) : RState := RState.ofCode (d.get (F.SEQ_STATE_STATE r))

/-- Whether the reports of the shelf that owns a rail are stale (R270). -/
def Dev.staleRail (d : Dev) (r : Nat) : Bool := d.bit F.SEQ_REMOTE_STALE (r / 64)

/-- A rail's entry is of another shelf. -/
def remoteRail (c : RailCfg) : Bool := c.kind == .remote

/-- Whether a prerequisite counts as GOOD for starting its dependents (R255, R258, R270). -/
def Dev.goodForStart (d : Dev) (r : Nat) : Bool :=
  match d.railCfg r with
  | none => false
  | some c =>
    if remoteRail c then d.rstate r == .good && !d.staleRail r
    else c.live && d.rstate r == .good

/-- Whether a prerequisite's loss takes down a running dependent: it is not GOOD, and no staleness hides its state (R258, R270). -/
def Dev.lostFor (d : Dev) (r : Nat) : Bool :=
  match d.railCfg r with
  | none => true
  | some c => if remoteRail c then d.rstate r != .good && !d.staleRail r else d.rstate r != .good

/-- The reference of a rail's window in V16 (R255). -/
def Dev.railRef (d : Dev) (c : RailCfg) : Rat :=
  match c.kind with
  | .bench n => ((d.bench n).vrAt d.loop : Rat) / nvStep
  | .pmbus .. => ((if (d.rail c.rail).ref = 0 then c.vnom * 1000 else (d.rail c.rail).ref : Nat) : Rat) / 1000
  | _ => c.vnom

/-- The latest reading of a rail in V16 (R254, R255); 0 for the kinds that have none. -/
def Dev.railReading (d : Dev) (c : RailCfg) : Rat :=
  match c.kind with
  | .bench n => d.protRead n (d.bench n).active.fb
  | .pmbus .. => (d.mon c.monin).rv
  | .watch => (d.mon c.monin).rv
  | _ => 0

/-- A reading inside the window [V (1 - lo/1000), V (1 + hi/1000)) (R255). -/
def inWindow (v ref : Rat) (lo hi : Int) : Bool :=
  decide (ref * (1000 - (lo : Rat)) / 1000 ≤ v) && decide (v < ref * (1000 + (hi : Rat)) / 1000)

/-- A reading inside a rail's good window narrowed by `w` at each edge; while a margin settles, the union of the old and the new
window (R255, R266, R272). -/
def Dev.inGood (d : Dev) (c : RailCfg) (w : Nat) : Bool :=
  let v := d.railReading c
  let lo := (c.glo : Int) - w
  let hi := (c.ghi : Int) - w
  let one := inWindow v (d.railRef c) lo hi
  match (d.rail c.rail).refNew with
  | some r => one || inWindow v ((r : Rat) / 1000) lo hi
  | none => one

/-- A Dowel's output (R134). -/
def Dev.dowelOut (d : Dev) (k : Nat) : Bool := d.bit (F.FAB_DOWEL_OUT_OUT (k / 32)) (k % 32)

/-- Whether a rail shows its good condition now, apart from the debounce (R255). -/
def Dev.railGoodNow (d : Dev) (c : RailCfg) : Bool :=
  match c.kind with
  | .bench n => d.get (F.BEN_STATUS_STATE n) == 3 && d.inGood c 0
  | .slot n => (d.slot n).state == .good
  | .pmbus .. => d.inGood c 0
  | .watch => d.inGood c 0
  | .cond k => d.dowelOut k
  | .remote => d.goodForStart c.rail

/-- Whether a rail is off (R255). -/
def Dev.railOffNow (d : Dev) (c : RailCfg) : Bool :=
  match c.kind with
  | .bench n => d.get (F.BEN_STATUS_STATE n) == 0 || d.get (F.BEN_STATUS_STATE n) == 5
  | .slot n => (d.slot n).gate == .sink
  | .pmbus .. => decide (d.railReading c < (c.vnom : Rat) / 10)
  | .watch => decide (d.railReading c < (c.vnom : Rat) / 10)
  | .cond k => !d.dowelOut k
  | .remote => d.rstate c.rail == .off || d.staleRail c.rail

/-- The edges into a rail. -/
def Dev.edgesTo (d : Dev) (r : Nat) : List EdgeCfg := d.cfg.edges.filter (fun e => e.dst == r)

/-- The edges out of a rail. -/
def Dev.edgesFrom (d : Dev) (r : Nat) : List EdgeCfg := d.cfg.edges.filter (fun e => e.src == r)

/-- The live rails. -/
def Dev.liveRails (d : Dev) : List RailCfg := d.cfg.rails.filter (·.live)

/-- The live rails of a group. -/
def Dev.groupRails (d : Dev) (g : Nat) : List RailCfg := d.liveRails.filter (fun c => c.group == g)

/-! ### Changing state -/

/-- Whether this device reports its rails: a worker with a LINK section (R268). -/
def Dev.reportsRails (d : Dev) : Bool := (d.cfg.link.map (·.role)) == some 0

/-- A change report of a rail on the ring, where its reported state has changed: base tick, one entry with the local rail, its state and no
offset (R268, R382, R394). -/
def Dev.railReport (d : Dev) (r : Nat) (old s : RState) : Dev :=
  if d.reportsRails ∧ old.report ≠ s.report then d.send 0x20 (le 4 d.tim ++ [1, r % 64, s.report, 0, 0]) else d

/-- A live rail put into a state, with the tick of the change and its report (R258, R268). -/
def Dev.railGo (d : Dev) (r : Nat) (s : RState) : Dev :=
  let old := d.rstate r
  let d := (d.set (F.SEQ_STATE_STATE r) s.code).setB (F.SEQ_STATE_WARN r) false
  let d := d.modRail r (fun x => { x with
    goodTick := if s = .good then d.tim else x.goodTick
    offTick := if s = .off then d.tim else x.offTick
    shedTick := if s = .shed then d.tim else x.shedTick
    failRun := none, warnRun := none, deadline := none })
  d.railReport r old s

/-- A rail put into DOWNWAIT with its reason (R258). -/
def Dev.railDown (d : Dev) (r reason : Nat) : Dev := (d.railGo r .downwait).set (F.SEQ_STATE_REASON r) reason

/-- The running rails reached from some rails through edges without ORDER_ONLY, to a depth (R258). -/
def Dev.depClosure (d : Dev) : Nat → List Nat → List Nat
  | 0, l => l
  | k + 1, l =>
    let more := (d.cfg.edges.filter (fun e => l.contains e.src && !e.orderOnly && !l.contains e.dst
      && (d.rstate e.dst == .start || d.rstate e.dst == .good)
      && ((d.railCfg e.dst).map (·.live)).getD false)).map (·.dst)
    if more.isEmpty then l else d.depClosure k (l ++ more.eraseDups)

/-- DEP passed to every running dependent of a rail, directly or through others (R258). -/
def Dev.passDep (d : Dev) (r : Nat) : Dev :=
  let l := (d.depClosure d.cfg.rails.length [r]).filter (· != r)
  Dev.each l (fun x d => d.railDown x 2) d

/-! ### Failing (R258, R266, R273, R274) -/

/-- The bytes of a first-failure record but its COUNT, which is written with it, and its CRC (R274). -/
def Dev.ffBytes (d : Dev) (c : RailCfg) (cause state : Nat) : List Nat :=
  le 2 0x4646 ++ [1, c.group] ++ le 4 0 ++ le 8 d.tim ++ le 2 c.rail ++ [cause, state]
    ++ le 2 (min 65535 (floorN (d.railReading c))) ++ le 2 (min 65535 (floorN (d.railRef c))) ++ le 4 d.cfg.runIdLo

/-- A first-failure record sent to the vault, or made to wait while writes are forbidden; a fifth waiting record is lost (R274). -/
def Dev.ffWrite (d : Dev) (bytes : List Nat) : Dev :=
  if d.vault.forbidden then
    if 4 ≤ d.vault.ffWait.length then d.inc F.SEQ_FFSTAT_LOST
    else
      let d : Dev := { d with vault := { d.vault with ffWait := d.vault.ffWait ++ [bytes] } }
      d.set F.SEQ_FFSTAT_PENDING d.vault.ffWait.length
  else d.firstFailWrite bytes

/-- The first failure of a past tick sent to the vault (R273). -/
def Dev.firstFailPut (d : Dev) : Dev :=
  match d.vault.ffHeld with
  | some f =>
    if f.tick = d.loop then d
    else ({ d with vault := { d.vault with ffHeld := none } } : Dev).ffWrite f.bytes |>.set F.SEQ_FFSTAT_RAIL f.rail
  | none => d

/-- Whether no rail is FAILED and none carries FAILMARK (R273). -/
def Dev.noFailure (d : Dev) : Bool :=
  d.liveRails.all (fun c => d.rstate c.rail != .failed && !d.on (F.SEQ_STATE_FAILMARK c.rail))

/-- Whether a rail that fails now takes the first-failure latch: it is armed, or a higher rail took it in this very tick (R273). -/
def Dev.firstFails (d : Dev) (r : Nat) : Bool :=
  d.on F.SEQ_FFSTAT_ARMED || d.vault.ffHeld.any (fun f => f.tick == d.loop && decide (r < f.rail))

/-- A rail enters FAILED: the first failure latched, its Clamp where FFCLAMP asks for it, and its source (R258, R266, R273). A
slot that is off by then waits for SEQ's next start (R278). Its dependents take DEP on the next strobe. -/
def Dev.railFail (d : Dev) (c : RailCfg) (cause src : Nat) : Dev :=
  let r := c.rail
  let old := d.get (F.SEQ_STATE_STATE r)
  let armed := d.on F.SEQ_FFSTAT_ARMED
  let held : FirstFail := ⟨d.loop, r, d.ffBytes c cause old⟩
  let d : Dev := if d.firstFails r then { d with vault := { d.vault with ffHeld := some held } } else d
  let d := (d.railGo r .failed).modRail r (fun x => { x with startFail := x.startFail || decide (old = 2) })
  let d := d.setB F.SEQ_FFSTAT_ARMED false
  let d := if armed && d.on F.SEQ_CTRL_FFCLAMP then d.clampOwn 2 d.tim else d
  let d := match c.kind with
    | .slot n => if (d.slot n).gate == Gate.sink then d.seqEnds n else d
    | _ => d
  d.raise src

/-! ### Issuing starts and stops (R259) -/

/-- The PMBus target voltage of a rail in thousandths of a V16 step: VNOM x (1,000 + margin) (R271). -/
def pmbusTarget (vnom : Nat) (margin : Int) : Nat := ((vnom : Int) * (1000 + margin)).toNat

/-- The margin of a rail's group, held to -100 to +100 (R271). -/
def Dev.groupMargin (d : Dev) (g : Nat) : Int := d.eff (F.SEQ_MARGIN_MARGIN g)

/-- A command to a PMBUS rail, with the PAGE write before it where its REF names a page (R455); FFh names none. -/
def pagedTxn (r addr page : Nat) (o : TwOp) : Txn :=
  { src := .seq r, addr := addr, ops := (if page = 255 then [] else [.raw 0 1 [page]]) ++ [o] }

/-- The start of a rail (R259). -/
def Dev.issueStart (d : Dev) (c : RailCfg) : Dev :=
  match c.kind with
  | .bench n => d.benchStart n
  | .slot n => d.slotEnable n
  | .pmbus bus addr page =>
    let v := pmbusTarget c.vnom (d.groupMargin c.group)
    (d.twbPut bus (pagedTxn c.rail addr page (.vout ((v : Rat) / 1000)))).twbPut bus
      (pagedTxn c.rail addr page (.raw 1 1 [0x80]))
  | _ => d

/-- The stop of a rail, from wherever it is (R259). -/
def Dev.issueStop (d : Dev) (c : RailCfg) : Dev :=
  match c.kind with
  | .bench n => d.benchStop n
  | .slot n => d.slotDisable n
  | .pmbus bus addr page => d.twbPut bus (pagedTxn c.rail addr page (.raw 1 1 [0]))
  | _ => d

/-- Whether a Bench is FORCED or a slot tripped, so that a rail that was started has failed (R258). -/
def Dev.railTripped (d : Dev) (c : RailCfg) : Bool :=
  match c.kind with
  | .bench n => d.get (F.BEN_STATUS_STATE n) == 5
  | .slot n => (d.slot n).state == .tripped || (d.slot n).state == .lockout || (d.slot n).state == .forced
  | _ => false

/-- Whether that happened in this very tick, so that it meets a start of the rail (R275). -/
def Dev.tripsNow (d : Dev) (c : RailCfg) : Bool :=
  match c.kind with
  | .bench n => (d.bench n).forcedAt == some d.loop
  | .slot n => (d.slot n).tripAt == some d.loop
  | _ => false

/-- The length of an edge's DELAY in ticks (R250). -/
def edgeDelay (e : EdgeCfg) : Nat := e.delay * (if e.delayMs then ms else us)

/-- Whether every prerequisite of a rail is GOOD with its edge's DELAY run, and a slot is seated (R250, R258, R269). -/
def Dev.mayStart (d : Dev) (c : RailCfg) : Bool :=
  (d.edgesTo c.rail).all (fun e => d.goodForStart e.src && decide ((d.rail e.src).goodTick + edgeDelay e ≤ d.tim))
    && (match c.kind with
        | .slot n => (d.slot n).state != .empty && (d.slot n).state != .seating
        | _ => true)

/-- Whether a dependent lets its prerequisite stop: it is OFF, WAIT or SHED with STOPDELAY run, or another shelf's report says so
or is stale. A dependent in WAIT or never up imposes no STOPDELAY (R258, R262, R269, R270). -/
def Dev.letsStop (d : Dev) (e : EdgeCfg) : Bool :=
  let x := d.rail e.dst
  let dly := e.stopDelay * ms
  match d.railCfg e.dst with
  | none => true
  | some c =>
    if remoteRail c && d.staleRail e.dst then true
    else match d.rstate e.dst with
      | .wait => true
      | .off => !x.everUp || decide (x.offTick + dly ≤ d.tim)
      | .shed => decide (x.shedTick + dly ≤ d.tim)
      | _ => false

/-- A rail in WAIT started if it may (R258). -/
def Dev.tryStart (d : Dev) (c : RailCfg) : Dev :=
  let r := c.rail
  if c.live && d.rstate r == .wait && d.mayStart c then
    let held := d.railTripped c && !d.tripsNow c
    let d := (d.railGo r .start).modRail r (fun x => { x with
      deadline := some (d.loop + c.starttime * ms), started := !held, startFail := false, everUp := true })
    d.issueStart c
  else d

/-- A rail in DOWNWAIT or FAILED stopped if every dependent lets it (R258). -/
def Dev.tryStop (d : Dev) (c : RailCfg) : Dev :=
  let r := c.rail
  let s := d.rstate r
  if c.live && (s == .downwait || s == .failed) && (d.edgesFrom r).all d.letsStop then
    let d := (d.railGo r .stop).modRail r (fun x => { x with
      deadline := some (d.loop + c.starttime * ms), started := decide (s = .failed) })
    d.issueStop c
  else d

/-- A stopping rail reaches OFF: with FAILMARK where it failed (R258, R267). -/
def Dev.railOff (d : Dev) (c : RailCfg) : Dev :=
  let failed := (d.rail c.rail).started
  let d := d.railGo c.rail .off
  if failed then d.stick (F.SEQ_STATE_FAILMARK c.rail) 1 else d

/-- A stopping rail that is off under R255 has come off: WAIT at once where it came down for DEP or a shed and its group is still requested
on (R258). -/
def Dev.tryOff (d : Dev) (c : RailCfg) : Dev :=
  if c.live && d.rstate c.rail == .stop && d.railOffNow c then
    let d := d.railOff c
    let why := d.get (F.SEQ_STATE_REASON c.rail)
    if (why == 2 || why == 3) && d.on (F.SEQ_STAT_REQON c.group) && !d.on (F.SEQ_STATE_FAILMARK c.rail) then d.railGo c.rail .wait else d
  else d

/-! ### Groups (R261 to R264) -/

/-- Every rail of a set is OFF; a REMOTE rail whose reports are stale counts as OFF (R263, R270). -/
def Dev.allOff (d : Dev) (l : List Nat) : Bool :=
  l.all (fun r => d.rstate r == .off || (((d.railCfg r).map remoteRail).getD false && d.staleRail r))

/-- The state of a group for SEQ.g.STAT. -/
def Dev.groupState (d : Dev) (g : Nat) : Nat :=
  let rs := (d.groupRails g).map (fun c => d.rstate c.rail)
  if (d.group g).pend then 4
  else if (d.group g).down then 3
  else if rs.all (· == .off) then 0
  else if rs.all (· == .good) then 2
  else if d.on (F.SEQ_STAT_REQON g) then 1
  else 3

/-- A group's power-down ended when its set is OFF; the re-qualify time of a waiting on request then starts (R263). -/
def Dev.groupEnd (d : Dev) (g : Nat) : Dev :=
  let x := d.group g
  if x.down && d.allOff x.offSet then
    d.modGroup g (fun y => { y with
      down := false, requal := if y.pend then some (d.loop + d.effN F.SEQ_REQUAL_REQUAL * ms) else none })
  else d

/-- The group fields brought up to the rails. -/
def Dev.showGroups (d : Dev) : Dev :=
  Dev.each (List.range 16) (fun g d =>
    let d := d.groupEnd g
    d.set (F.SEQ_STAT_STATE g) (d.groupState g)) d

/-- Whether ENG holds back on requests: WARNING, SHUTDOWN or DOWN (R263). -/
def Dev.engHolds (d : Dev) : Bool :=
  let s := d.get F.ENG_STATUS_STATE
  s == 4 || s == 5 || s == 6

/-- A group requested on: its OFF rails without FAILMARK enter WAIT (R258, R264). -/
def Dev.groupOn (d : Dev) (g : Nat) : Dev :=
  let d := (d.setB (F.SEQ_STAT_REQON g) true).modGroup g (fun x => { x with pend := false, requal := none })
  Dev.each (d.groupRails g) (fun c d =>
    if d.rstate c.rail == .off && !d.on (F.SEQ_STATE_FAILMARK c.rail) then d.railGo c.rail .wait else d) d

/-- A group put into PEND: its re-qualify time starts at the end of its power-down, at once where that is over (R263, R264). -/
def Dev.groupPend (d : Dev) (g : Nat) : Dev :=
  d.modGroup g (fun x => { x with pend := true, requal := if x.down then none else some (d.loop + d.effN F.SEQ_REQUAL_REQUAL * ms) })

/-- An on request: it waits in PEND while the group's power-down runs or ENG holds requests back; one that meets an off request of the same
tick waits as if the power-down were under way (R261, R263, R264). -/
def Dev.reqOn (d : Dev) (g : Nat) : Dev :=
  let x := d.group g
  let d := d.modGroup g (fun y => { y with onAt := some d.loop })
  if x.pend then d
  else if x.down || x.offAt == some d.loop then d.groupPend g
  else if d.engHolds then d.modGroup g (fun y => { y with pend := true })
  else d.groupOn g

/-- The rails that depend on some rails, directly or through others, to a depth (R261). -/
def Dev.offClosure (d : Dev) : Nat → List Nat → List Nat
  | 0, l => l
  | k + 1, l =>
    let more := (d.cfg.edges.filter (fun e => l.contains e.src && !l.contains e.dst)).map (·.dst)
    if more.isEmpty then l else d.offClosure k (l ++ more.eraseDups)

/-- The set of an off request for a group (R261). -/
def Dev.offSetOf (d : Dev) (g : Nat) : List Nat := d.offClosure d.cfg.rails.length ((d.groupRails g).map (·.rail))

/-- Whether SEQ takes a rail through its states: it is live (R258). -/
def Dev.liveRail (d : Dev) (r : Nat) : Bool := ((d.railCfg r).map (·.live)).getD false

/-- A rail that falls within an off request's set (R258, R262). One that is OFF already, and one that never left WAIT, impose no
STOPDELAY. -/
def Dev.railReqOff (d : Dev) (r : Nat) : Dev :=
  if !d.liveRail r then d
  else match d.rstate r with
    | .wait => (d.railGo r .off).modRail r (fun x => { x with everUp := false })
    | .start => d.railDown r 1
    | .good => d.railDown r 1
    | .off => d.modRail r (fun x => { x with everUp := false })
    | _ => d

/-- Rails that an off request names, from those that nothing depends on: each is looked at as the request found it (R258, R262). -/
def Dev.railsReqOff (d : Dev) (l : List Nat) : Dev :=
  let off := l.filter (fun r => d.rstate r == .off)
  Dev.each (l.filter (fun r => !off.contains r)) (fun r d => d.railReqOff r) (Dev.each off (fun r d => d.railReqOff r) d)

/-- A rail in SHED whose group is no longer requested on goes to OFF; its slot is disabled, so that its release starts nothing
(R258, R259). -/
def Dev.shedOff (d : Dev) (r : Nat) : Dev :=
  match d.railCfg r with
  | some c => if c.live && d.rstate r == .shed && !d.on (F.SEQ_STAT_REQON c.group) then (d.railGo r .off).issueStop c else d
  | none => d

/-- Whether a group is off: not requested on, with no request waiting, and every rail of it OFF (R264). -/
def Dev.groupOff (d : Dev) (g : Nat) : Bool :=
  !d.on (F.SEQ_STAT_REQON g) && !(d.group g).pend && (d.groupRails g).all (fun c => d.rstate c.rail == .off)

/-- An off request (R261, R262, R264, R265). For a group that is off it does nothing but take the group out of SEQ.ENGSET. -/
def Dev.reqOff (d : Dev) (g : Nat) : Dev :=
  let idle := d.groupOff g
  let d := (d.setBit F.SEQ_ENGSET_GROUPS g false).modGroup g (fun x => { x with offAt := some d.loop })
  if idle then d
  else
  let l := d.offSetOf g
  let d := d.setB (F.SEQ_STAT_REQON g) false
  let met := (d.group g).onAt == some d.loop
  let d := d.modGroup g (fun x => { x with pend := false, requal := none })
  let d := Dev.each l (fun r d => d.shedOff r) (d.railsReqOff l)
  let d := if d.allOff l then d else d.modGroup g (fun x => { x with offSet := l, down := true })
  if met then d.groupPend g else d

/-- Requests for groups: off, then on, so that OFF takes effect where both name a group (R31, R264). -/
def Dev.groupReqs (d : Dev) (on off : Nat) : Dev :=
  let gs := List.range 16
  let d := Dev.each (gs.filter (fun g => off.testBit g)) (fun g d => d.reqOff g) d
  let d := Dev.each (gs.filter (fun g => on.testBit g)) (fun g d => d.reqOn g) d
  d.showGroups

/-- A write of SEQ.REQ; a manager broadcasts it to its workers, a higher manager to its managers (R261, R268, R270). -/
def Dev.seqReq (d : Dev) (on off : Nat) : Dev :=
  if !d.ready 10 then d.note 2 F.SEQ_REQ_ON.addr (on + 2 ^ 16 * off) 0
  else
    let d := if d.cfg.link.any (fun c => c.role != 0) then d.send 0x21 (le 2 on ++ le 2 off) else d
    d.groupReqs on off

/-- A waiting on request whose re-qualify time has ended is acted on, unless ENG still holds it back (R263). -/
def Dev.requalDone (d : Dev) (g : Nat) : Dev :=
  let x := d.group g
  if x.pend && due x.requal d.loop && !d.engHolds then (d.groupOn g).showGroups else d

/-! ### Readings and their debounces (R256, R257, R266) -/

/-- A run of readings that show a condition: kept or begun at this sample, or ended (R256). -/
def runSince (c : Bool) (t : Option Nat) (now : Nat) : Option Nat :=
  if c then (if t.isSome then t else some now) else none

/-- The monitor input whose reading a rail's is, if it has one (R254, R255). -/
def Dev.railInput (d : Dev) (c : RailCfg) : Option Nat :=
  match c.kind with
  | .bench n => some (d.bench n).active.fb
  | .pmbus .. => some c.monin
  | .watch => some c.monin
  | _ => none

/-- Whether a reading of the rail arrives in this tick. -/
def Dev.readNow (d : Dev) (c : RailCfg) : Bool :=
  match d.railInput c with
  | some i => (d.mon i).valid && (d.mon i).tick + d.monAge == d.tim
  | none => true

/-- A rail's reading judged in the tick in which it arrives (R256, R257, R266); a Dowel's output shows in the tick in which it changes. -/
def Dev.seqReading (d : Dev) (r : Nat) : Dev :=
  match d.railCfg r with
  | none => d
  | some c =>
    if !c.live || !d.readNow c then d
    else
      let t := match c.kind with
        | .cond _ => d.loop
        | _ => d.loop - d.monAge
      let st := d.rstate r
      let good := d.railGoodNow c
      let out := match c.kind with
        | .cond k => !d.dowelOut k
        | .slot _ => false
        | _ => !d.inGood c 0
      let narrow := decide (0 < c.wband) && (match c.kind with
        | .cond _ => false
        | .slot _ => false
        | _ => !d.inGood c c.wband)
      let d := d.modRail r (fun x => { x with
        inWin := good, read := t
        goodRun := runSince good x.goodRun t
        failRun := runSince (out && st == .good) x.failRun t
        warnRun := runSince (narrow && st == .good) x.warnRun t })
      (d.set (F.SEQ_STATE_READING r) (min 65535 (floorN (d.railReading c)))).setB (F.SEQ_STATE_WARN r) (narrow && st == .good)

/-- The rails of which an input gives the reading take it with MON's other consumers (R26, R253). -/
def Dev.seqTakes (d : Dev) (i : Nat) : Dev :=
  if !d.ready 10 then d
  else Dev.each (d.liveRails.filter (fun c => d.railInput c == some i)) (fun c d => d.seqReading c.rail) d

/-- A monitor conversion result reaches every consumer in one tick, 50 ticks after its sample; one that lies on no sample tick of its input
is none (R26, R253). -/
def Dev.monResult (d : Dev) (i code : Nat) : Dev := if d.onGrid i then (d.monTake i code).seqTakes i else d

/-- An HVM conversion result, likewise (R132, R253). -/
def Dev.hvmResult (d : Dev) (h v : Nat) : Dev := if d.onGrid (64 + h) then (d.hvmTake h v).seqTakes (64 + h) else d

/-- Whether a run has lasted a debounce in microseconds: to the latest reading, for a Dowel's output to this tick (R17, R256). -/
def Dev.ranFor (d : Dev) (c : RailCfg) (t : Option Nat) (n : Nat) : Bool :=
  match t, c.kind with
  | some t, .cond _ => decide (t + 200 * n ≤ d.loop)
  | some t, _ => decide (t + 200 * n ≤ (d.rail c.rail).read)
  | none, _ => false

/-- The rails that Dowels form brought up to their outputs (R255). -/
def Dev.condSettle (d : Dev) : Dev :=
  if !d.ready 10 then d
  else
    Dev.each (d.liveRails.filter (fun c => match c.kind with
      | .cond k => (d.rail c.rail).inWin != d.dowelOut k
      | _ => false)) (fun c d => d.seqReading c.rail) d

/-- Good held for GOODDB: the rail is GOOD (R255, R256, R258). A slot is good as soon as HSW says so. -/
def Dev.railQualified (d : Dev) (r : Nat) : Dev :=
  match d.railCfg r with
  | none => d
  | some c =>
    let ok := match c.kind with
      | .slot n => (d.slot n).state == .good
      | _ => d.ranFor c (d.rail r).goodRun c.gooddb && (d.rail r).inWin
    if c.live && d.rstate r == .start && ok then (d.railGo r .good).showGroups else d

/-- Out of its window, or its condition low, for FAILDB: FAILED and RAILFAIL (R258). -/
def Dev.railFailed (d : Dev) (r : Nat) : Dev :=
  match d.railCfg r with
  | none => d
  | some c =>
    if c.live && d.rstate r == .good && d.ranFor c (d.rail r).failRun c.faildb then
      (d.railFail c (match c.kind with
        | .cond _ => 4
        | _ => 1) (srcSeq 1 c.group)).showGroups
    else d

/-- Outside the narrowed window for FAILDB: RAILWARN (R266). -/
def Dev.railWarned (d : Dev) (r : Nat) : Dev :=
  match d.railCfg r with
  | none => d
  | some c =>
    if c.live && d.rstate r == .good && d.ranFor c (d.rail r).warnRun c.faildb then d.raise (srcSeq 0 c.group) else d

/-- STARTTIME runs out: STARTFAIL in START, STOPFAIL in STOP (R258, R260, R266). -/
def Dev.startTime (d : Dev) (r : Nat) : Dev :=
  match d.railCfg r with
  | none => d
  | some c =>
    if c.live && due (d.rail r).deadline d.loop then
      if d.rstate r == .start then
        ((d.stick (F.SEQ_STATE_STARTF r) 1).railFail c 5 (srcSeq 2 c.group)).showGroups
      else if d.rstate r == .stop then
        (((d.stick (F.SEQ_STATE_STOPF r) 1).railOff c).raise (srcSeq 3 c.group)).showGroups
      else d
    else d

/-! ### The strobe (R257, R258) -/

/-- Whether something moves a rail at once: a forced Bench, a tripped, good or shed slot, a shed that ends; a stopping rail that is off (R257);
and where the START was discarded, the Bench or slot leaving the state that held it, so that a later force fails the rail (R258). -/
def Dev.railDue (d : Dev) (c : RailCfg) : Bool :=
  match d.rstate c.rail, c.kind with
  | .start, .slot n => (d.slot n).state == .good || (d.rail c.rail).started == d.railTripped c
  | .start, _ => (d.rail c.rail).started == d.railTripped c
  | .good, .bench n => d.get (F.BEN_STATUS_STATE n) != 3
  | .good, .slot n => (d.slot n).state != .good
  | .shed, .slot n => !d.on (F.SEQ_STAT_REQON c.group) || ((d.slot n).state != .shed && !(d.slot n).shedReq)
  | .stop, _ => d.railOffNow c
  | _, _ => false

/-- What that moves it to (R258): FAILED with RAILFAIL; GOOD; SHED; OFF; WAIT where the slot is released with the group on. -/
def Dev.railEvent (d : Dev) (c : RailCfg) : Dev :=
  if !d.railDue c then d
  else
    let r := c.rail
    match d.rstate r, c.kind with
    | .start, k =>
      let slot := match k with
        | .slot n => some (d.slot n).state
        | _ => none
      if slot == some .good then d.railGo r .good
      else if (d.rail r).started then d.railFail c (if slot.isSome then 3 else 2) (srcSeq 1 c.group)
      else d.modRail r (fun x => { x with started := true })
    | .good, .slot n =>
      if (d.slot n).state == .shed then (d.railGo r .shed).set (F.SEQ_STATE_REASON r) 3
      else d.railFail c 3 (srcSeq 1 c.group)
    | .shed, _ => if d.on (F.SEQ_STAT_REQON c.group) then d.railGo r .wait else d.shedOff r
    | .stop, _ => d.tryOff c
    | _, _ => d.railFail c 2 (srcSeq 1 c.group)

/-- The events of all live rails, lowest number first, until none is due; an event's source may force the Bench of another rail, so
the pass repeats, at most once for each live rail. -/
def Dev.seqPasses : Nat → Dev → Dev
  | 0, d => d
  | k + 1, d =>
    if d.liveRails.any (fun c => d.railDue c) then
      Dev.seqPasses k (Dev.each d.liveRails (fun c d => d.railEvent c) d).showGroups
    else d

/-- SEQ brought up to the Benches and the slots after an event of LOOP, once it is READY (R258). -/
def Dev.seqSettle (d : Dev) : Dev :=
  if d.ready 10 then Dev.seqPasses d.liveRails.length d.condSettle else d

/-- A running rail whose prerequisite is lost goes down on a strobe, and its own dependents with it (R257, R258). -/
def Dev.railDep (d : Dev) (c : RailCfg) : Dev :=
  let r := c.rail
  if (d.rstate r == .start || d.rstate r == .good)
      && (d.edgesTo r).any (fun e => !e.orderOnly && d.lostFor e.src) then (d.railDown r 2).passDep r
  else d

/-- The 1 us strobe of TIM: lost prerequisites, starts and stops (R257, R258). At another tick there is none. -/
def Dev.seqStrobe (d : Dev) : Dev :=
  if !d.ready 10 || d.tim % us != 0 then d
  else
    let l := d.liveRails
    let d := d.seqSettle
    let d := Dev.each l (fun c d => d.railDep c) d
    let d := Dev.each l (fun c d => d.tryStart c) d
    let d := Dev.each l (fun c d => d.tryStop c) d
    d.showGroups

/-- An edge's DELAY or STOPDELAY has run: its two rails are decided at once where the tick is one of TIM's 1 us strobe, and wait for
the next strobe otherwise (R250, R257). -/
def Dev.edgeDone (d : Dev) (e : Nat) : Dev :=
  match d.cfg.edges[e]? with
  | none => d
  | some x =>
    let go (d : Dev) (r : Nat) (f : Dev → RailCfg → Dev) : Dev :=
      match d.railCfg r with
      | some c => f d c
      | none => d
    if d.tim % us = 0 then (go (go d x.dst Dev.tryStart) x.src Dev.tryStop).showGroups else d

/-! ### FAILMARK, margins, reports (R267 to R273) -/

/-- FAILMARK cleared by W1C, only with the rail OFF and its group's RAILFAIL and STARTFAIL not held in PRO; else ignored with a
NOTE and counted (R267). A mark that hardware set in the same SYS cycle stays (R11). The latch re-arms when the last FAILMARK is cleared (R273). -/
def Dev.failmarkClear (d : Dev) (r : Nat) : Dev :=
  let a := (F.SEQ_STATE_STATE r).addr
  match d.railCfg r with
  | none => d
  | some c =>
    if !d.on (F.SEQ_STATE_FAILMARK r) || d.freshBits (F.SEQ_STATE_FAILMARK r).key != 0 then d
    else if d.rstate r == .off && !d.sticky (srcSeq 1 c.group) && !d.sticky (srcSeq 2 c.group) then
      let d := d.setB (F.SEQ_STATE_FAILMARK r) false
      let d := if d.on (F.SEQ_STAT_REQON c.group) then d.railGo r .wait else d
      (if d.noFailure then d.setB F.SEQ_FFSTAT_ARMED true else d).showGroups
    else (d.inc F.SEQ_COUNTS_REFUSED).note 2 a 0x40 (d.plainWord a)

/-- SEQ.g.MARGIN written: the margin of every Bench rail of the group, and VOUT_COMMAND to its PMBus rails, whose reference moves
MSETTLE after that write on the bus (R168, R271, R272). -/
def Dev.seqMargin (d : Dev) (g w : Nat) : Dev :=
  let d := d.plainWrite (F.SEQ_MARGIN_MARGIN g).addr w
  let m := d.groupMargin g
  Dev.each (d.groupRails g) (fun c d =>
    match c.kind with
    | .bench n => d.marginBySeq n (ofSigned 8 m)
    | .pmbus bus addr page =>
      let v := pmbusTarget c.vnom m
      let d := d.modRail c.rail (fun x => { x with refNew := some v, settle := none })
      d.twbPut bus (pagedTxn c.rail addr page (.vout ((v : Rat) / 1000)))
    | _ => d) d

/-- MSETTLE has run: the reference of a PMBus rail is the new target (R272). -/
def Dev.msettle (d : Dev) (r : Nat) : Dev :=
  let x := d.rail r
  match x.refNew with
  | some v => if due x.settle d.loop then d.modRail r (fun x => { x with ref := v, refNew := none, settle := none }) else d
  | none => d

/-- The full report: the 2-bit states of the 64 rails of the block, four in a byte (R268, R382). -/
def Dev.fullReport (d : Dev) : Dev :=
  if !d.reportsRails then d
  else
    let w := d.node / 16 % 16
    let at_ (j : Nat) : Nat := if d.liveRail (64 * w + j) then (d.rstate (64 * w + j)).report else 0
    d.send 0x20 (le 4 d.tim ++ [0] ++ (List.range 16).map (fun b => at_ (4 * b) + 4 * at_ (4 * b + 1) + 16 * at_ (4 * b + 2) + 64 * at_ (4 * b + 3)))

/-- The state that a 2-bit report gives a REMOTE rail; which of the states behind UP is shown is free (R382). -/
def reported (r : Nat) : Nat → Option RState
  | 0 => some .off
  | 1 => some (match (Config.remoteUp r).val with
    | 0 => .start
    | 1 => .downwait
    | 2 => .stop
    | _ => .failed)
  | 2 => some .good
  | _ => none

/-- A report of the shelf at ring position `w`: local rail, reported state and tick of the change, for the rails it names; a full report
repeats states, whose ticks stay (R268 to R270, R382). -/
def Dev.railRep (d : Dev) (w : Nat) (l : List (Nat × Nat × Nat)) : Dev :=
  let d := { d with lastRep := d.lastRep.setIfInBounds w d.loop }.setBit F.SEQ_REMOTE_STALE w false
  Dev.each l (fun x d =>
    let r := 64 * w + x.1
    match d.railCfg r, reported r x.2.1 with
    | some c, some s =>
      if remoteRail c && decide (x.1 < 64) && (d.rstate r).report != s.report then
        let d := d.set (F.SEQ_STATE_STATE r) s.code
        d.modRail r (fun y => { y with
          goodTick := if s = .good then x.2.2 else y.goodTick
          offTick := if s = .off then x.2.2 else y.offTick
          everUp := y.everUp || decide (s ≠ .off) })
      else d
    | _, _ => d) d

/-- The groups whose SEQSTALE a shelf's staleness raises: those that hold a REMOTE rail of it or a live rail joined by an edge to
one; group 0 where none qualifies (R266). -/
def Dev.staleGroups (d : Dev) (w : Nat) : List Nat :=
  let ofShelf (r : Nat) : Bool := decide (r / 64 = w) && ((d.railCfg r).map remoteRail).getD false
  let l := (List.range 16).filter (fun g => d.cfg.rails.any (fun c => c.group == g &&
    (ofShelf c.rail || (c.live && d.cfg.edges.any (fun e => (e.src == c.rail && ofShelf e.dst) || (e.dst == c.rail && ofShelf e.src))))))
  if l.isEmpty then [0] else l

/-- Whether ring position `w` holds another shelf that reports: RAILS names a rail of it, or a report of it has come (R270). -/
def Dev.knownShelf (d : Dev) (w : Nat) : Bool :=
  d.cfg.rails.any (fun c => remoteRail c && decide (c.rail / 64 = w)) || decide (0 < (d.lastRep[w]?).getD 0)

/-- No report of a shelf for 1 ms: stale (R270). -/
def Dev.reportStale (d : Dev) (w : Nat) : Dev :=
  if d.knownShelf w && decide ((d.lastRep[w]?).getD 0 + ms ≤ d.loop) && !d.bit F.SEQ_REMOTE_STALE w then
    (d.setBit F.SEQ_REMOTE_STALE w true).raiseAll ((d.staleGroups w).map (srcSeq 4))
  else d

end Sys2Proof.Machine
end

