-- ==== Sys2Proof/Machine/Power.lean ====
section
/-! DEFINITION. SHR and CAP: the bus loop and the SHARE lines, rectifier states and polls, the shelf cap with its three steps and
its release (spec/09_sharing_capping.md). Powers are in watts, currents in amperes. -/

namespace Sys2Proof.Machine

/-- The first BUSCAP store's voltage input: the bus input (R206). -/
def Dev.busInput (d : Dev) : Option Nat := d.cfg.ledger.caps.head?.map (·.vsense)

/-- The bus voltage in V16 steps. -/
def Dev.bus16 (d : Dev) : Rat := (d.busInput.map (fun i => (d.mon i).rv)).getD 0

/-- The bus voltage in volts. -/
def Dev.busV (d : Dev) : Rat := d.bus16 / 500

/-- The latest sample tick of the converters, which sample together: the tick s of R214 for every channel (R26). -/
def Dev.sampleTick (d : Dev) : Nat := d.cfg.chans.foldl (fun t c => max t (d.chan c.chan).tick) 0

/-- The mean over CAP's window of channel `c` in amperes, by sample tick: [s - 192, s + 8) and its 25 samples (R214), on a duplex device the
16 of its last four blocks (R360). -/
def Dev.winMean (d : Dev) (c : Nat) : Rat :=
  let e := d.blockEnd c
  let l := (d.chan c).win.filter (fun x =>
    if d.cfg.duplex.isSome then decide (e ≤ x.1 + 128 ∧ x.1 < e) else decide (d.sampleTick ≤ x.1 + 192))
  if l.isEmpty then 0
  else (l.foldl (fun a x => a + x.2) 0 : Int) / (l.length : Rat) * (d.chanCfg c).perCode * (d.chanCfg c).mA / 1000

/-- The sum of a figure over a list. -/
def sumR {α : Type} (l : List α) (f : α → Rat) : Rat := l.foldl (fun a x => a + f x) 0

/-- A rectifier's channel of its own (R203). -/
def Dev.rectChan (d : Dev) (r : Nat) : Option Nat := (d.cfg.chans.find? (fun c => c.role == .sourceRect r)).map (·.chan)

/-- The SOURCE channels (R214). -/
def Dev.sources (d : Dev) : List ChanCfg := d.cfg.chans.filter (fun c => match c.role with
  | .sourceRect _ => true
  | .sourceGroups _ => true
  | _ => false)

/-- The LOAD channels (R214). -/
def Dev.loads (d : Dev) : List ChanCfg := d.cfg.chans.filter (fun c => c.role == .load)

/-- SHR is configured present (R203). -/
def Dev.hasShr (d : Dev) : Bool := !d.cfg.rects.isEmpty

/-- CAP is configured present (R214). -/
def Dev.hasCap (d : Dev) : Bool := d.hasShr && !d.sources.isEmpty && !d.loads.isEmpty

/-- What SHR holds of rectifier `r`. -/
def Dev.rect (d : Dev) (r : Nat) : Rect := d.rects[r]?.getD {}

/-- What SHR holds of rectifier `r` changed. -/
def Dev.modRect (d : Dev) (r : Nat) (f : Rect → Rect) : Dev := { d with rects := d.rects.setIfInBounds r (f (d.rect r)) }

/-! ### The bus loop (R204, R206) -/

/-- The summed rated current of the rectifiers of a group that count for sharing: effective state GOOD or DEGRADED (R212). -/
def Dev.shareRating (d : Dev) (g : Nat) : Rat :=
  sumR (d.cfg.rects.filter (fun c => c.group == some g && decide (d.get (F.SHR_STATE_EFF c.rect) ≤ 1))) (fun c => (c.rated : Rat) / 1000)

/-- The weight of a group in effect. -/
def Dev.weight (d : Dev) (g : Nat) : Nat := d.effN (F.SHR_SHARE_WEIGHT g)

/-- The rectifier ceiling: CAP's where it sets one, else 1.25 times the ratings that count (R206). -/
def Dev.iCeil (d : Dev) : Rat :=
  match d.cap.ceil with
  | some c => max 0 c
  | none => sumR (List.range 4) (fun g => d.shareRating g * (5 / 4))

/-- The SHARE code of a fraction k: 2.000 V x k on a 12-bit converter of 2.5 V, to the nearest step (R204; the rounding is the model's choice,
log entry 7). -/
def shareCodeOf (k : Rat) : Nat := min 4095 (roundR (k * 2 * 4096 / (5 / 2))).toNat

/-- The SHARE lines set from the command. A sum of weights times ratings of 0 leaves the quotient open (log entry 8). -/
def Dev.shareLines (d : Dev) (i : Rat) : Dev :=
  let den := sumR (List.range 4) (fun h => d.weight h * d.shareRating h)
  if den = 0 then
    let d := Dev.each (List.range 4) (fun g d =>
      (d.set (F.SHR_SHARE_CODE g) (Config.shareCode (d.free + g)).toNat).setB (F.SHR_SHARE_SAT g) false) d
    { d with free := d.free + 4 }
  else
    Dev.each (List.range 4) (fun g d =>
      let k : Rat := d.weight g * i / den
      (d.set (F.SHR_SHARE_CODE g) (shareCodeOf (min k (5 / 4)))).setB (F.SHR_SHARE_SAT g) (decide (5 / 4 < k))) d

/-- The bus command i_t less the cut of ENG's active audit, shown and put on the SHARE lines (R206, R246). -/
def Dev.busCommand (d : Dev) : Dev :=
  let cmd := max 0 (d.cap.iT - d.cap.cut)
  ((d.set F.SHR_ITOTAL_ICMD (floorN (cmd * 1000))).setB F.SHR_ITOTAL_CEIL (decide (d.cap.iT = d.iCeil))).shareLines cmd

/-- One computation of the bus loop (R206). -/
def Dev.busLoop (d : Dev) : Dev :=
  let e := ((d.effN F.SHR_VBUS_VBUS : Rat) - d.bus16) / 500
  let c := d.cap
  let top := d.iCeil
  let hold := (decide (c.iT = top) && decide (0 < e)) || (decide (c.iT = 0) && decide (e < 0))
  let ki : Rat := (d.effN F.SHR_LOOP_KI : Rat) / 10
  let kp : Rat := (d.effN F.SHR_LOOP_KP : Rat) / 10
  let iInt := if hold then c.iInt else c.iInt + ki * e / 1000
  let iT := clampR (iInt + kp * e) 0 top
  ({ d with cap := { c with iInt := iInt, iRaw := iInt + kp * e, iT := iT } } : Dev).busCommand

/-- The ceiling of a CAP sample applied in SHR, and the SHARE codes loaded anew, without waiting for the next computation (R219; log entry
61). -/
def Dev.ceilApply (d : Dev) : Dev :=
  if d.ready 6 && d.on F.SHR_CTRL_EN then ({ d with cap := { d.cap with iT := clampR d.cap.iRaw 0 d.iCeil } } : Dev).busCommand else d

/-! ### The live rule (R209 to R212) -/

/-- The current a rectifier's SHARE line commands, from the present code (R209). -/
def Dev.rectCmd (d : Dev) (c : RectCfg) : Rat :=
  match c.group with
  | none => 0
  | some g => (d.get (F.SHR_SHARE_CODE g) : Rat) * (5 / 2) / 4096 / 2 * c.rated / 1000

/-- The groups judged together with group `g`: those that share a bus-bar segment with it, directly or through others (R209). -/
def Dev.judged (d : Dev) (g : Nat) : List Nat :=
  let grow (l : List Nat) : List Nat := (List.range 4).filter (fun h => l.contains h || d.cfg.chans.any (fun c => match c.role with
    | .sourceGroups m => m.testBit h && l.any (fun x => m.testBit x)
    | _ => false))
  grow (grow (grow [g]))

/-- The SOURCE channels tied to any of some groups: segments and the own channels of their rectifiers (R209). -/
def Dev.groupChans (d : Dev) (l : List Nat) : List Nat :=
  (d.sources.filter (fun c => match c.role with
    | .sourceGroups m => l.any (fun g => m.testBit g)
    | .sourceRect r => d.cfg.rects.any (fun x => x.rect == r && l.any (fun g => x.group == some g))
    | _ => false)).map (·.chan)

/-- The effective state of a rectifier: the worse of its two, or the live one while the management state is ignored (R209, R213). -/
def Dev.showRect (d : Dev) (r : Nat) : Dev :=
  let live := d.get (F.SHR_STATE_LIVE r)
  d.set (F.SHR_STATE_EFF r) (if d.on (F.SHR_STATE_STALE r) then live else max live (d.get (F.SHR_STATE_MGMT r)))

/-- A rectifier with a channel of its own judged on one window (R209). -/
def Dev.ownLive (d : Dev) (c : RectCfg) (ch : Nat) : Dev × Nat :=
  let mean := d.winMean ch
  let rated : Rat := (c.rated : Rat) / 1000
  let cmd := d.rectCmd c
  let low := c.group.isSome && decide (rated / 5 ≤ cmd) && decide (mean < cmd / 10)
  let run := if low then (d.rect c.rect).lowRun + 1 else 0
  let d := d.modRect c.rect (fun x => { x with lowRun := run })
  let d := d.set (F.SHR_IOUT_LIVE c.rect) (ofSigned 16 (roundR (mean * 1000 / (d.chanCfg ch).mA)))
  (d, if mean < -(rated / 50) ∨ (low ∧ d.effN F.SHR_POLL_LIVEDB ≤ run) then 2 else 0)

/-- A rectifier without a channel of its own judged by its groups' shortfall on one window (R209). -/
def Dev.groupLive (d : Dev) (c : RectCfg) : Dev × Nat :=
  match c.group with
  | none => (d, 0)
  | some g =>
    let l := d.judged g
    let chans := d.groupChans l
    let cmd := sumR (d.cfg.rects.filter (fun x => l.any (fun h => x.group == some h))) d.rectCmd
    let short := !chans.isEmpty && decide ((c.rated : Rat) / 2000 < cmd - sumR chans d.winMean)
    let run := if short then (d.rect c.rect).shortRun + 1 else 0
    let d := d.modRect c.rect (fun x => { x with shortRun := run })
    (d, if short ∧ d.effN F.SHR_POLL_LIVEDB ≤ run then 1 else 0)

/-- The live rule on one rectifier; a live state that becomes FAILED raises RECTFAIL (R209, R210). -/
def Dev.rectLive (d : Dev) (c : RectCfg) : Dev :=
  let old := d.get (F.SHR_STATE_LIVE c.rect)
  let (d, live) := match d.rectChan c.rect with
    | some ch => d.ownLive c ch
    | none => d.groupLive c
  let d := (d.set (F.SHR_STATE_LIVE c.rect) live).showRect c.rect
  if live = 2 ∧ old ≠ 2 then d.raise (536 + c.rect) else d

/-- One SHR computation: the bus loop while EN is set, and the live rule (R206, R209). -/
def Dev.shrCompute (d : Dev) : Dev :=
  if !d.hasShr || !d.ready 6 then d
  else
    let d := if d.on F.SHR_CTRL_EN then d.busLoop else d
    Dev.each d.cfg.rects (fun c d => d.rectLive c) d

/-! ### VOUT_COMMAND and polls (R207, R208, R213, R458) -/

/-- The VOUT_COMMAND write of a rectifier (R207). -/
def Dev.voutTxn (d : Dev) (c : RectCfg) : Txn :=
  let v := d.effN F.SHR_VBUS_VBUS + (if c.group.isSome then d.effN F.SHR_VBUS_VHEAD else 0)
  { src := .vout c.rect, addr := c.addr, ops := [.vout (v : Rat)] }

/-- VOUT_COMMAND queued for every rectifier: at SHR READY and at every change of VBUS or VHEAD (R207). -/
def Dev.voutAll (d : Dev) : Dev := Dev.each d.cfg.rects (fun c d => d.twbPut c.bus (d.voutTxn c)) d

/-- At SHR READY each rectifier's live state is judged for the first time, with no window behind it, so it is GOOD (R209); then
VOUT_COMMAND is queued (R207). -/
def Dev.shrStart (d : Dev) : Dev :=
  (Dev.each d.cfg.rects (fun c d => (d.set (F.SHR_STATE_LIVE c.rect) 0).showRect c.rect) d).voutAll

/-- SHR.VBUS written (R207). -/
def Dev.shrVbusWrite (d : Dev) (w : Nat) : Dev :=
  let old := (d.effN F.SHR_VBUS_VBUS, d.effN F.SHR_VBUS_VHEAD)
  let d := d.plainWrite F.SHR_VBUS_VBUS.addr w
  if d.ready 6 && (d.effN F.SHR_VBUS_VBUS, d.effN F.SHR_VBUS_VHEAD) != old then d.voutAll else d

/-- The run of polls that are stale or find the states different; a run longer than DISAGREE raises SHRDIS, once (R213). -/
def Dev.pollRun (d : Dev) (r : Nat) (bad : Bool) : Dev :=
  let run := if bad then (d.rect r).run + 1 else 0
  let long := decide (d.effN F.SHR_POLL_DISAGREE < run)
  let new := long && !(d.rect r).told
  let d := (d.modRect r (fun x => { x with run := run, told := bad && (x.told || long) })).set (F.SHR_STATE_DCOUNT r) (min 255 run)
  if new then (d.inc F.SHR_COUNTS_DISAGREE_EV).raise (560 + r) else d

/-- A stale poll: after more than DISAGREE in a row the management state is ignored, with a NOTE (R213). -/
def Dev.pollStale (d : Dev) (r : Nat) : Dev :=
  let n := (d.rect r).stale + 1
  let d := (d.modRect r (fun x => { x with stale := n })).pollRun r true
  if d.effN F.SHR_POLL_DISAGREE < n ∧ !d.on (F.SHR_STATE_STALE r) then
    let d := (d.setB (F.SHR_STATE_STALE r) true).showRect r
    let d := d.note (Config.noteKind d.free).toNat (F.SHR_STATE_LIVE r).addr 0 (d.plainWord (F.SHR_STATE_LIVE r).addr)
    { d with free := d.free + 1 }
  else d

/-- SHR polls: from READY on, and before it while what SHR needs is READY, so that each rectifier has its first answer (R115, R208). -/
def Dev.shrPolls (d : Dev) : Bool := d.hasShr && (d.ready 6 || (d.ready 4 && d.ready 5))

/-- The start of a poll period, once SHR.POLL.PERIOD has passed since the last one (R208, R458): one poll queued for each rectifier that has none queued or under way, behind the repeat of an
unacknowledged VOUT_COMMAND (R207); a poll still waiting counts as stale. -/
def Dev.pollPeriod (d : Dev) : Dev :=
  if !d.shrPolls || !d.on F.SHR_CTRL_POLL_EN || !d.drives || decide (d.loop < d.cap.pollAt) then d
  else
  let d : Dev := { d with cap := { d.cap with pollAt := d.loop + d.effN F.SHR_POLL_PERIOD * ms } }
  Dev.each d.cfg.rects (fun c d =>
    if (d.bus c.bus).polls c.rect then d.pollStale c.rect
    else
      let d := if (d.rect c.rect).retry then
          (d.modRect c.rect (fun x => { x with retry := false })).twbPut c.bus (d.voutTxn c)
        else d
      d.twbPut c.bus { src := .poll c.rect, addr := c.addr, ops := [.raw 0x79 4 [], .raw 0x8B 4 [], .raw 0x8C 4 []] }) d

/-- The management state that a status word gives (R209). -/
def pollMgmt : PollStatus → Nat
  | .ok => 0
  | .warn => 1
  | .fault => 2

/-- A rectifier's poll ends, with its answer or none; one that does not answer before SHR READY is ABSENT; a target marked MODEERR counts as silent (R209, R210, R213, R456). -/
def Dev.pollDone (d : Dev) (r : Nat) (answer : Option (PollStatus × Nat)) : Dev :=
  match d.cfg.rects.find? (fun c => c.rect == r) with
  | none => d
  | some c =>
    if !d.shrPolls then d
    else
      let answer := if (d.bus c.bus).modeErr c.addr then none else answer
      let d := d.modRect r (fun x => { x with asked := true })
      match answer with
      | none => if d.ready 6 then d.pollStale r else (d.set (F.SHR_STATE_MGMT r) 3).showRect r
      | some (st, iout) =>
        let was := d.get (F.SHR_STATE_MGMT r)
        let live := d.get (F.SHR_STATE_LIVE r)
        let d := d.modRect r (fun x => { x with stale := 0 })
        let d := d.set (F.SHR_STATE_MGMT r) (pollMgmt st) |>.setB (F.SHR_STATE_STALE r) false
          |>.setB (F.SHR_STATE_DIFF r) (live != pollMgmt st) |>.set (F.SHR_IOUT_PMBUS r) (ofSigned 16 (linear11 iout))
        let d := d.showRect r
        let d := if d.ready 6 then d.pollRun r (live != pollMgmt st) else d
        if pollMgmt st = 2 ∧ was ≠ 2 ∧ live ≠ 2 then
          let d := d.note (Config.noteKind d.free).toNat (F.SHR_STATE_LIVE r).addr 0 (d.plainWord (F.SHR_STATE_LIVE r).addr)
          { d with free := d.free + 1 }
        else d

/-! ### The cap: figures (R214, R215) -/

/-- P_load: the bus voltage times the sum of the LOAD means (R214). -/
def Dev.pLoad (d : Dev) : Rat := d.busV * sumR d.loads (fun c => d.winMean c.chan)

/-- The output of the PMBus-only rectifiers: by their own channel, else by the last READ_IOUT (log entry 27). -/
def Dev.pmbusOnly (d : Dev) (own : Bool) : Rat :=
  d.busV * sumR (d.cfg.rects.filter (fun c => c.group.isNone)) (fun c => match d.rectChan c.rect with
    | some ch => if own then d.winMean ch else 0
    | none => (d.getS (F.SHR_IOUT_PMBUS c.rect) : Rat) / 100)

/-- P_draw: the bus voltage times the sum of the SOURCE means, and the PMBus-only rectifiers that no channel measures (R214). -/
def Dev.pDraw (d : Dev) : Rat := d.busV * sumR d.sources (fun c => d.winMean c.chan) + d.pmbusOnly false

/-- P_cap: the lower of PCAP and PASSIGN, less the output of the PMBus-only rectifiers (R215). -/
def Dev.pCap (d : Dev) : Rat :=
  (min (d.effN F.CAP_PCAP_VALUE) (if d.get F.CAP_PASSIGN_PASSIGN = 0xFFFFFFFF then d.effN F.CAP_PCAP_VALUE
    else d.get F.CAP_PASSIGN_PASSIGN) : Nat) / 1000 - d.pmbusOnly true

/-- ENG is in power failure or committed shutdown (R215). -/
def Dev.engFails (d : Dev) : Bool := d.eng.lost || d.get F.ENG_STATUS_STATE == 4 || d.get F.ENG_STATUS_STATE == 5

/-- The strings that BAT lets discharge. -/
def Dev.disStrings (d : Dev) : List Nat := (d.cfg.strings.map (·.string)).filter (fun s => d.on (F.BAT_FLAGS_DISOK s))

/-- BAT's discharge limit over all strings, in watts. -/
def Dev.batLimit (d : Dev) : Rat := sumR d.disStrings (fun s => (d.get (F.BAT_PDIS_PDIS s) : Rat) / 1000)

/-- The battery allowance P_B (R215). -/
def Dev.pBatt (d : Dev) : Rat :=
  if !d.on F.CAP_CTRL_BATT_EN || d.disStrings.isEmpty || decide (d.getS F.ENG_BUDGET_H ≤ (d.effN F.CAP_EGUARD_EGUARD : Int))
      || d.engFails then 0
  else min d.batLimit ((d.effN F.CAP_PBATMAX_VALUE : Rat) / 1000)

/-- A power in watts as P32. -/
def p32 (w : Rat) : Nat := min 0xFFFFFFFF (floorN (w * 1000))

/-! ### Steps 2 and 3 (R216 to R218) -/

/-- The throttle groups that CAP and software through it assert; of a device without CAP none (R214, R217, R225). -/
def Dev.capThr (d : Dev) : Nat := if d.hasCap then d.cap.thr ||| d.get F.CAP_FORCE_THR else 0

/-- The throttle groups asserted: by CAP, by software, or sunk by THM (R217, R345). -/
def Dev.thrAsserted (d : Dev) : Nat := d.capThr ||| d.get F.THM_STATUS_THRLINES

/-- The cap limit terms of the Benches and CAP's status brought up to the groups asserted and the slots shed (R217). -/
def Dev.showCap (d : Dev) : Dev :=
  let m := d.thrAsserted
  let d := Dev.each (List.range 16) (fun n d =>
    let on := d.on (F.CAP_BLIM_BOUND n) && m.testBit (d.get (F.CAP_BLIM_GROUP n))
    d.modBench n (fun b => { b with capLim := if on then some (d.effN (F.CAP_BLIM_LIMIT n) : Rat) else none })) d
  d.set F.CAP_STATUS_THR d.capThr |>.setB F.CAP_STATUS_STEP2 (m != 0)
    |>.setB F.CAP_STATUS_STEP3 (!d.cap.shed.isEmpty)
    |>.set F.CAP_STATUS_SHED (maskOf 16 (fun n => d.cap.shed.any (fun x => x.1 == n)) ||| d.get F.CAP_FORCE_SHED)

/-- The enabled groups not yet asserted, lowest first (R216). -/
def Dev.thrCands (d : Dev) : List Nat := (List.range 8).filter (fun g => d.bit F.CAP_CTRL_THR_USE g && !d.thrAsserted.testBit g)

/-- One further throttle group asserted, and the next step's time: THRSTEP for a further group, SHEDDELAY after the last, which THM or
software may have asserted too (R216). -/
def Dev.thrStep (d : Dev) : Dev :=
  match d.thrCands with
  | [] => { d with cap := { d.cap with
      thrNext := none
      shedAt := if d.cap.shedAt.isSome then d.cap.shedAt else some (d.loop + d.effN F.CAP_TIMING_SHEDDELAY * us) } }
  | g :: rest =>
    let d : Dev := { d with cap := { d.cap with
      thr := d.cap.thr ||| 2 ^ g
      thrNext := if rest.isEmpty then none else some (d.loop + d.effN F.CAP_TIMING_THRSTEP * us)
      shedAt := if rest.isEmpty && !d.cap.shedOpen then some (d.loop + d.effN F.CAP_TIMING_SHEDDELAY * us) else none } }
    (d.inc F.CAP_COUNTS_THREV).showCap

/-- The slots CAP may shed, in order: lowest priority first, priority 0 never, highest number first, powered only (R218). -/
def Dev.shedOrder (d : Dev) : List SlotCfg :=
  let l := d.cfg.slots.filter (fun c => decide (0 < c.prio) && ((d.slot c.slot).state == .good || (d.slot c.slot).state == .ramp)
    && !d.cap.shed.any (fun x => x.1 == c.slot))
  sortBy (fun a b => decide (a.prio < b.prio) || (decide (a.prio = b.prio) && decide (b.slot ≤ a.slot))) l

/-- The relief of a slot in watts (R218). -/
def Dev.relief (d : Dev) (n : Nat) : Rat := d.busV * (d.slot n).imean / 1000

/-- One slot shed if an excess remains; its relief is recorded (R218). -/
def Dev.shedOne (c : SlotCfg) (acc : Dev × Rat) : Dev × Rat :=
  let (d, x) := acc
  if x ≤ 0 then (d, x)
  else
    let relief := d.relief c.slot
    let d : Dev := { d with cap := { d.cap with shed := (c.slot, relief, d.loop) :: d.cap.shed } }
    ((d.shed c.slot .cap).inc F.CAP_COUNTS_SHEDEV, x - relief)

/-- One shedding evaluation (R218). The relief of slots shed within the last window, which the figures do not show in full yet,
counts towards the excess (log entry 28), and that of slots that trip in this very tick or tripped in the one in which they were shed (R226).
An excess that remains sets MISS. -/
def Dev.shedEval (d : Dev) : Dev :=
  let recent := sumR (d.cap.shed.filter (fun x => decide (d.loop < x.2.2 + 200))) (fun x => x.2.1)
    + sumR (d.cap.gone.filter (fun x => decide (d.loop < x.2 + 200))) (·.1)
  let tripped := sumR (d.cfg.slots.filter (fun c => decide (0 < c.prio) && (d.slot c.slot).tripAt == some d.loop)) (fun c => d.relief c.slot)
  let x := d.cap.pneed - d.cap.pcap - recent - tripped
  let (d, left) := if d.on F.CAP_CTRL_SHED_EN then d.shedOrder.foldl (fun acc c => Dev.shedOne c acc) (d, x) else (d, x)
  let miss := decide (0 < left)
  let d : Dev := { d with cap := { d.cap with missAt := if miss then (if d.cap.missAt.isSome then d.cap.missAt else some d.loop) else none } }
  (d.setB F.CAP_STATUS_MISS miss).showCap

/-- CAP takes no step and releases none while ENG's committed shutdown runs (R226, R248). -/
def Dev.capFrozen (d : Dev) : Bool := d.get F.ENG_STATUS_STATE == 5

/-- An excess that goes on (R216): with no group enabled shedding begins; a group that has come free is asserted at once; where the last one has
been asserted meanwhile, SHEDDELAY runs. -/
def Dev.capFollow (d : Dev) : Dev :=
  if d.get F.CAP_CTRL_THR_USE = 0 then ({ d with cap := { d.cap with thrNext := none, shedAt := none, shedOpen := true } } : Dev).shedEval
  else if d.cap.thrNext.isSome == d.thrCands.isEmpty then d.thrStep
  else d

/-- A group that has come free while shedding is open is asserted at once, and further ones each THRSTEP (R216). -/
def Dev.thrAgain (d : Dev) : Dev := if d.cap.thrNext.isNone && !d.thrCands.isEmpty then d.thrStep else d

/-- P_need above P_cap: step 2 begins at once, and step 3 at once where no group is enabled, or after SHEDDELAY counted from the
excess where every enabled group is already asserted (R216, log entry 28). -/
def Dev.capExcess (d : Dev) : Dev :=
  let d : Dev := { d with cap := { d.cap with relEnd := none } }
  if d.capFrozen then d
  else if d.cap.shedOpen then d.thrAgain.shedEval
  else if d.cap.epis.isSome then d.capFollow
  else
    let d : Dev := { d with cap := { d.cap with epis := some d.loop } }
    if d.get F.CAP_CTRL_THR_USE = 0 then { d with cap := { d.cap with shedOpen := true } }.shedEval
    else if d.thrCands.isEmpty then { d with cap := { d.cap with shedAt := some (d.loop + d.effN F.CAP_TIMING_SHEDDELAY * us) } }
    else d.thrStep

/-- The release level P_cap x (100 - HYST) / 100 (R220). -/
def Dev.relLevel (d : Dev) : Rat := d.cap.pcap * (100 - (d.effN F.CAP_TIMING_HYST : Rat)) / 100

/-- P_need at or below P_cap: the steps end, and the release run goes on while P_need stays at or below the release level (R220). -/
def Dev.capRelief (d : Dev) : Dev :=
  let low := decide (d.cap.pneed ≤ d.relLevel) && !d.capFrozen
  let d : Dev := { d with cap := { d.cap with
    epis := none, thrNext := none, shedAt := none, shedOpen := false, missAt := if d.capFrozen then d.cap.missAt else none
    relEnd := if low then (if d.cap.relEnd.isSome then d.cap.relEnd else some (d.loop + d.effN F.CAP_RELEASE_RELEASE * ms)) else none } }
  if d.capFrozen then d else d.setB F.CAP_STATUS_MISS false

/-- Everything CAP holds let go: enforcement is switched off. -/
def Dev.capOff (d : Dev) : Dev :=
  let l := d.cap.shed
  let d : Dev := { d with cap := { d.cap with
    ceil := none, thr := 0, shed := [], epis := none, thrNext := none, shedAt := none, shedOpen := false, relEnd := none
    missAt := none, overAt := none } }
  let d := Dev.each l (fun x d => d.unshed x.1 .cap) d
  ((d.setB F.CAP_STATUS_STEP1 false).setB F.CAP_STATUS_MISS false).showCap

/-- A current-sense sample tick of CAP: the figures, the ceiling, and the steps (R214 to R221). -/
def Dev.capSample (d : Dev) : Dev :=
  if !d.hasCap then d
  else
    let load := d.pLoad
    let draw := d.pDraw
    let pb := d.pBatt
    let pcap := d.pCap
    let need := load - pb
    let d : Dev := { d with cap := { d.cap with pneed := need, pcap := pcap } }
    let d := d.set F.CAP_PDRAW_VALUE (p32 draw) |>.set F.CAP_PLOAD_VALUE (p32 load) |>.set F.CAP_PBATT_VALUE (p32 pb)
    if !d.ready 7 then d
    else if !d.on F.CAP_CTRL_EN then (if d.capFrozen then d else d.capOff)
    else
      let d : Dev := { d with cap := { d.cap with ceil := if d.busV = 0 then none else some (max pcap need / d.busV) } }
      let step1 := decide (pcap < load)
      let exceeds := step1 && decide (pcap * (100 + (d.effN F.CAP_TIMING_HYST : Rat)) / 100 < draw)
      let d : Dev := { d with cap := { d.cap with
        overAt := if exceeds then (if d.cap.overAt.isSome then d.cap.overAt else some d.loop) else none } }
      let d := (d.setB F.CAP_STATUS_STEP1 step1).ceilApply
      (if pcap < need then d.capExcess else d.capRelief).showCap

/-- THRSTEP has passed: one further group (R216). -/
def Dev.thrExpiry (d : Dev) : Dev :=
  if due d.cap.thrNext d.loop && decide (d.cap.pcap < d.cap.pneed) && !d.capFrozen then d.thrStep else d

/-- SHEDDELAY has passed with the excess remaining: shedding begins (R216). -/
def Dev.shedExpiry (d : Dev) : Dev :=
  if due d.cap.shedAt d.loop && decide (d.cap.pcap < d.cap.pneed) && !d.capFrozen then
    { d with cap := { d.cap with shedAt := none, shedOpen := true } }.shedEval
  else d

/-- RELEASE has passed: one item released, the most recently shed slot first if the headroom covers its relief, else the
highest-numbered throttle group (R220). -/
def Dev.capRelease (d : Dev) : Dev :=
  if !due d.cap.relEnd d.loop || d.capFrozen then d
  else
    let again := some (d.loop + d.effN F.CAP_RELEASE_RELEASE * ms)
    match d.cap.shed with
    | (n, relief, _) :: rest =>
      if relief ≤ d.relLevel - d.cap.pneed then
        ({ d with cap := { d.cap with shed := rest, relEnd := again } }.unshed n .cap).showCap
      else d
    | [] =>
      match (List.range 8).reverse.find? (fun g => d.cap.thr.testBit g) with
      | some g => { d with cap := { d.cap with thr := clr d.cap.thr (2 ^ g), relEnd := again } }.showCap
      | none => d

/-- MISS, or P_draw over the cap while step 1 is in force, has lasted 10 ms: CAPMISS (R221). -/
def Dev.capMiss (d : Dev) : Dev :=
  let ran (t : Option Nat) : Bool := due (t.map (· + 10 * ms)) d.loop
  if ran d.cap.missAt || ran d.cap.overAt then d.raise 584 else d

/-- CAP.FORCE written: software's own requests are set and withdrawn, and nothing else (R225, R226). On a device without CAP only the register
is written (R214). -/
def Dev.capForce (d : Dev) (w : Nat) : Dev :=
  let old := d.get F.CAP_FORCE_SHED
  let d := d.plainWrite F.CAP_FORCE_THR.addr w
  let now := d.get F.CAP_FORCE_SHED
  if !d.hasCap then d
  else
  let d := Dev.each (List.range 16) (fun n d =>
    if now.testBit n && !old.testBit n then d.shed n .force
    else if old.testBit n && !now.testBit n then d.unshed n .force
    else d) d
  d.showCap

end Sys2Proof.Machine
end

