-- ==== Sys2Proof/Machine/Energy.lean ====
section
/-! DEFINITION. ENG: the ledger, the landing requirement and the budget, input loss and return, the warning, the committed timed
shutdown, and the capacitance audit (spec/10_energy_landing.md). Energies are in joules, powers in watts, times in seconds. -/

namespace Sys2Proof.Machine

/-- ENG is configured present: at least one BUSCAP and one LANDING store (R227). -/
def Dev.hasEng (d : Dev) : Bool := !d.cfg.ledger.caps.isEmpty && !d.cfg.ledger.landings.isEmpty

/-- What ENG holds changed. -/
def Dev.modEng (d : Dev) (f : Eng → Eng) : Dev := { d with eng := f d.eng }

/-- Landing group `g` as ENG follows it. -/
def Dev.land (d : Dev) (g : Nat) : LandSt := d.eng.groups[g]?.getD {}

/-- Landing group `g` changed. -/
def Dev.modLand (d : Dev) (g : Nat) (f : LandSt → LandSt) : Dev :=
  d.modEng (fun e => { e with groups := e.groups.setIfInBounds g (f (d.land g)) })

/-- The mask of the used groups. -/
def Dev.landMask (d : Dev) : Nat := maskOf 8 (fun g => d.cfg.ledger.landings.any (fun l => l.group == g))

/-! ### The terms of the ledger (R229 to R232) -/

/-- The integer square root by bits, from bit `k` down. -/
def isqrt (n : Nat) : Nat → Nat → Nat
  | 0, r => r
  | k + 1, r => isqrt n k (if (r + 2 ^ k) * (r + 2 ^ k) ≤ n then r + 2 ^ k else r)

/-- A square root to twelve decimal places, cut off (log entry 7). -/
def sqrtR (x : Rat) : Rat := (isqrt (floorN (x * 1000000000000000000000000)) 64 0 : Rat) / 1000000000000

/-- The accepted audit values of store `k`. -/
def Dev.auditEst (d : Dev) (k : Nat) : List Rat := ((d.eng.audits[k]?).map (·.est)).getD []

/-- C_est: the mean of the accepted values (R245). -/
def Dev.cEst (d : Dev) (k : Nat) : Rat := meanR (d.auditEst k)

/-- u_C: twice the standard deviation over the root of the number (R245). -/
def Dev.cUnc (d : Dev) (k : Nat) : Rat :=
  let l := d.auditEst k
  let m := meanR l
  let n : Rat := (l.length : Rat)
  if l.isEmpty then 0 else 2 * sqrtR (sumR l (fun x => (x - m) * (x - m)) / n / n)

/-- The audit of store `k` has been complete (R245). -/
def Dev.auditDone (d : Dev) (k : Nat) : Bool := ((d.eng.audits[k]?).map (·.done)).getD false

/-- C_use of a BUSCAP store, in farads (R229). -/
def Dev.cUse (d : Dev) (k : Nat) (c : BusCap) : Rat :=
  let nom : Rat := (c.cnom : Rat) / 1000000
  let tol : Rat := (c.tol : Rat) / 1000
  if d.auditDone k then min (d.cEst k - d.cUnc k) (nom * (1 + tol)) else nom * (1 - tol)

/-- A bus reading less its uncertainty, in volts (R229). -/
def Dev.vLow (d : Dev) (i : Nat) : Rat :=
  let v := (d.mon i).rv / 500
  if 64 ≤ i then v * (1 - 1 / 500) - 1 / 50
  else v * (1 - 3 / 1000 - ((d.monCfg i).map (·.tol)).getD 0)

/-- E_cap of a store (R229). -/
def Dev.eCap (d : Dev) (k : Nat) (c : BusCap) : Rat :=
  let v := d.vLow c.vsense
  let vd : Rat := (c.vd : Rat) / 500
  d.cUse k c * max 0 (v * v - vd * vd) / 2

/-- The stores with their numbers. -/
def Dev.caps (d : Dev) : List (Nat × BusCap) := (List.range d.cfg.ledger.caps.length).zip d.cfg.ledger.caps

/-- The summed capacitor energy. -/
def Dev.eCaps (d : Dev) : Rat := sumR d.caps (fun x => d.eCap x.1 x.2)

/-- The ledger's strings that BAT lets discharge (R230). -/
def Dev.ledgerStrings (d : Dev) : List Nat := d.cfg.ledger.strings.filter (fun s => d.on (F.BAT_FLAGS_DISOK s))

/-- E_bat as BAT reports it (R230). -/
def Dev.eBat (d : Dev) : Rat := sumR d.ledgerStrings (fun s => (((d.strs[s]?).map (·.ebat)).getD 0 : Nat) / 1000)

/-- P_dis: the sum of the strings' limits (R230). -/
def Dev.pDis (d : Dev) : Rat := sumR d.ledgerStrings (fun s => (d.get (F.BAT_PDIS_PDIS s) : Rat) / 1000)

/-- The rectifiers' hold-up from their states (R231). -/
def Dev.holdUp (d : Dev) : Rat :=
  sumR d.cfg.ledger.holds (fun h =>
    ((d.cfg.rects.filter (fun c => h.rects.testBit c.rect && d.get (F.SHR_STATE_EFF c.rect) == 0)).length : Rat) * h.hold / 1000)

/-- E_rect: from states while input is good, counted down from the first tick of the loss while it is lost (R231). -/
def Dev.eRect (d : Dev) : Rat :=
  if d.eng.lost then max 0 (d.eng.base.rect - (d.eng.draw - d.eng.base.draw)) else d.holdUp

/-- The age debit P_load x a (R232). -/
def Dev.ageDebit (d : Dev) : Rat :=
  let oldest := d.cfg.ledger.caps.foldl (fun t c => min t (d.mon c.vsense).tick) d.tim
  (d.get F.CAP_PLOAD_VALUE : Rat) / 1000 * (d.tim - oldest : Nat) / 200000000

/-! ### The landing requirement (R233, R234) -/

/-- A group's power now (R233). -/
def Dev.groupPower (d : Dev) (l : Landing) : Rat :=
  d.busV * (sumR ((List.range 16).filter (fun n => l.slots.testBit n)) (fun n => (d.slot n).imean / 1000)
    + sumR (d.loads.filter (fun c => l.loads.testBit c.chan)) (fun c => d.winMean c.chan))

/-- A peak held over PHOLD: a 1 ms mean put before those it does not exceed, and those too old dropped (R233). -/
def peakPut (t : Nat) (m : Rat) (hold : Nat) (l : List (Nat × Rat)) : List (Nat × Rat) :=
  (t, m) :: (l.dropWhile (fun x => decide (x.2 ≤ m))).filter (fun x => decide (t < x.1 + hold))

/-- The highest of the held means. -/
def peakOf (l : List (Nat × Rat)) : Rat := l.foldl (fun a x => max a x.2) 0

/-- One sample of a power taken into its 1 ms mean (R233); a thousand computations make a millisecond. -/
def LandSt.sample (x : LandSt) (p : Rat) (now hold : Nat) : LandSt :=
  if x.cnt + 1 = 1000 then { x with sum := 0, cnt := 0, peaks := peakPut now ((x.sum + p) / 1000) hold x.peaks }
  else { x with sum := x.sum + p, cnt := x.cnt + 1 }

/-- The span of the peak hold in ticks. -/
def Dev.pHold (d : Dev) : Nat := d.effN F.ENG_PHOLD_PHOLD * 10 * ms

/-- The powers sampled, and P_g and P_N formed unless they are frozen (R233). -/
def Dev.engSample (d : Dev) : Dev :=
  let hold := d.pHold
  let ps := d.cfg.ledger.landings.map (fun l => (l.group, d.groupPower l))
  let rest := max 0 ((d.get F.CAP_PLOAD_VALUE : Rat) / 1000 - sumR ps (fun x => x.2))
  let d := Dev.each ps (fun x d => d.modLand x.1 (fun y => y.sample x.2 d.loop hold)) d
  let d := d.modEng (fun e => { e with
    nonland := e.nonland.sample rest d.loop hold
    draw := e.draw + (d.get F.CAP_PDRAW_VALUE : Rat) / 1000 / 1000000 })
  if d.eng.frozen then d
  else
    let d := Dev.each ps (fun x d => d.modLand x.1 (fun y => { y with
      power := max ((d.effN (F.ENG_PFLOOR_VALUE x.1) : Rat) / 1000) (peakOf y.peaks) })) d
    d.modEng (fun e => { e with nonland := { e.nonland with power := peakOf e.nonland.peaks } })

/-- REPRIEVE in effect, in ms: held to the shortest used TLAND (R240). -/
def Dev.reprieve (d : Dev) : Nat := d.effN F.ENG_LAND_REPRIEVE

/-- The steps of the landing profile: power with margin, and the time in seconds to which it stands (R234). -/
def Dev.profile (d : Dev) : List (Rat × Rat) :=
  let k : Rat := (100 + d.effN F.ENG_LAND_MARGIN : Nat) / 100
  (k * d.eng.nonland.power, (d.reprieve : Rat) / 1000)
    :: d.cfg.ledger.landings.map (fun l => (k * (d.land l.group).power, (d.effN (F.ENG_TLAND_TLAND l.group) : Rat) / 1000))

/-- The integral of a profile from a time on. -/
def energyFrom (l : List (Rat × Rat)) (t : Rat) : Rat := sumR l (fun x => x.1 * max 0 (x.2 - t))

/-- The integral of the excess of a profile over a limit, from a time on: between two ends in rising order the profile is the sum of
the steps that reach past the first (R234). -/
def shortFrom (l : List (Rat × Rat)) (lim : Rat) : Rat → List Rat → Rat
  | _, [] => 0
  | t, b :: rest =>
    if b ≤ t then shortFrom l lim t rest
    else max 0 (sumR (l.filter (fun x => decide (t < x.2))) (fun x => x.1) - lim) * (b - t) + shortFrom l lim b rest

/-- The ends of a profile's steps in rising order. -/
def ends (l : List (Rat × Rat)) : List Rat := sortBy (fun a b => decide (a ≤ b)) (l.map (fun x => x.2))

/-- The figures of one computation: E_total, E_nb, E_req, S and the budget H, and `rest`, the budget over what is left of the profile
(R232, R234, R242). -/
structure Figures where
  total : Rat
  nb : Rat
  req : Rat
  short : Rat
  h : Rat
  rest : Rat

/-- The figures now. In WARNING and SHUTDOWN the budget is also formed over the rest of the frozen profile, from the present position
(R242). -/
def Dev.figures (d : Dev) : Figures :=
  let debit := d.ageDebit
  let nb := d.eCaps + d.eRect - debit
  let total := nb + d.eBat
  let pr := d.profile
  let down : Rat := (d.effN F.ENG_EDOWN_EDOWN : Rat) / 1000
  let st := d.get F.ENG_STATUS_STATE
  let t : Rat := if st = 4 ∨ st = 5 then (d.loop - d.eng.w : Nat) / 200000000 else 0
  let budget (t : Rat) : Rat := min (total - (energyFrom pr t + down)) (nb - shortFrom pr d.pDis t (ends pr))
  { total := total, nb := nb, req := energyFrom pr 0 + down, short := shortFrom pr d.pDis 0 (ends pr), h := budget 0, rest := budget t }

/-- An energy as E32. -/
def e32 (e : Rat) : Nat := min 0xFFFFFFFF (floorN (e * 1000))

/-- The figures shown in the registers. -/
def Dev.showFigures (d : Dev) (f : Figures) : Dev :=
  let total := floorN (f.total * 1000)
  let bat := floorN (d.eBat * 1000)
  let d := d.modEng (fun e => { e with availHi := total / 2 ^ 32, batHi := bat / 2 ^ 32 })
  let d := d.set F.ENG_EAVAIL_LO_VALUE (total % 2 ^ 32) |>.set F.ENG_EBAT_LO_VALUE (bat % 2 ^ 32)
    |>.set F.ENG_ECAP_VALUE (e32 d.eCaps) |>.set F.ENG_ERECT_VALUE (e32 d.eRect) |>.set F.ENG_EREQ_VALUE (e32 f.req)
    |>.set F.ENG_ESHORT_VALUE (e32 f.short) |>.set F.ENG_PDIS_PDIS (p32 d.pDis)
    |>.setS F.ENG_BUDGET_H (f.h * 1000).floor |>.set F.ENG_PNONLAND_VALUE (p32 d.eng.nonland.power)
  let d := Dev.each d.cfg.ledger.landings (fun l d => d.set (F.ENG_PLAND_VALUE l.group) (p32 (d.land l.group).power)) d
  Dev.each d.caps (fun x d => d.set (F.ENG_CUSE_CUSE x.1) (floorN (d.cUse x.1 x.2 * 1000000))) d

/-! ### PFW_N and the states (R238 to R243) -/

/-- ENG put into a state, with PFW_N driven as the state says: the lines of used groups together, those of unused groups on in every
state (R238). -/
def Dev.engGo (d : Dev) (st : Nat) : Dev :=
  let pfw := st != 1 && st != 3
  d.set F.ENG_STATUS_STATE st |>.setB F.ENG_STATUS_PFW pfw |>.set F.ENG_STATUS_LINES (if pfw then 0xFF else clr 0xFF d.landMask)

/-- The groups and requests that waited for ENG are let on (R263): a waiting group whose power-down and re-qualify time are over. -/
def Dev.engFrees (d : Dev) : Dev :=
  (Dev.each (List.range 16) (fun g d =>
    let x := d.group g
    if x.pend && !x.down && (x.requal.isNone || due x.requal d.loop) then d.groupOn g else d) d).showGroups

/-- ENG enters ARMED or LOW; the profile is no longer frozen (R233, R238). Before ENG READY it goes back to NOTREADY, which that alone
ends (R118). -/
def Dev.engSettle (d : Dev) (armed : Bool) : Dev :=
  let d := d.modEng (fun e => { e with frozen := false })
  if !d.ready 8 then (d.engGo 0).engFrees
  else if armed then (d.engGo 1).engFrees else ((d.engGo 2).engFrees).raise 586

/-- The rails of some Benches and slots. -/
def Dev.railsOf (d : Dev) (benches slots : Nat) : List Nat :=
  (d.liveRails.filter (fun c => match c.kind with
    | .bench n => benches.testBit n
    | .slot n => slots.testBit n
    | _ => false)).map (·.rail)

/-- Whether a live rail names a Bench or a slot. -/
def Dev.railed (d : Dev) (k : RailKind) : Bool := d.liveRails.any (fun c => c.kind == k)

/-- Benches and slots taken down: `l`, the rails that ENG names to SEQ, as an off request on exactly those; the Benches and slots that no rail
names directly (R241, R265). -/
def Dev.takeDown (d : Dev) (l : List Nat) (benches slots : Nat) : Dev :=
  let d := Dev.each l (fun r d => d.shedOff r) (d.railsReqOff l)
  let d := Dev.each (List.range 16) (fun n d =>
    if benches.testBit n && !d.railed (.bench n) then d.benchStop n else d) d
  let d := Dev.each (List.range 16) (fun n d =>
    if slots.testBit n && !d.railed (.slot n) then d.shed n .eng else d) d
  d.showGroups

/-- The union of the landing groups' slots, and of their Benches. -/
def Dev.landSlots (d : Dev) : Nat := d.cfg.ledger.landings.foldl (fun a l => a ||| l.slots) 0
def Dev.landBenches (d : Dev) : Nat := d.cfg.ledger.landings.foldl (fun a l => a ||| l.benches) 0

/-- At the commit every group's on request is cleared, and the groups that were on or waiting are recorded (R265). -/
def Dev.recordGroups (d : Dev) : Dev :=
  Dev.each (List.range 16) (fun g d =>
    let d := if d.on (F.SEQ_STAT_REQON g) || (d.group g).pend then d.setBit F.SEQ_ENGSET_GROUPS g true else d
    (d.setB (F.SEQ_STAT_REQON g) false).modGroup g (fun x => { x with pend := false, requal := none })) d

/-- A group's Benches and slots taken down with every rail that depends on them, but those that a group still up names too (R228, R241). -/
def Dev.groupTake (d : Dev) (g : Nat) : Dev :=
  match d.cfg.ledger.landings.find? (fun l => l.group == g) with
  | none => d
  | some l =>
    let d := d.modLand g (fun x => { x with down := true })
    let later := d.cfg.ledger.landings.filter (fun x => !(d.land x.group).down)
    let keepB := later.foldl (fun a x => a ||| x.benches) 0
    let keepS := later.foldl (fun a x => a ||| x.slots) 0
    let bs := clr l.benches keepB
    let ss := clr l.slots keepS
    d.takeDown (d.offClosure d.cfg.rails.length (d.railsOf bs ss)) bs ss

/-- The shutdown commits (R241, R265): slots and Benches that no landing group names are shed and stopped. What depends on them follows as
SEQ has it (R258). -/
def Dev.commitNow (d : Dev) : Dev :=
  let d := (d.recordGroups).engGo 5
  let keepS := d.landSlots
  let d := Dev.each ((d.cfg.slots.filter (fun c => !keepS.testBit c.slot)).map (·.slot)) (fun n d => d.shed n .eng) d
  let bs := clr (maskOf 16 d.hasBench) d.landBenches
  d.takeDown (d.railsOf bs 0) bs 0

/-- Entry to WARNING: w is stored, counted, the powers are frozen, and staged records are written out (R233, R238, R415). With a
reprieve of 0 the shutdown commits in the same tick (R239). -/
def Dev.warn (d : Dev) : Dev :=
  let d := if d.get F.ENG_STATUS_STATE = 0 then
      (Dev.each d.cfg.ledger.landings (fun l d => d.modLand l.group (fun x => { x with
        power := (d.effN (F.ENG_PFLOOR_VALUE l.group) : Rat) / 1000 })) d).modEng
        (fun e => { e with nonland := { e.nonland with power := 0 } })
    else d
  let d := d.modEng (fun e => { e with w := d.loop, frozen := true, warnHi := d.tim / 2 ^ 32 })
  let d := Dev.each (List.range 8) (fun g d => d.modLand g (fun x => { x with down := false })) d
  let d := ((d.set F.ENG_TWARN_LO_TICK (d.tim % 2 ^ 32)).inc F.ENG_COUNTS_WARNINGS).engGo 4 |>.flushNow
  if d.reprieve = 0 then d.commitNow else d

/-- The warning withdrawn: input returned inside the reprieve window (R240). -/
def Dev.withdraw (d : Dev) (armed : Bool) : Dev :=
  ((d.inc F.ENG_COUNTS_REPRIEVES).setB F.ENG_STATUS_EXHAUST false).engSettle armed

/-- Whether a landing group is still up. -/
def Dev.groupsUp (d : Dev) : List Landing := d.cfg.ledger.landings.filter (fun l => !(d.land l.group).down)

/-- EXHAUST and LANDSHORT during WARNING and SHUTDOWN (R242). An early power-down commits the shutdown (log entry 29). -/
def Dev.landWatch (d : Dev) (f : Figures) : Dev :=
  let down : Rat := (d.effN F.ENG_EDOWN_EDOWN : Rat) / 1000
  let out := decide (f.total ≤ down)
    || (decide (d.pDis < (d.get F.CAP_PLOAD_VALUE : Rat) / 1000) && decide (f.nb ≤ down))
  let d := if out && !d.groupsUp.isEmpty then
      let d := if d.get F.ENG_STATUS_STATE = 4 then d.commitNow else d
      let d := Dev.each d.groupsUp (fun l d => d.groupTake l.group) d
      (d.setB F.ENG_STATUS_EXHAUST true).raise 587
    else d
  if f.rest < 0 then d.raise 588 else d

/-- The state stepped on one computation (R238). -/
def Dev.engStep (d : Dev) (f : Figures) : Dev :=
  let above := decide (f.req * d.effN F.ENG_LAND_HYST / 100 < f.h)
  let lost := d.eng.lost
  match d.get F.ENG_STATUS_STATE with
  | 0 => if lost then d.warn else if d.ready 8 then d.engSettle above else d
  | 1 => if lost then (if 0 < f.h then d.engGo 3 else d.warn) else if f.h ≤ 0 then d.engSettle false else d
  | 2 => if lost then d.warn else if above then d.engSettle true else d
  | 3 => if f.h ≤ 0 then (if lost then d.warn else d.engSettle false) else if lost then d else d.engSettle true
  | 4 => if lost then d.landWatch f else d.withdraw above
  | 5 => d.landWatch f
  | _ => d

/-- The ledger, the requirement and the budget formed, and the state stepped (R232 to R238). -/
def Dev.engForm (d : Dev) : Dev :=
  let f := d.figures
  (d.showFigures f).engStep f

/-! ### Input loss and return (R236, R237) -/

/-- A run kept, begun or ended. -/
def Dev.lossRun (d : Dev) (held : Bool) (r : Option LossRun) : Option LossRun :=
  if held then (if r.isSome then r else some ⟨d.loop, d.eng.draw, d.eRect⟩) else none

/-- The bus is below VFAIL. -/
def Dev.busLow (d : Dev) : Bool :=
  match d.busInput with
  | some i => (d.mon i).valid && decide ((d.mon i).rv < (d.effN F.ENG_INPUT_VFAIL : Rat))
  | none => false

/-- An INPUT store's monitor window reads below its low threshold. -/
def Dev.acLow (d : Dev) (i : Nat) : Bool :=
  if i < 64 then d.on (F.MON_WIN_BELOW i) else d.on (F.MON_HVM_RESULT_BELOW (i - 64))

/-- RECT describes rectifiers, and none is GOOD; judged once SHR READY has given them their states (R209, R236; log entry 34). -/
def Dev.noRect (d : Dev) : Bool := d.hasShr && d.ready 6 && d.cfg.rects.all (fun c => d.get (F.SHR_STATE_EFF c.rect) != 0)

/-- The runs of the loss conditions, and of none of them, brought up to the present readings (R236, R237). -/
def Dev.engRuns (d : Dev) : Dev :=
  if !d.hasEng then d
  else
    let ins := d.cfg.ledger.inputs
    let bus := d.lossRun d.busLow d.eng.bus
    let ac := (List.range ins.length).map (fun k =>
      d.lossRun (d.acLow (((ins[k]?).map (·.input)).getD 0)) ((d.eng.ac[k]?).getD none))
    let any := bus.isSome || (!ins.isEmpty && ac.all (·.isSome)) || d.noRect
    d.modEng (fun e => { e with bus := bus, ac := ac, goodSince := if any then none else (if e.goodSince.isSome then e.goodSince else some d.loop) })

/-- A run that has lasted a number of microseconds. -/
def ranUs (r : Option LossRun) (n now : Nat) : Bool := due (r.map (fun x => x.since + n * us)) now

/-- The bus condition complete. -/
def Dev.lostBus (d : Dev) : Bool := ranUs d.eng.bus (d.effN F.ENG_INPUT_FAILDB) d.loop

/-- The AC-sense condition complete: every INPUT store for its own debounce. -/
def Dev.lostAc (d : Dev) : Bool :=
  let ins := d.cfg.ledger.inputs
  !ins.isEmpty && (List.range ins.length).all (fun k => ranUs ((d.eng.ac[k]?).getD none) (((ins[k]?).map (·.db)).getD 0) d.loop)

/-- The debounce window that declared the loss: of the store that completed last, else of the bus (R231). -/
def Dev.lossBase (d : Dev) : LossRun :=
  let ins := d.cfg.ledger.inputs
  let now : LossRun := ⟨d.loop, d.eng.draw, d.eRect⟩
  if d.lostAc then
    ((List.range ins.length).foldl (fun (a : Nat × LossRun) k => match (d.eng.ac[k]?).getD none with
      | some r =>
        let e := r.since + (((ins[k]?).map (·.db)).getD 0) * us
        if a.1 ≤ e then (e, r) else a
      | none => a) (0, now)).2
  else if d.lostBus then
    if d.eng.ac.any (·.isSome) then d.eng.bus.getD now else ⟨d.loop, d.eng.draw, 0⟩
  else now

/-- A loss condition's debounce has completed: input loss is declared (R231, R236). -/
def Dev.inputLost (d : Dev) : Dev :=
  if !d.hasEng || d.eng.lost || !(d.lostBus || d.lostAc || d.noRect) then d
  else
    let by_ := d.lostBus.toNat + 2 * d.lostAc.toNat + 4 * d.noRect.toNat
    let base := d.lossBase
    let d := d.modEng (fun e => { e with lost := true, base := base, goodSince := none, reqAt := none })
    let d := (d.setB F.ENG_STATUS_INPUT false).set F.ENG_STATUS_LOSTBY by_
    (d.raise 585).engForm

/-- At w + R the shutdown commits (R241). -/
def Dev.engCommit (d : Dev) : Dev :=
  if d.get F.ENG_STATUS_STATE = 4 ∧ d.eng.w + d.reprieve * ms ≤ d.loop then d.commitNow else d

/-- No loss condition has held for RETURNDB: input returns. A run that completes at w + R belongs to the shutdown (R237, R240). -/
def Dev.inputReturn (d : Dev) : Dev :=
  if !d.hasEng || !due (d.eng.goodSince.map (· + d.effN F.ENG_INPUT_RETURNDB * ms)) d.loop
      || (d.on F.ENG_STATUS_INPUT && !d.eng.lost) then d
  else
    let d := d.engCommit
    let d := d.modEng (fun e => { e with
      lost := false
      reqAt := if d.get F.ENG_STATUS_STATE = 6 then some (d.loop + d.effN F.SEQ_REQUAL_REQUAL * ms) else none })
    (d.setB F.ENG_STATUS_INPUT true).engForm

/-- Whether a debounce that has run its time ends in this tick, since the readings no longer show its condition (R17). -/
def Dev.lossEnds (d : Dev) : Bool :=
  (d.lostBus && !d.busLow) || (d.lostAc && !d.cfg.ledger.inputs.all (fun x => d.acLow x.input))

/-- Whether a loss condition shows at present. -/
def Dev.lossShows (d : Dev) : Bool :=
  d.busLow || (!d.cfg.ledger.inputs.isEmpty && d.cfg.ledger.inputs.all (fun x => d.acLow x.input)) || d.noRect

/-- The runs of ENG's conditions brought up to the present readings; one that is complete in this tick takes effect before a reading of the
tick ends it (R17, R236, R237). -/
def Dev.engTrack (d : Dev) : Dev :=
  let d := if d.lossEnds then d.inputLost else d
  let d := if d.lossShows then d.inputReturn else d
  d.engRuns

/-- One ENG computation (R233, R238). -/
def Dev.engCompute (d : Dev) : Dev := if d.hasEng then ((d.engTrack).engSample).engForm else d

/-- A landing group's TLAND has elapsed in the shutdown: SEQ is asked to take it down (R241). -/
def Dev.engGroupDown (d : Dev) (g : Nat) : Dev :=
  if d.get F.ENG_STATUS_STATE = 5 ∧ !(d.land g).down ∧ d.eng.w + d.effN (F.ENG_TLAND_TLAND g) * ms ≤ d.loop then d.groupTake g
  else d

/-- Whether everything that the landing groups name is off (R241). -/
def Dev.landingOff (d : Dev) : Bool :=
  d.groupsUp.isEmpty && d.allOff (d.offClosure d.cfg.rails.length (d.railsOf d.landBenches d.landSlots))
    && (List.range 16).all (fun n => !d.landBenches.testBit n || d.railed (.bench n) || d.get (F.BEN_STATUS_STATE n) == 0
        || d.get (F.BEN_STATUS_STATE n) == 5)
    && (List.range 16).all (fun n => !d.landSlots.testBit n || d.railed (.slot n) || (d.slot n).gate == .sink)

/-- SEQ reports every group off: DOWN, and EXHAUST is no longer in force (R238, R241, R243, R509). -/
def Dev.shutdownEnd (d : Dev) : Dev :=
  if d.get F.ENG_STATUS_STATE = 5 ∧ d.landingOff then
    ((d.engGo 6).setB F.ENG_STATUS_EXHAUST false).modEng (fun e => { e with reqAt := if e.lost then none else some (d.loop + d.effN F.SEQ_REQUAL_REQUAL * ms) })
  else d

/-- Input has been good for REQUAL in DOWN: ENG leaves it, withdraws its sheds and requests on the groups of SEQ.ENGSET (R241, R243,
R265). -/
def Dev.engRequal (d : Dev) : Dev :=
  if d.get F.ENG_STATUS_STATE = 6 ∧ due d.eng.reqAt d.loop ∧ !d.eng.lost then
    let f := d.figures
    let d := d.modEng (fun e => { e with reqAt := none })
    let d := d.engSettle (decide (f.req * d.effN F.ENG_LAND_HYST / 100 < f.h))
    let d := Dev.each (List.range 16) (fun n d => if (d.slot n).reqEng then d.unshed n .eng else d) d
    let set := d.get F.SEQ_ENGSET_GROUPS
    let d := d.set F.SEQ_ENGSET_GROUPS 0
    (Dev.each ((List.range 16).filter (fun g => set.testBit g)) (fun g d => d.groupOn g) d).showGroups
  else d

/-! ### The capacitance audit (R244 to R247) -/

/-- A channel's mean over the microsecond that ends at a tick, in amperes, by sample tick. -/
def Dev.usMean (d : Dev) (e c : Nat) : Rat :=
  let l := (d.chan c).win.filter (fun x => decide (e ≤ x.1 + us ∧ x.1 < e))
  meanR (l.map (fun x => ((x.2 : Int) : Rat))) * (d.chanCfg c).perCode * (d.chanCfg c).mA / 1000

/-- I_net of a store over the microsecond that ends at a tick: the SRCMASK means, the BATMASK string currents and, less, the LOADMASK means
(R244). A string's current has the sign in which BAT gives it (log entry 68). -/
def Dev.netCurrent (d : Dev) (c : BusCap) (e : Nat) : Rat :=
  let chans (m : Nat) : Rat := sumR ((List.range 32).filter (fun i => m.testBit i)) (d.usMean e)
  chans c.src + sumR ((List.range 4).filter (fun s => c.bat.testBit s)) (fun s => ((d.strs[s]?).map (·.lastI)).getD 0) - chans c.load

/-- One microsecond of a store's audit: its net current, and the latest bus reading where it is new. Two windows of W are kept. -/
def AuditSt.take (x : AuditSt) (e : Nat) (i : Rat) (bad : Bool) (t : Nat) (v : Rat) : AuditSt :=
  { x with
    net := ((e, i, bad) :: x.net).take 1000
    volts := (if x.volts.head?.any (fun y => y.1 == t) then x.volts else (t, v) :: x.volts).take 1000 }

/-- A change of CAP.STATUS since the last tick disturbs the audit in that tick (R244). -/
def Dev.capWatch (d : Dev) : Dev :=
  let cap := d.plainWord F.CAP_STATUS_THR.addr
  if cap = d.eng.capSeen then d else (d.upsetAt (d.loop - 1) (d.loop - 1)).modEng (fun x => { x with capSeen := cap })

/-- Whether a cap step, a nonlinear event or a Kerf trip lay in the microsecond that ends at a tick (R244). -/
def Dev.upsetIn (d : Dev) (e : Nat) : Bool :=
  d.eng.upsets.any (fun x => decide (e ≤ x.2 + us ∧ x.1 < e))
    || (List.range 16).any (fun n => d.on (F.BEN_STATUS_NL n) && decide ((d.bench n).nlFrom < e))

/-- The auditable stores take in the microsecond whose samples have all come, 10 ticks after its end (R73, R244), on a duplex device 32 later
(R359). -/
def Dev.auditTick (d : Dev) : Dev :=
  if !d.hasEng then d
  else
    let d := d.capWatch
    if d.loop % us ≠ 10 + d.lag then d
    else
      let e := d.loop - (10 + d.lag)
      let bad := d.upsetIn e
      Dev.each (d.caps.filter (fun x => x.2.auditable)) (fun x d =>
        let m := d.mon x.2.vsense
        let a := ((d.eng.audits[x.1]?).getD {}).take e (d.netCurrent x.2 e) bad (d.loop - (d.tim - m.tick)) m.rv
        d.modEng (fun g => { g with audits := g.audits.setIfInBounds x.1 a })) d

/-- One of the two windows of a step: the net currents of its microseconds with their ends, oldest first, whether one of them is disturbed, and
its bus readings. -/
structure AuditWindow where
  currents : List Rat
  bad : Bool
  readings : List (Nat × Rat)

/-- The window [a, b) of a store's audit. -/
def AuditSt.window (x : AuditSt) (a b : Nat) : AuditWindow :=
  let l := (x.net.filter (fun y => decide (a + us ≤ y.1 ∧ y.1 ≤ b))).reverse
  { currents := l.map (fun y => y.2.1), bad := l.any (fun y => y.2.2), readings := x.volts.filter (fun y => decide (a ≤ y.1 ∧ y.1 < b)) }

/-- The spread of a window's net current, in amperes. -/
def AuditWindow.spread (w : AuditWindow) : Rat :=
  match w.currents with
  | [] => 0
  | c :: t => t.foldl max c - t.foldl min c

/-- The least-squares slope of a window's readings in volts per second, with the largest residual in V16 steps (R244). -/
def AuditWindow.fit (w : AuditWindow) : Rat × Rat :=
  let xs := w.readings.map (fun p => (p.1 : Rat))
  let ys := w.readings.map (fun p => p.2)
  let mx := meanR xs
  let my := meanR ys
  let pts := xs.zip ys
  let sxx := sumR xs (fun x => (x - mx) * (x - mx))
  let k : Rat := if sxx = 0 then 0 else sumR pts (fun p => (p.1 - mx) * (p.2 - my)) / sxx
  (k * 200000000 / 500, pts.foldl (fun a p => max a (absR (p.2 - my - k * (p.1 - mx)))) 0)

/-- IMIN in amperes. -/
def Dev.auditMin (d : Dev) : Rat := (d.effN F.ENG_AUDITCFG_IMIN : Rat) / 100

/-- c_i of a step between two windows of `n` microseconds, if it is a step and is accepted (R244). -/
def Dev.auditValue (d : Dev) (c : BusCap) (n : Nat) (a b : AuditWindow) : Option Rat :=
  let lim := d.auditMin
  let step := absR ((b.currents.head?).getD 0 - (a.currents.getLast?).getD 0)
  let (sa, ra) := a.fit
  let (sb, rb) := b.fit
  let nom : Rat := (c.cnom : Rat) / 1000000
  if a.currents.length ≠ n ∨ b.currents.length ≠ n ∨ a.bad ∨ b.bad ∨ step < lim ∨ lim / 8 < a.spread ∨ lim / 8 < b.spread ∨ 4 < ra ∨ 4 < rb
      ∨ sb = sa then none
  else
    let v := (meanR b.currents - meanR a.currents) / (sb - sa)
    if v < nom / 2 ∨ 2 * nom < v then none else some v

/-- The audit stands below a store's declared tolerance (R247). -/
def Dev.capLow (d : Dev) (k : Nat) (c : BusCap) : Bool :=
  !(d.auditEst k).isEmpty && decide (d.cEst k - d.cUnc k < (c.cnom : Rat) / 1000000 * (1 - (c.tol : Rat) / 1000))

/-- An accepted value taken: the audit is complete once and from then on with 16 values of which u_C is at most 2 % (R245). -/
def Dev.auditTake (d : Dev) (k : Nat) (v : Rat) : Dev :=
  let put (f : AuditSt → AuditSt) (d : Dev) : Dev :=
    d.modEng (fun e => { e with audits := e.audits.setIfInBounds k (f ((e.audits[k]?).getD {})) })
  let d := put (fun x => { x with est := (v :: x.est).take 64 }) d
  let full := decide (16 ≤ (d.auditEst k).length) && decide (d.cUnc k * 50 ≤ d.cEst k)
  put (fun x => { x with done := x.done || full }) d

/-- The audit's registers of a store. -/
def Dev.showAudit (d : Dev) (k : Nat) (c : BusCap) : Dev :=
  let ce := d.cEst k
  d.set (F.ENG_CAUDIT_CEST k) (floorN (ce * 1000000)) |>.set (F.ENG_CAUDIT_N k) (d.auditEst k).length
    |>.setB (F.ENG_CAUDIT_DONE k) (d.auditDone k) |>.set (F.ENG_CUSE_UC k) (if ce = 0 then 255 else floorN (d.cUnc k * 1000 / ce))
    |>.set (F.ENG_CUSE_CUSE k) (floorN (d.cUse k c * 1000000))

/-- The windows of a step at tick `t` have closed: it is judged once, and CAPLOW raised where the audit stands below the declared tolerance
(R244, R245, R247). -/
def Dev.auditStep (d : Dev) (k t : Nat) : Dev :=
  match d.cfg.ledger.caps[k]?, d.eng.audits[k]? with
  | some c, some x =>
    let n := d.effN F.ENG_AUDITCFG_WIN
    if !d.hasEng || !d.ready 8 || !d.on F.ENG_CTRL_AUDIT_EN || !c.auditable || decide (d.loop < t + n * us + 10 + d.lag)
        || x.stepAt.any (fun s => decide (t ≤ s)) then d
    else
      let d := d.modEng (fun e => { e with audits := e.audits.setIfInBounds k { x with stepAt := some t } })
      match d.auditValue c n (x.window (t - n * us) t) (x.window t (t + n * us)) with
      | none => d
      | some v =>
        let d := (d.auditTake k v).showAudit k c
        if d.capLow k c then d.raise (589 + k) else d
  | _, _ => d

/-- An active audit step: i_t lowered by IMIN for 2W (R246). -/
def Dev.auditActive (d : Dev) : Dev :=
  if d.hasEng && d.on F.ENG_CTRL_ACTIVE && d.on F.ENG_STATUS_INPUT && d.get F.ENG_STATUS_STATE == 1
      && !d.on F.CAP_STATUS_STEP1 && !d.on F.CAP_STATUS_STEP2 && !d.on F.CAP_STATUS_STEP3 && decide (0 < d.getS F.ENG_BUDGET_H)
      && decide (d.eng.auditAt ≤ d.loop) && d.eng.cutEnd.isNone then
    let d := d.modEng (fun e => { e with
      auditAt := d.loop + d.effN F.ENG_AUDITCFG_PERIOD * sec, cutEnd := some (d.loop + 2 * d.effN F.ENG_AUDITCFG_WIN * us) })
    { d with cap := { d.cap with cut := d.auditMin } }
  else d

/-- After 2W the active cut is returned (R246). -/
def Dev.auditReturn (d : Dev) : Dev :=
  if due d.eng.cutEnd d.loop then
    let d := d.modEng (fun e => { e with cutEnd := none })
    { d with cap := { d.cap with cut := 0 } }
  else d

end Sys2Proof.Machine
end

