-- ==== Sys2Proof/Machine/Battery.lean ====
section
/-! DEFINITION. BAT: counting charge, reference points, the floor, permissions, disagreement, learning, absence and first estimates
(spec/13_battery_strings.md). Charges are in coulombs, currents in amperes, resistances in ohms, temperatures in degrees. -/

namespace Sys2Proof.Machine

/-- The BATTERY entry of string `s`. -/
def Dev.strCfg (d : Dev) (s : Nat) : Option StringCfg := d.cfg.strings.find? (fun c => c.string == s)

/-- What BAT holds of string `s`. -/
def Dev.str (d : Dev) (s : Nat) : Str := d.strs[s]?.getD {}

/-- What BAT holds of string `s` changed. -/
def Dev.modStr (d : Dev) (s : Nat) (f : Str → Str) : Dev := { d with strs := d.strs.setIfInBounds s (f (d.str s)) }

/-! ### Thermistors (R297, R306) -/

/-- A rational cut to twelve decimal places. -/
def cut12 (x : Rat) : Rat := ((x * 1000000000000).floor : Rat) / 1000000000000

/-- The sum z + z³/3 + z⁵/5 + …, `n` terms from the odd number `k`. -/
def atanhSum (z2 : Rat) : Nat → Nat → Rat → Rat
  | 0, _, _ => 0
  | n + 1, k, p => p / (k : Nat) + atanhSum z2 n (k + 2) (cut12 (p * z2))

/-- ln 2 to twelve decimal places. -/
def ln2 : Rat := 693147180560 / 1000000000000

/-- The natural logarithm: powers of two taken out, then the series of the inverse hyperbolic tangent (log entry 12). -/
def lnR (x : Rat) : Nat → Rat
  | 0 => 0
  | n + 1 =>
    if x ≤ 0 then 0
    else if 2 ≤ x then ln2 + lnR (x / 2) n
    else if x < 1 then lnR (x * 2) n - ln2
    else
      let z := cut12 ((x - 1) / (x + 1))
      2 * atanhSum (cut12 (z * z)) 14 1 z

/-- The temperature of a thermistor in degrees from its ratio, unless the ratio says that it is faulted (R297, R306, R340). -/
def thermistor (beta : Nat) (ratio : Rat) : Option Rat :=
  if ratio < 1 / 100 ∨ 99 / 100 < ratio ∨ beta = 0 then none
  else some (cut12 (1 / (100 / 29815 + lnR (ratio / (1 - ratio)) 40 / beta)) - 27315 / 100)

/-- A temperature as T12, nearest, saturated (R15). -/
def t12 (t : Rat) : Nat := ofSigned 12 (roundR (t * 16))

/-! ### The open-circuit voltage table (R297) -/

/-- A table point in volts. -/
def ocvPt (c : StringCfg) (k : Nat) : Rat := ((c.ocv[k]?.getD 0 : Nat) : Rat) / 500

/-- OCV at a state of charge, linear between table points (R304). -/
def ocvAt (c : StringCfg) (x : Rat) : Rat :=
  let y := clampR x 0 1 * 11
  let k := min 10 (floorN y)
  ocvPt c k + (ocvPt c (k + 1) - ocvPt c k) * (y - k)

/-- The table inverted by searching upward from point `k`; a point not above the one before it ends the search there (R297). -/
def ocvSearch (c : StringCfg) (v : Rat) : Nat → Nat → Rat
  | 0, _ => 1
  | n + 1, k =>
    if ocvPt c (k + 1) ≤ ocvPt c k then (k : Rat) / 11
    else if v ≤ ocvPt c (k + 1) then ((k : Rat) + (v - ocvPt c k) / (ocvPt c (k + 1) - ocvPt c k)) / 11
    else ocvSearch c v n (k + 1)

/-- The state of charge of an open-circuit voltage, 0 to 1. -/
def ocvInv (c : StringCfg) (v : Rat) : Rat := if v ≤ ocvPt c 0 then 0 else ocvSearch c v 11 0

/-- The table's slope at a state of charge, in volts for the whole range. -/
def ocvSlope (c : StringCfg) (x : Rat) : Rat :=
  let k := min 10 (floorN (clampR x 0 1 * 11))
  (ocvPt c (k + 1) - ocvPt c k) * 11

/-- The integral of OCV between table points, from `a` to `b`, over one section `k`. -/
def ocvPart (c : StringCfg) (a b : Rat) (k : Nat) : Rat :=
  let lo := max a ((k : Rat) / 11)
  let hi := min b (((k : Rat) + 1) / 11)
  if hi ≤ lo then 0
  else
    let f (x : Rat) : Rat := ocvPt c k + (ocvPt c (k + 1) - ocvPt c k) * (x * 11 - k)
    (f lo + f hi) / 2 * (hi - lo)

/-- The integral of OCV(x) less a drop, from `a` to `b` (R304). -/
def ocvEnergy (c : StringCfg) (drop a b : Rat) : Rat :=
  if b ≤ a then 0 else sumR (List.range 11) (ocvPart c a b) - drop * (b - a)

/-- The uncertainty of a rest reference at a voltage: 1 % and the voltage error of R76 over the slope (R300). A table without a
slope there says nothing of the charge: the uncertainty is then the whole range. -/
def restUnc (c : StringCfg) (v x : Rat) : Rat :=
  let k := ocvSlope c x
  if k ≤ 0 then 1 else 1 / 100 + (v / 1000 + 1 / 100) / k

/-- The uncertainty of an IR reference (R300): |I| x u_R over the slope, and the rest term. -/
def irUnc (c : StringCfg) (v i r x : Rat) (stale : Bool) : Rat :=
  let k := ocvSlope c x
  if k ≤ 0 then 1 else absR i * (r * (if stale then 2 / 5 else 1 / 5)) / k + restUnc c v x

/-! ### The estimates of a string -/

/-- s_c and u_c (R299). -/
def Str.sc (x : Str) : Rat := if x.cap = 0 then 0 else x.q / x.cap
def Str.uc (x : Str) : Rat := if x.cap = 0 then 1 else x.uq / x.cap

/-- VBAT in volts. -/
def Dev.vbat (d : Dev) (s : Nat) : Rat := (d.get (F.BAT_VBAT_VBAT s) : Rat) / 500

/-- s_v and u_v: the voltage-derived state (R308). -/
def Dev.sv (d : Dev) (s : Nat) (c : StringCfg) : Rat := ocvInv c (d.vbat s - (d.str s).lastI * (d.str s).res)
def Dev.uv (d : Dev) (s : Nat) (c : StringCfg) : Rat :=
  irUnc c (d.vbat s) (d.str s).lastI (d.str s).res (d.sv s c) (d.on (F.BAT_FLAGS_REF_STALE s))

/-- s_c and u_c set: the charge counted and its uncertainty follow (R300). -/
def Str.setState (x : Str) (sc u : Rat) : Str := { x with q := sc * x.cap, uq := u * x.cap }

/-- The temperature factor d of R305: 0.5 where both thermistors are faulted (R306). -/
def tempFactor (c : StringCfg) (ta tb : Option Rat) : Rat :=
  let at_ (t : Rat) : Rat :=
    if c.tdFull = c.tdisLo then (if t < c.tdFull then 0 else 1)
    else clampR ((t - c.tdisLo) / ((c.tdFull - c.tdisLo : Int) : Rat)) 0 1
  match ta, tb with
  | some a, some b => at_ (min a b)
  | some a, none => at_ a
  | none, some b => at_ b
  | none, none => 1 / 2

/-- Whether the higher thermistor reads below TDIS_HI (R305); an ignored one does not count (R306). -/
def hotOk (c : StringCfg) (ta tb : Option Rat) : Bool :=
  [ta, tb].all (fun t => match t with
    | some x => decide (x < c.tdisHi)
    | none => true)

/-- Discharge is permitted: the string is present, VBAT above VFLOOR, the higher thermistor below TDIS_HI, d above 0 and DISINH 0 (R305). -/
def Dev.disPermit (d : Dev) (s : Nat) (c : StringCfg) : Bool :=
  let x := d.str s
  d.on (F.BAT_FLAGS_PRESENT s) && decide ((c.vfloor : Rat) / 500 < d.vbat s) && hotOk c x.ta x.tb
    && decide (0 < tempFactor c x.ta x.tb) && !d.on (F.BAT_CTRL_DISINH s)

/-- P_dis,s in watts with a state of charge (R305). -/
def Dev.disLimit (d : Dev) (s : Nat) (c : StringCfg) (soc : Rat) : Rat :=
  let x := d.str s
  let k := tempFactor c x.ta x.tb
  let vf : Rat := (c.vfloor : Rat) / 500
  if d.disPermit s c then
    let sag := if x.res = 0 then (c.pdmax : Rat) / 1000 else vf * (ocvAt c soc - vf) / (12 / 10 * x.res)
    max 0 (min ((c.pdmax : Rat) / 1000 * k) sag)
  else 0

/-- The floor state s_f at a discharge limit (R303). -/
def floorState (c : StringCfg) (p r : Rat) : Rat :=
  let vf : Rat := (c.vfloor : Rat) / 500
  if vf = 0 then 0 else ocvInv c (vf + p / vf * r)

/-- Charge is permitted (R302, R306, R311). -/
def Dev.chgPermit (d : Dev) (s : Nat) : Bool :=
  d.on (F.BAT_FLAGS_PRESENT s) && !(d.str s).tForbid && !d.on (F.BAT_CTRL_CHGINH s) && !d.on (F.BAT_FLAGS_RESTREQ s)

/-- The permission byte as it stands (R307). -/
def Dev.permByte (d : Dev) (s : Nat) : Nat := (d.on (F.BAT_FLAGS_CHGOK s)).toNat + 2 * (d.on (F.BAT_FLAGS_DISOK s)).toNat

/-- The permission byte queued to the string unit (R307). -/
def Dev.permWrite (d : Dev) (s : Nat) : Dev :=
  let p := d.permByte s
  let d := d.modStr s (fun x => { x with perm := some p, permAt := d.loop + sec })
  match (d.strCfg s).bind (·.unit) with
  | some (bus, addr, code) => d.twbPut bus { src := .bat s, addr := addr, ops := [.raw code 1 [p]] }
  | none => d

/-- The permissions brought up to what forbids them; a change is written at once (R307). -/
def Dev.showPerm (d : Dev) (s : Nat) : Dev :=
  let chg := d.chgPermit s
  let d := d.setB (F.BAT_FLAGS_CHGOK s) chg
  let bad := !chg && (match d.strCfg s with
    | some c => decide (c.irest < (d.str s).lastI)
    | none => false)
  let d := d.modStr s (fun x => { x with
    chgBadSince := if bad then (if x.chgBadSince.isSome then x.chgBadSince else some d.loop) else none })
  if (d.str s).perm = some (d.permByte s) then d else d.permWrite s

/-- The confidence: CONF0 x (1 - age / 7 days), floor 0; and the age in hours (R301). -/
def Dev.showConf (d : Dev) (s : Nat) : Dev :=
  let x := d.str s
  let age := d.loop - x.refAt
  let week := 604800 * sec
  d.set (F.BAT_FLAGS_CONF s) (x.conf0 * (week - min age week) / week) |>.set (F.BAT_RINT_AGE s) (min 0xFFFF (age / (3600 * sec)))

/-! ### The vault record (R310) -/

/-- The bytes of a learned-values record but its CRC. -/
def Dev.batBytes (d : Dev) (s : Nat) : List Nat :=
  let x := d.str s
  let mah (q : Rat) : Nat := floorN (q * 1000 / 3600)
  let ucap := if x.cap = 0 then 0 else min 0xFFFF (floorN (x.ucap * 1000 / x.cap))
  le 2 0x424C ++ [1, s] ++ le 4 (x.count + 1) ++ le 8 d.tim ++ le 4 (mah x.cap) ++ le 2 ucap
    ++ le 2 (min 0xFFFF (floorN (x.res * 10000))) ++ le 4 (d.get F.FAB_RUN_ID_LO_ID)

/-- A learned-values record written, or held in the string's one-deep buffer while the vault may not be written (R310). -/
def Dev.batRecord (d : Dev) (s : Nat) : Dev :=
  let bytes := d.batBytes s
  let d := d.modStr s (fun x => { x with stored := x.res })
  if d.vault.forbidden || (d.str s).busy then
    (d.modStr s (fun x => { x with wait := some bytes })).setB (F.BAT_FLAGS_PENDING s) true
  else
    let slot := 1 - (d.str s).slot
    let d := d.modStr s (fun x => { x with busy := true, slot := slot, count := x.count + 1 })
    d.vaultPut { addr := 0xB00 + 0x40 * s + 0x20 * slot, bytes := bytes ++ le 4 (crc32 bytes), kind := .battery s }

/-! ### One result (R298 to R308) -/

/-- The learned values shown. -/
def Dev.showLearn (d : Dev) (s : Nat) : Dev :=
  let x := d.str s
  d.set (F.BAT_LEARN_CAP s) (floorN (x.cap * 1000 / 3600))
    |>.set (F.BAT_LEARN_UCAP s) (if x.cap = 0 then 0 else floorN (x.ucap * 1000 / x.cap))
    |>.set (F.BAT_RINT_RINT s) (floorN (x.res * 10000))

/-- The limit, the floor, the reported figures and the energy formed, and the two estimates judged (R303 to R305, R308). -/
def Dev.batForm (d : Dev) (s : Nat) (c : StringCfg) : Dev :=
  let x := d.str s
  let v := d.vbat s
  let vf : Rat := (c.vfloor : Rat) / 500
  let incons := d.on (F.BAT_FLAGS_INCONSISTENT s)
  let sv := d.sv s c
  let uv := d.uv s c
  let p0 := d.disLimit s c (if incons then sv else x.sc)
  let sf0 := floorState c p0 x.res
  let low := decide (v ≤ vf)
  let empty := decide (x.sc - x.uc ≤ sf0) && decide (sf0 + 5 / 100 < sv - uv) && !low
  let floorBad := low && decide (sf0 + 5 / 100 < x.sc - x.uc)
  let now := x.est && !incons && (empty || floorBad)
  let byV := incons || now
  let p := if now then d.disLimit s c sv else p0
  let sf := floorState c p x.res
  let (st, u) := if byV then (sv, uv) else (x.sc, x.uc)
  let iref := if vf = 0 then 0 else p / vf
  let e := if low || !d.on (F.BAT_FLAGS_PRESENT s) then 0
    else max 0 ((x.cap - x.ucap) * ocvEnergy c (iref * x.res) sf (st - u))
  let wasLow := d.on (F.BAT_FLAGS_FLOOR s)
  let d := if now then (d.setB (F.BAT_FLAGS_INCONSISTENT s) true).modStr s (fun x => { x with
      anchor := some { s := sv, u := uv, conf := 100, q := x.qAll, uq := x.uqAll, sure := true } }) else d
  let d := d.setB (F.BAT_FLAGS_FLOOR s) low |>.setB (F.BAT_FLAGS_DISOK s) (d.disPermit s c) |>.set (F.BAT_PDIS_PDIS s) (p32 p)
  let d := if sf = 1 then
      { d.set (F.BAT_SOC_SOC s) (if low then 0 else (Config.socAtFloor d.free).toNat)
          |>.set (F.BAT_SOC_UNC s) (Config.socAtFloor (d.free + 1)).toNat with free := d.free + 2 }
    else
      let soc := clampR ((x.sc - sf) / (1 - sf)) 0 1
      let soc := if low then 0 else if empty then 1 / 100 else soc
      (d.set (F.BAT_SOC_SOC s) (roundR (soc * 1000)).toNat).set (F.BAT_SOC_UNC s) (roundR (x.uc / (1 - sf) * 1000)).toNat
  let mj := floorN (e * 1000)
  let d := (d.modStr s (fun x => { x with ebat := mj })).set (F.BAT_EBAT_LO_VALUE s) (mj % 2 ^ 32)
  d.raiseAll ((if low && !wasLow then [srcStr s 1] else []) ++ (if now then [srcStr s 4] else []))

/-- A condition's run: kept or begun, or ended. -/
def since (held : Bool) (t : Option Nat) (now : Nat) : Option Nat := if held then (if t.isSome then t else some now) else none

/-- The thermistors taken, and what they forbid (R306, R314). -/
def Dev.batTemps (d : Dev) (s : Nat) (c : StringCfg) (ta tb : Rat) : Dev :=
  let a := thermistor c.tbeta ta
  let b := thermistor c.tbeta tb
  let l := [a, b].filterMap id
  let fault := a.isNone || b.isNone
  let outside := l.isEmpty || l.any (fun t => decide (t < c.tchLo) || decide ((c.tchHi : Rat) < t))
  let inner := !l.isEmpty && l.all (fun t => decide ((c.tchLo : Rat) + 2 ≤ t) && decide (t ≤ (c.tchHi : Rat) - 2))
  let was := d.on (F.BAT_FLAGS_TFAULT s)
  let d := d.modStr s (fun x => { x with
    ta := a, tb := b, tForbid := x.tForbid || outside, tOkSince := since inner x.tOkSince d.loop })
  let d := match a with
    | some t => d.set (F.BAT_TEMP_TA s) (t12 t)
    | none => d
  let d := match b with
    | some t => d.set (F.BAT_TEMP_TB s) (t12 t)
    | none => d
  let d := d.setB (F.BAT_FLAGS_TFAULT s) fault
  if fault && !was then d.raise (srcStr s 3) else d

/-- The coarse magnitude check: a current at or above ISLOW returns the converter to its fast rate (R298). -/
def Dev.coarse (d : Dev) (s : Nat) (uA : Int) : Dev :=
  match d.strCfg s with
  | none => d
  | some c => if c.islow ≤ absR ((uA : Rat) / 1000000) then d.setB (F.BAT_FLAGS_SLOW s) false else d

/-! ### Reference points and what is learned (R300 to R302, R309) -/

/-- A rest request ended: the permission byte is restored (R302). -/
def Dev.restEnd (d : Dev) (s : Nat) : Dev :=
  (((d.modStr s (fun x => { x with reqAt := none })).setB (F.BAT_FLAGS_RESTREQ s) false).setB (F.BAT_CTRL_REST s) false).showPerm s

/-- A reference point taken as an anchor for the next capacity. -/
def Str.mark (x : Str) (st u : Rat) (conf : Nat) : Str :=
  { x with anchor := some { s := st, u := u, conf := conf, q := x.qAll, uq := x.uqAll, sure := false } }

/-- A rest reference (R300, R302). -/
def Dev.restReference (d : Dev) (s : Nat) : Dev :=
  match d.strCfg s with
  | none => d
  | some c =>
    if (d.str s).est && due ((d.str s).restSince.map (· + c.trest * 60 * sec)) d.loop then
      let st := ocvInv c (d.vbat s)
      let u := restUnc c (d.vbat s) st
      let d := d.modStr s (fun x => { (((x.setState st u).mark st u 100)) with refAt := d.loop, conf0 := 100, restSince := some d.loop })
      let d := (d.setB (F.BAT_FLAGS_REF_STALE s) false).inc F.BAT_COUNTS_RESTS
      let d := if d.on (F.BAT_FLAGS_RESTREQ s) then d.restEnd s else d
      (d.batForm s c).showConf s |>.showPerm s
    else d

/-- A full reference: a capacity is learned first, then s_c is anchored at 1.0 (R300, R309). The rest or IR reference from which it was learned
stays the last one. -/
def Dev.fullReference (d : Dev) (s : Nat) : Dev :=
  match d.strCfg s with
  | none => d
  | some c =>
    let x := d.str s
    if x.est && due (x.fullSince.map (· + 600 * sec)) d.loop then
      let learn : Option (Rat × Rat) := match x.anchor with
        | some a =>
          if (a.sure || (decide (a.s ≤ 7 / 10) && decide (50 ≤ a.conf))) && decide (a.s < 1) then
            some ((x.qAll - a.q) / (1 - a.s), Config.capUncertainty a.u (x.uqAll - a.uq))
          else none
        | none => none
      let d := match learn with
        | some (cn, un) =>
          let d := d.modStr s (fun x => { x with cap := cn, ucap := un })
          (d.setB (F.BAT_FLAGS_INCONSISTENT s) false).batRecord s
        | none => d
      let d := d.modStr s (fun x => { (x.setState 1 (5 / 1000)) with fullSince := some d.loop })
      ((d.batForm s c).showLearn s).showPerm s
    else d

/-- Whether the current has changed by less than 5 % in the last 10 minutes: its highest and lowest value differ by less than 5 % of the present
one (R300; log entry 86). -/
def Str.steady (x : Str) : Bool :=
  let hi := (x.irHi.getLast?.map (·.2)).getD x.lastI
  let lo := (x.irLo.getLast?.map (·.2)).getD x.lastI
  decide ((hi - lo) * 20 < absR x.lastI) || decide (hi = lo)

/-- An IR reference, taken only where it is surer than the count (R300): no rest for 10 minutes, a current that has been steady for as long, and
that is at most 0.2 x CNOM per hour. -/
def Dev.irReference (d : Dev) (s : Nat) : Dev :=
  match d.strCfg s with
  | none => d
  | some c =>
    let x := d.str s
    if x.est && due (x.irSince.map (· + 600 * sec)) d.loop && x.steady && decide (absR x.lastI ≤ c.cnom / 3600 / 5) then
      let u := d.uv s c
      let st := d.sv s c
      let d := d.modStr s (fun x => { x with irSince := some d.loop })
      if u < x.uc then
        ((d.modStr s (fun x => (x.setState st u).mark st u (d.get (F.BAT_FLAGS_CONF s)))).batForm s c).showPerm s
      else d
    else d

/-- 7 days without a rest reference: REF_STALE and REFSTALE (R301). -/
def Dev.refStale (d : Dev) (s : Nat) : Dev :=
  if (d.strCfg s).isSome && (d.str s).est && decide ((d.str s).refAt + 604800 * sec ≤ d.loop) && !d.on (F.BAT_FLAGS_REF_STALE s) then
    ((d.setB (F.BAT_FLAGS_REF_STALE s) true).showConf s).raise (srcStr s 5)
  else d

/-- BAT.n.CTRL.REST written: one string rests at a time (R302). -/
def Dev.restRequest (d : Dev) (s : Nat) (v : Bool) : Dev :=
  if (d.strCfg s).isNone then d
  else if !v then (if d.on (F.BAT_FLAGS_RESTREQ s) then d.restEnd s else d.setB (F.BAT_CTRL_REST s) false)
  else if (List.range 4).any (fun k => k != s && d.on (F.BAT_FLAGS_RESTREQ k)) then
    (d.inc F.BAT_COUNTS_OVERRULED).note 3 (F.BAT_CTRL_REST s).addr 1 (d.plainWord (F.BAT_CTRL_REST s).addr)
  else if d.on (F.BAT_FLAGS_RESTREQ s) then d
  else
    let d := d.modStr s (fun x => { x with reqAt := some (d.loop + 7200 * sec) })
    ((d.setB (F.BAT_FLAGS_RESTREQ s) true).setB (F.BAT_CTRL_REST s) true).showPerm s

/-- A rest request that has stood for 2 hours ends (R302). -/
def Dev.restTimeout (d : Dev) (s : Nat) : Dev := if due (d.str s).reqAt d.loop then d.restEnd s else d

/-! ### Permissions (R306, R307) -/

/-- Every second the permission byte is written again (R307). -/
def Dev.permRepeat (d : Dev) (s : Nat) : Dev :=
  if (d.strCfg s).isSome && (d.str s).perm.isSome && decide ((d.str s).permAt ≤ d.loop) then d.permWrite s else d

/-- Charge current has flowed for 10 s while charge is forbidden: CHGFORBID (R307). -/
def Dev.chgForbid (d : Dev) (s : Nat) : Dev :=
  if due ((d.str s).chgBadSince.map (· + 10 * sec)) d.loop then d.raise (srcStr s 2) else d

/-- Both thermistors have been inside the narrowed range for 60 s: charge is permitted again (R306). -/
def Dev.chargeRepermit (d : Dev) (s : Nat) : Dev :=
  if (d.str s).tForbid && due ((d.str s).tOkSince.map (· + 60 * sec)) d.loop then
    (d.modStr s (fun x => { x with tForbid := false })).showPerm s
  else d

/-! ### Absence and first estimates (R311, R312) -/

/-- BVnn has been below 10 % of VFLOOR for 10 ms: the string is absent (R311). -/
def Dev.strAbsent (d : Dev) (s : Nat) : Dev :=
  if (d.strCfg s).isSome && !(d.str s).absent && due ((d.str s).absSince.map (· + 10 * ms)) d.loop then
    let d := d.modStr s (fun x => { x with absent := true, goneAt := d.loop, ebat := 0, estSince := none })
    let d := d.setB (F.BAT_FLAGS_PRESENT s) false |>.setB (F.BAT_FLAGS_DISOK s) false |>.set (F.BAT_PDIS_PDIS s) 0
      |>.set (F.BAT_EBAT_LO_VALUE s) 0
    (d.showPerm s).raise (srcStr s 0)
  else d

/-- A new string: rated capacity and resistance, a record, and a first estimate to be made, of an absent string once it is present (R312). -/
def Dev.newString (d : Dev) (s : Nat) (c : StringCfg) : Dev :=
  let here := d.on (F.BAT_FLAGS_PRESENT s)
  let d := d.modStr s (fun x => { x with
    cap := c.cnom, ucap := c.cnom / 10, res := c.rint, steps := [], anchor := none
    est := x.est && here, estSince := if here then some d.loop else none })
  (d.batRecord s).showLearn s

/-- BVnn has been above the level for 10 ms: the string is present again; an absence of TSWAP or longer makes a new string
(R311, R312). -/
def Dev.strPresent (d : Dev) (s : Nat) : Dev :=
  match d.strCfg s with
  | none => d
  | some c =>
    if !d.on (F.BAT_FLAGS_PRESENT s) && due ((d.str s).presSince.map (· + 10 * ms)) d.loop then
      let x := d.str s
      let d := (d.setB (F.BAT_FLAGS_PRESENT s) true).modStr s (fun x => { x with absent := false })
      let d := if x.absent && decide (x.goneAt + c.tswap * sec ≤ d.loop) then d.newString s c
        else d.modStr s (fun x => { x with estSince := if x.est then none else some d.loop })
      (d.batForm s c).showPerm s
    else d

/-- BAT.n.CTRL.NEWSTRING written 1 (R312). -/
def Dev.newStringWrite (d : Dev) (s : Nat) : Dev :=
  match d.strCfg s with
  | none => d
  | some c => d.newString s c

/-- 100 ms of results: the first estimate, with the voltage-derived state (R312). -/
def Dev.firstEstimate (d : Dev) (s : Nat) : Dev :=
  match d.strCfg s with
  | none => d
  | some c =>
    if due ((d.str s).estSince.map (· + 100 * ms)) d.loop then
      let st := d.sv s c
      let u := d.uv s c
      let d := d.modStr s (fun x => { (x.setState st u) with est := true, estSince := none, conf0 := 50, refAt := d.loop })
      (((d.setB (F.BAT_FLAGS_REF_STALE s) false).batForm s c).showConf s).showPerm s
    else d

/-! ### One result taken in (R298 to R308) -/

/-- R as it is stored: written when it differs by more than 5 % from the stored value, and no more than once an hour (R310). -/
def Dev.resRecord (d : Dev) (s : Nat) : Dev :=
  let x := d.str s
  let old := match x.resAt with
    | some t => decide (t + 3600 * sec ≤ d.loop)
    | none => true
  if x.est && old && decide (x.stored * (5 / 100) < absR (x.res - x.stored)) then
    (d.modStr s (fun x => { x with resAt := some d.loop })).batRecord s
  else d

/-- A step of the current within 1 ms of at least 10 % of CNOM per hour gives a resistance; R is the mean of the last 32 (R309). The step is
taken from the result of the last 1 ms that lies furthest away, and a step taken begins the millisecond anew: the model's reading (log entry
87). -/
def Dev.batRes (d : Dev) (s : Nat) (c : StringCfg) (i : Rat) (v t : Nat) : Dev :=
  let l := (d.str s).recent.filter (fun y => decide (t < y.1 + ms))
  let far := l.foldl (fun (a : Option (Nat × Rat × Nat)) y => match a with
    | some z => if absR (i - z.2.1) < absR (i - y.2.1) then some y else a
    | none => some y) none
  let keep := ((t, i, v) :: l).take 32
  match far with
  | none => d.modStr s (fun x => { x with recent := keep })
  | some y =>
    let di := i - y.2.1
    if decide (c.cnom / 3600 / 10 ≤ absR di) && decide (0 < absR di) && (d.str s).est then
      d.modStr s (fun x =>
        let steps := (((v : Rat) - y.2.2) / 500 / di :: x.steps).take 32
        { x with steps := steps, res := meanR steps, recent := [(t, i, v)] })
    else d.modStr s (fun x => { x with recent := keep })

/-- The highest, or with `lo` the lowest, currents of the last 10 minutes as they may still count: a new one ends what it surpasses (R300). -/
def extremes (lo : Bool) (t : Nat) (i : Rat) (l : List (Nat × Rat)) : List (Nat × Rat) :=
  (t, i) :: (l.dropWhile (fun y => if lo then decide (i ≤ y.2) else decide (y.2 ≤ i))).filter (fun y => decide (t < y.1 + 600 * sec))

/-- The conditions of a string that have run their time when a result arrives take effect before it can end them (R17). `t` is the
result's sample tick. -/
def Dev.batRuns (d : Dev) (s : Nat) (c : StringCfg) (t : Nat) : Dev :=
  let x := d.str s
  let ran (r : Option Nat) (n : Nat) : Bool := due (r.map (· + n)) t
  let d := if ran x.restSince (c.trest * 60 * sec) then d.restReference s else d
  let d := if ran x.fullSince (600 * sec) then d.fullReference s else d
  let d := if ran x.irSince (600 * sec) then d.irReference s else d
  let d := if ran x.absSince (10 * ms) then d.strAbsent s else d
  let d := if ran x.presSince (10 * ms) then d.strPresent s else d
  let d := if ran x.chgBadSince (10 * sec) then d.chgForbid s else d
  if ran x.tOkSince (60 * sec) then d.chargeRepermit s else d

/-- A coulomb-counter result: the charge, its uncertainty, and all that is formed at a result (R298, R299, R303 to R308); the thermistors as
16-bit codes of their ratio to MREF (R76). Its sample tick is the end of the interval that it integrated, 2 ticks before it reaches LOOP (R26,
R298), on a duplex device 32 more (R359). -/
def Dev.batResult (d : Dev) (s : Nat) (uA : Int) (dt v ta tb : Nat) : Dev :=
  match d.strCfg s with
  | none => d
  | some c =>
    let i : Rat := (uA : Rat) / 1000000
    let t : Rat := (dt : Rat) / 200000000
    let g := (if c.rshunt = 0 then 0 else 1 / 1000000 / c.rshunt) * t + absR (i * t) / 1000
    let at_ := d.loop - (2 + d.lag)
    let d := ((d.batRuns s c at_).batRes s c i v at_).resRecord s
    let rest := decide (absR i ≤ c.irest)
    let lowV := decide ((v : Rat) * 10 < c.vfloor)
    let highV := decide ((c.vfloor : Rat) < v * 10)
    let d := d.modStr s (fun x => { x with
      q := x.q + i * t, qAll := x.qAll + i * t, uq := x.uq + g, uqAll := x.uqAll + g, lastI := i, lastV := v, lastAt := at_
      restSince := since rest x.restSince at_
      fullSince := since (decide (c.vfull ≤ v) && decide (0 < i) && decide (i < c.ifull)) x.fullSince at_
      irSince := since (!rest) x.irSince at_, irHi := extremes false at_ i x.irHi, irLo := extremes true at_ i x.irLo
      absSince := since lowV x.absSince at_, presSince := since highV x.presSince at_
      estSince := if x.estSince.isNone && !x.est && d.on (F.BAT_FLAGS_PRESENT s) then some at_ else x.estSince })
    let d := d.set (F.BAT_IBAT_I s) (ofSigned 32 (roundR (i * 1000))) |>.set (F.BAT_VBAT_VBAT s) v
      |>.set (F.BAT_VBAT_VOC s) (min 65535 (floorN ((v : Rat) - i * (d.str s).res * 500)))
      |>.setB (F.BAT_FLAGS_RESTING s) rest |>.setB (F.BAT_FLAGS_SLOW s) (decide (absR i < c.islow))
    ((((d.batTemps s c ((ta : Rat) / 65536) ((tb : Rat) / 65536)).batForm s c).showLearn s).showConf s).showPerm s

/-- The latest valid record of a string in the vault: slot, count, and the values it holds (R310). -/
def Dev.batStored (d : Dev) (s : Nat) : Option (Nat × Nat × List Nat) :=
  let at_ (k : Nat) : Option (Nat × Nat × List Nat) :=
    let b := d.vaultBytes (0xB00 + 0x40 * s + 0x20 * k) 32
    if fromLe (b.take 2) = 0x424C ∧ fromLe (b.drop 28) = crc32 (b.take 28) then some (k, fromLe ((b.drop 4).take 4), b) else none
  match at_ 0, at_ 1 with
  | some a, some b => if a.2.1 < b.2.1 then some b else some a
  | some a, none => some a
  | none, b => b

/-- A configured string at a cold start: the vault's values where their RUN_ID matches, else the rated ones (R312). -/
def Dev.strStart (d : Dev) (c : StringCfg) : Dev :=
  let s := c.string
  let d := match d.batStored s with
    | some (k, n, b) =>
      let w (o m : Nat) : Nat := fromLe ((b.drop o).take m)
      let d := d.modStr s (fun x => { x with slot := k, count := n })
      if w 24 4 = d.get F.FAB_RUN_ID_LO_ID then
        let cap : Rat := (w 16 4 : Rat) * 3600 / 1000
        d.modStr s (fun x => { x with
          cap := cap, ucap := cap * (w 20 2 : Rat) / 1000, res := (w 22 2 : Rat) / 10000, stored := (w 22 2 : Rat) / 10000 })
      else d.modStr s (fun x => { x with cap := c.cnom, ucap := c.cnom / 10, res := c.rint })
    | none => d.modStr s (fun x => { x with cap := c.cnom, ucap := c.cnom / 10, res := c.rint })
  d.showLearn s

end Sys2Proof.Machine
end

