-- ==== Sys2Proof/Machine/Thermal.lean ====
section
/-! DEFINITION. THM: readings, thresholds, throttle, the shutdown paths and their restart windows, and the inhibition of vault
writes (spec/15_thermal.md). Temperatures are in sixteenths of a degree. -/

namespace Sys2Proof.Machine

/-- Sensor `n`. -/
def Dev.sensor (d : Dev) (n : Nat) : Sensor := d.sensors[n]?.getD {}

/-- Sensor `n` changed. -/
def Dev.modSensor (d : Dev) (n : Nat) (f : Sensor → Sensor) : Dev :=
  { d with sensors := d.sensors.setIfInBounds n (f (d.sensor n)) }

/-- What the SAFE domain holds changed. -/
def Dev.modSafe (d : Dev) (f : SafeThm → SafeThm) : Dev := { d with safeThm := f d.safeThm }

/-- The THERMAL record of a used sensor. -/
def Dev.thermCfg (d : Dev) (n : Nat) : Option ThermCfg := d.cfg.therm.find? (fun c => c.sensor == n)

/-- RESTART of the fixed backstops, and their window in seconds (R348). -/
def fixRestart : Int := 1840
def fixDelay : Nat := 10

/-! ### Throttle (R344, R345) -/

/-- The sensors whose throttle is in force. -/
def Dev.throttles (d : Dev) : List ThermCfg := d.cfg.therm.filter (fun c => d.bit F.THM_STATUS_THRACT c.sensor)

/-- The thermal terms of the Benches, in percent of ILIM, and the THROTTLE_N lines as the throttles in force stand: the lowest term applies. -/
def Dev.showThrottle (d : Dev) : Dev :=
  let l := d.throttles
  let d := d.set F.THM_STATUS_THRLINES (l.foldl (fun a c => a ||| c.thrMask) 0)
  let d := Dev.each (List.range 16) (fun n d =>
    let t := l.foldl (fun (a : Option Nat) c => if c.benches.testBit n then some (match a with
      | some x => min x c.tder
      | none => c.tder) else a) none
    d.modBench n (fun b => { b with thmLim := t })) d
  d.showCap

/-- A crossing with two readings each way: the new state of a threshold and its two runs (R342). -/
def crossing (act : Bool) (above below : Bool) (up dn : Nat) : Bool × Nat × Nat :=
  let up := if above then up + 1 else 0
  let dn := if below then dn + 1 else 0
  (if act then !decide (2 ≤ dn) else decide (2 ≤ up), up, dn)

/-! ### Shutdown (R346 to R348) -/

/-- The shutdown source of sensor `n` judged in LOOP. -/
def srcShut (n : Nat) : Nat := if n < 2 then 626 else 628 + (n - 2)

/-- A shutdown on sensor `n`: its cause is present, and its source is raised. -/
def Dev.shutNow (d : Dev) (n : Nat) (fix : Bool) : Dev :=
  if (d.sensor n).shut then d.modSensor n (fun x => { x with byFix := x.byFix && fix })
  else
    let d := d.modSensor n (fun x => { x with shut := true, byFix := fix, restEnd := none })
    ((d.setBit F.THM_STATUS_SHUTACT n true).inc F.THM_COUNTS_SHUTDOWNS).raise (srcShut n)

/-- The restart window of sensor `n` after a reading: begun below RESTART, restarted at or above it, where what raised the shutdown judges:
THM, or from CLK READY the fixed backstop (R346, R348). -/
def Dev.restartRun (d : Dev) (n : Nat) : Dev :=
  let x := d.sensor n
  if !x.shut || !d.ready (if x.byFix then 0 else 13) then d
  else
    let t12v := d.getS (F.THM_TEMP_T n)
    let (lim, v, dly) := if x.byFix then (fixRestart, x.raw, fixDelay) else (d.eff (F.THM_LIM2_RESTART n), t12v, d.cfg.restdly)
    d.modSensor n (fun x => { x with restEnd := if v < lim then (if x.restEnd.isSome then x.restEnd else some (d.loop + dly * sec)) else none })

/-- A reading judged against WARN, THR and SHUT of its record (R341, R342, R346). -/
def Dev.judgeLimits (d : Dev) (n : Nat) (c : ThermCfg) : Dev :=
  let v := d.getS (F.THM_TEMP_T n)
  let x := d.sensor n
  let hyst : Int := 8 * (c.hyst : Int)
  let warn := d.eff (F.THM_LIM1_WARN n)
  let thr := d.eff (F.THM_LIM1_THR n)
  let (w, wu, wd) := crossing (d.bit F.THM_STATUS_WARNACT n) (decide (warn ≤ v)) (decide (v < warn - hyst)) x.warnRun x.warnClr
  let (t, tu, td) := crossing (d.bit F.THM_STATUS_THRACT n) (decide (thr ≤ v)) (decide (v < thr - hyst)) x.thrRun x.thrClr
  let run := if d.eff (F.THM_LIM2_SHUT n) ≤ v then x.shutRun + 1 else 0
  let none_ := d.get F.THM_STATUS_WARNACT == 0
  let d := d.modSensor n (fun x => { x with warnRun := wu, warnClr := wd, thrRun := tu, thrClr := td, shutRun := run })
  let d := (d.setBit F.THM_STATUS_WARNACT n w).setBit F.THM_STATUS_THRACT n t
  let d := d.showThrottle
  let d := if w && none_ then d.raise 624 else d
  if 2 ≤ run then d.shutNow n false else d

/-! ### The inhibition of vault writes (R201, R274, R310, R350) -/

/-- Records that waited for the vault put into its queue. -/
def Dev.vaultPermit (d : Dev) : Dev :=
  let d : Dev := { d with vault := { d.vault with forbidden := false } }
  let d := d.setB F.THM_STATUS_VAULTINH false
  let d := Dev.each (List.range 16) (fun n d =>
    match (d.bench n).lf with
    | some r =>
      if (d.bench n).lfBusy then d
      else ((d.modBench n (fun b => { b with lf := none, lfBusy := true })).vaultPut (d.lastFaultWrite n r.bytes)).setB
        (F.BEN_LFSTAT_PENDING n) false
    | none => d) d
  let d := Dev.each d.vault.ffWait (fun bytes d => d.firstFailWrite bytes) d
  let d := ({ d with vault := { d.vault with ffWait := [] } }).set F.SEQ_FFSTAT_PENDING 0
  Dev.each (List.range 4) (fun s d =>
    match (d.str s).wait with
    | some bytes =>
      if (d.str s).busy then d
      else
        let slot := 1 - (d.str s).slot
        let d := (d.modStr s (fun x => { x with wait := none, busy := true, slot := slot, count := x.count + 1 })).setB
          (F.BAT_FLAGS_PENDING s) false
        d.vaultPut { addr := 0xB00 + 0x40 * s + 0x20 * slot, bytes := bytes ++ le 4 (crc32 bytes), kind := .battery s }
    | none => d) d

/-- A reading of die sensor `n` judged for the vault: writes are forbidden from a sensor's second reading at 123.5 °C or above, permitted again
from the second of each below 120 °C, so that the hotter one decides (R350). -/
def Dev.vaultJudge (d : Dev) (n : Nat) : Dev :=
  let v := (d.sensor n).raw
  let d := d.modSensor n (fun x => { x with hot := if 1976 ≤ v then x.hot + 1 else 0, cool := if v < 1920 then x.cool + 1 else 0 })
  let cool (k : Nat) : Bool := !(d.sensor k).seen || decide (2 ≤ (d.sensor k).cool)
  let f := if d.vault.forbidden then !(cool 0 && cool 1) else decide (2 ≤ (d.sensor n).hot)
  if f then ({ d with vault := { d.vault with forbidden := true } }).setB F.THM_STATUS_VAULTINH true
  else if d.vault.forbidden then d.vaultPermit
  else d

/-! ### Readings (R339 to R342) -/

/-- A die sensor's reading: the configured thresholds, the fixed backstop of the logic die, and SAFE's run of sensor 1
(R342, R346, R347). -/
def Dev.dieReading (d : Dev) (n : Nat) (v : Int) : Dev :=
  let d := (d.modSensor n (fun x => { x with raw := v, seen := true })).setS (F.THM_TEMP_T n) v
  let d := if d.ready 13 then (match d.thermCfg n with
    | some c => d.judgeLimits n c
    | none => d) else d
  let d :=
    if n = 0 then
      let run := if 2160 ≤ v then (d.sensor 0).fixRun + 1 else 0
      let d := d.modSensor 0 (fun x => { x with fixRun := run })
      if 2 ≤ run ∧ d.ready 0 then d.shutNow 0 true else d
    else
      let s := d.safeThm
      let run := if min 2160 s.shut ≤ v then s.run + 1 else 0
      let dly := max fixDelay s.dly
      d.modSafe (fun s => { s with
        run := run
        restEnd := if s.asserted && decide (v < min fixRestart s.restart) then
          (if s.restEnd.isSome then s.restEnd else some (d.now + dly * sec)) else none })
  (d.restartRun n).vaultJudge n

/-- An external sensor's ratio, in 65,536ths: a ratio out of range faults it, and a faulted sensor is not judged and throttles as if THR
were crossed; a restart window does not run on through readings that are not below RESTART (R340, R348). -/
def Dev.extReading (d : Dev) (n : Nat) (ratio : Int) : Dev :=
  match d.thermCfg n with
  | none => d
  | some c =>
    let beta := ((d.cfg.tsens.find? (fun x => x.sensor == n)).map (·.beta)).getD 0
    match thermistor beta ((ratio : Rat) / 65536) with
    | none =>
      let was := d.on (F.THM_TEMP_FAULT n)
      let any := (List.range 6).any (fun k => d.on (F.THM_TEMP_FAULT k))
      let d := (d.setB (F.THM_TEMP_FAULT n) true).modSensor n (fun x => { x with
        backAt := none, warnRun := 0, warnClr := 0, thrRun := 0, thrClr := 0, shutRun := 0, restEnd := none })
      if was then d
      else
        let d := ((d.setBit F.THM_STATUS_THRACT n true).setBit F.THM_STATUS_WARNACT n false).showThrottle
        if any then d else d.raise 625
    | some t =>
      let v := roundR (t * 16)
      let d := (d.modSensor n (fun x => { x with raw := v, seen := true })).setS (F.THM_TEMP_T n) v
      if d.on (F.THM_TEMP_FAULT n) then
        d.modSensor n (fun x => { x with backAt := if x.backAt.isSome then x.backAt else some (d.loop + sec) })
      else
        let d := if d.ready 13 then d.judgeLimits n c else d
        d.restartRun n

/-- A faulted sensor back in range for 1 s stops counting (R340). -/
def Dev.xsensorBack (d : Dev) (n : Nat) : Dev :=
  if d.on (F.THM_TEMP_FAULT n) && due (d.sensor n).backAt d.loop then
    let d := (d.modSensor n (fun x => { x with backAt := none })).setB (F.THM_TEMP_FAULT n) false
    (d.setBit F.THM_STATUS_THRACT n false).showThrottle
  else d

/-- The SAFE shutdown line as SAFE drives it: on thermal shutdown and on loss of the LOOP clock (R327). -/
def Dev.showSafeLine (d : Dev) : Dev :=
  let t := d.safeThm.asserted
  ({ d with safeLine := t || d.asyncLow }).setB F.THM_STATUS_SAFELINE t

/-- SAFE's second reading over its threshold: the SAFE shutdown line is asserted, and the source is raised (R346, R347). -/
def Dev.safeShut (d : Dev) : Dev :=
  if d.safeThm.asserted || decide (d.safeThm.run < 2) then d
  else
    let d := (d.modSafe (fun s => { s with asserted := true, restEnd := none })).showSafeLine
    (d.fwPulse 67).raise 627

/-- A restart window has ended: the shutdown's cause is gone, and SAFE releases its line (R348). -/
def Dev.restartEnd (d : Dev) (n : Nat) : Dev :=
  let d := if (d.sensor n).shut && due (d.sensor n).restEnd d.loop then
      (d.modSensor n (fun x => { x with shut := false, byFix := false, restEnd := none })).setBit F.THM_STATUS_SHUTACT n false
    else d
  if n = 1 && d.safeThm.asserted && due d.safeThm.restEnd d.now then
    (d.modSafe (fun s => { s with asserted := false, restEnd := none })).showSafeLine
  else d

/-- A temperature reading: sixteenths of a degree on a die, a ratio in 65,536ths on an external sensor (R339). A window that ends in its tick
has run whole before it (R17). -/
def Dev.thmReading (d : Dev) (n : Nat) (v : Int) : Dev :=
  let d := (d.restartEnd n).xsensorBack n
  if n < 2 then d.dieReading n v else d.extReading n v

/-- What remains of a restart window in seconds, upward; one that has not begun counts at its full length. -/
def windowLeft (t : Option Nat) (full now : Nat) : Nat :=
  match t with
  | some e => (e - now + sec - 1) / sec
  | none => full

/-- THM.RESTLEFT.SECONDS. -/
def Dev.wRestLeft (d : Dev) : Nat :=
  let a := (List.range 6).foldl (fun m n =>
    let x := d.sensor n
    if x.shut then max m (windowLeft x.restEnd (if x.byFix then fixDelay else d.cfg.restdly) d.loop) else m) 0
  if d.safeThm.asserted then max a (windowLeft d.safeThm.restEnd (max fixDelay d.safeThm.dly) d.now) else a

/-! ### Limit writes (R343, R346) -/

/-- A threshold written, held at its THERMAL value. -/
def Dev.thmField (d : Dev) (f : Fld) (v : Nat) (top : Int) : Dev × Bool :=
  let i := toSigned 12 v
  let h := min (d.hold f i) top
  (d.setS f h, h != i)

/-- THM.n.LIM1 or LIM2 written (R343); sensor 1's SHUT and RESTART follow into SAFE (R346). -/
def Dev.thmLimWrite (d : Dev) (n reg w : Nat) : Dev :=
  match d.thermCfg n with
  | none => d
  | some c =>
    let (lo, hi, a, b) := if reg = 0 then (F.THM_LIM1_WARN n, F.THM_LIM1_THR n, c.warn, c.thr)
      else (F.THM_LIM2_SHUT n, F.THM_LIM2_RESTART n, c.shut, c.restart)
    let (d, h1) := d.thmField lo (w % 4096) a
    let (d, h2) := d.thmField hi (w / 65536 % 4096) b
    let d := if reg ≠ 0 ∧ n = 1 then
        d.modSafe (fun s => { s with shut := d.eff (F.THM_LIM2_SHUT 1), restart := d.eff (F.THM_LIM2_RESTART 1) })
      else d
    if h1 || h2 then (d.inc F.THM_COUNTS_OVERRULED).note 1 lo.addr w (d.plainWord lo.addr) else d

/-- The thresholds that a commit gives THM (R341). -/
def Dev.thmCommit (d : Dev) : Dev :=
  Dev.each d.cfg.therm (fun c d =>
    d.setS (F.THM_LIM1_WARN c.sensor) c.warn |>.setS (F.THM_LIM1_THR c.sensor) c.thr |>.setS (F.THM_LIM2_SHUT c.sensor) c.shut
      |>.setS (F.THM_LIM2_RESTART c.sensor) c.restart) d

/-- A field held at its THERMAL value, which DEFAULTS may lower (R343). -/
def Dev.thmHold (d : Dev) (f : Fld) (top : Int) : Dev := d.setS f (min (d.getS f) top)

/-- The thresholds after DEFAULTS, none above its THERMAL value, and what SAFE holds of sensor 1: the values in effect (R343, R346). -/
def Dev.thmSettle (d : Dev) : Dev :=
  let d := Dev.each d.cfg.therm (fun c d =>
    d.thmHold (F.THM_LIM1_WARN c.sensor) c.warn |>.thmHold (F.THM_LIM1_THR c.sensor) c.thr |>.thmHold (F.THM_LIM2_SHUT c.sensor) c.shut
      |>.thmHold (F.THM_LIM2_RESTART c.sensor) c.restart) d
  match d.thermCfg 1 with
  | some _ => d.modSafe (fun s => { s with
      shut := d.eff (F.THM_LIM2_SHUT 1), restart := d.eff (F.THM_LIM2_RESTART 1), dly := d.cfg.restdly })
  | none => d

end Sys2Proof.Machine
end

