-- ==== Sys2Proof/Machine/Duplex.lean ====
section
/-! DEFINITION. DPX: the states of a duplex device, lockstep, the referee lines, and the change of roles
(spec/16_duplex_pair.md). -/

namespace Sys2Proof.Machine

/-- The states of a duplex device (R355). -/
def dpxResolve : Nat := 0
def dpxSync : Nat := 1
def dpxStandby : Nat := 2
def dpxActive : Nat := 3
def dpxSplit : Nat := 4
def dpxSolo : Nat := 5
def dpxFenced : Nat := 6

/-- What DPX holds changed. -/
def Dev.modDpx (d : Dev) (f : Dpx → Dpx) : Dev := { d with dpx := f d.dpx }

/-- An item that a frame to the partner carries, with its arrival tick (R358). -/
def Dev.tellAt (d : Dev) (t : Nat) (i : PeerItem) : Dev :=
  if d.cfg.duplex.isSome then d.modDpx (fun x => { x with give := x.give ++ [(t, i)] }) else d

/-- An item of this tick for the partner (R151, R358). -/
def Dev.tell (d : Dev) (i : PeerItem) : Dev := d.tellAt d.loop i

/-- An item that waits here for its use tick `t` (R359). -/
def Dev.queueItem (d : Dev) (t : Nat) (i : PeerItem) : Dev := d.modDpx (fun x => { x with items := x.items ++ [(t, i)] })

/-- This device's state. -/
def Dev.dpxState (d : Dev) : Nat := d.get F.DPX_STATUS_STATE

/-- The arbiter (R366): 0 NONE, 1 PINS, 2 MANAGER. -/
def Dev.arbiter (d : Dev) : Nat := (d.cfg.duplex.map (·.arbiter)).getD 0

/-- A duplex-configured device. -/
def Dev.isDuplex (d : Dev) : Bool := d.cfg.duplex.isSome

/-- The condition of a pin that a swap has removed from its Bench: it runs on until its phase is shed, and is then Z while the Bench's updates
run; PASSIVE otherwise (R149, R176). -/
def Dev.leftCond (d : Dev) (p : Nat) : Cond :=
  ((List.range 16).findSome? (fun n => if d.updating n then ((d.bench n).left.find? (fun x => x.pin == p)).map (·.condAt d.loop)
    else none)).getD .passive

/-- The drive condition that the LOOP blocks and the fast matrix command for a PWM pin (R44, R323, R324, R327): of its Bench's phase, of a forced
Bench, of a pin that a swap removed, of the fast matrix, or LOW through the SAFE shutdown line (R325, R327). -/
def Dev.pinDriven (d : Dev) (p : Nat) : Cond :=
  if d.safeHeld && !d.rst.cold then .low
  else match d.phaseOfPin p with
    | some (n, i) =>
      let b := d.bench n
      if d.get (F.BEN_STATUS_STATE n) = BState.forced.code then (if d.forcedZ n then .z else .low)
      else match d.matrixCond n, b.phases[i]? with
        | some c, _ => c
        | none, some ph =>
          if b.zTick == some d.loop && !ph.dropped then .z
          else if b.psRun && ph.cond == .low && decide (b.psPulseEnd ≤ d.loop) && b.psTested.contains i then .z
          else ph.condAt d.loop
        | none, none => .passive
    | none => d.leftCond p

/-- The drive condition of a PWM pin as it stands now: OFF on a duplex device that does not drive (R356). -/
def Dev.pinCond (d : Dev) (p : Nat) : Cond := if d.isDuplex && !d.drives then .off else d.pinDriven p

/-- A cause to sink REFEREE_REQ_N: in the next tick (R365). -/
def Dev.reqSink (d : Dev) : Dev := d.modDpx (fun x => { x with reqAt := some (d.loop + 1) })

/-- The tick after such a cause: REFEREE_REQ_N is sunk, for 400 ticks (R365). -/
def Dev.reqTick (d : Dev) : Dev :=
  if due d.dpx.reqAt d.loop then
    (d.modDpx (fun x => { x with reqAt := none, reqEnd := some (d.loop + 400) })).setB F.DPX_STATUS_REQ true
  else d

/-- The self-verdict: no HALT in effect but COREECC, PIPE and DIGCHK 0 (R365). Its fall while the device stands in the pair sinks
REFEREE_REQ_N. -/
def Dev.showSelf (d : Dev) : Dev :=
  if !d.isDuplex then d else
  let ok := !d.halted && !d.on F.DPX_STATUS_PIPE && !d.on F.DPX_STATUS_DIGCHK
  let fell := d.on F.DPX_STATUS_SELFOK && !ok
  let st := d.dpxState
  let d := d.setB F.DPX_STATUS_SELFOK ok
  if fell && (st == dpxStandby || st == dpxActive || st == dpxSolo) then d.reqSink else d

/-- A change of role in tick `t`: its tick, its count (R368, R370). -/
def Dev.roleChangeAt (d : Dev) (t : Nat) : Dev :=
  ((d.modDpx (fun x => { x with swHi := t / 2 ^ 32 })).set F.DPX_SWTICK_LO_TICK (t % 2 ^ 32)).inc F.DPX_COUNTS_SWITCHES

/-- A change of role now. -/
def Dev.roleChange (d : Dev) : Dev := d.roleChangeAt d.tim

/-- The keepers of a device in STANDBY take over the shared pins as the partner lets them go, at the levels that both devices command
(R356, R357, R368). -/
def Dev.keepShared (d : Dev) : Dev :=
  d.modDpx (fun x => { x with
    keeper := some (d.loop + 16), keptPwm := (List.range 32).map d.pinDriven, keptGate := (List.range 16).map (fun n => (d.slot n).gate) })

/-- The device put into a state, with DPX READY as the state says (R355), its timers, and its role fault sources. A device that stops
driving leaves its pins to the keepers for 16 ticks, in FENCED too, where the table of R356 has its keepers disabled (R357, R368, R374; log entry
91). A drive that was decided in STANDBY is not lost where lockstep ends before it (R368). -/
def Dev.dpxGo (d : Dev) (st : Nat) : Dev :=
  let was := d.drives
  let pwm := (List.range 32).map d.pinCond
  let gates := (List.range 16).map (fun n => (d.slot n).gate)
  let d := d.set F.DPX_STATUS_STATE st
  let d := d.modDpx (fun x => { x with
    syncEnd := if st = 1 then some (d.loop + 10 * ms) else none
    splitEnd := if st = 4 ∧ d.arbiter ≠ 0 then some (d.loop + 400) else none
    keeper := if d.drives then none else if was then some (d.loop + 16) else x.keeper
    keptPwm := if was && !d.drives then pwm else x.keptPwm
    keptGate := if was && !d.drives then gates else x.keptGate
    reqEnd := if st = 6 then none else x.reqEnd, reqAt := if st = 6 then none else x.reqAt, handAt := none
    driveAt := if st = 4 then x.driveAt.map (fun y => (y.1, 5)) else none })
  let d := if st = 6 then d.setB F.DPX_STATUS_REQ false else d
  let d := if st = 2 ∨ st = 3 ∨ st = 5 then d.when (d.ready 1 && !d.svcPower && d.fifoOk 3) (fun d => d.readyOn 14)
    else if st = 4 ∨ st = 6 then (d.readyDrop [14]).setB F.DPX_STATUS_LOCKSTEP false
    else d
  if st = 6 then d.raise 636 else d

/-- Lockstep ends on this device (R355, R364, R365): its cause, its count, its source, the referee request. An ACTIVE whose partner has not
reached STANDBY yet has no lockstep to lose, but goes to SOLO where it loses the partner's frames. -/
def Dev.endLockstep (d : Dev) (cause : Nat) : Dev :=
  let st := d.dpxState
  if st == dpxStandby || (st == dpxActive && (d.on F.DPX_STATUS_LOCKSTEP || cause == 2)) then
    let d := (d.setB F.DPX_STATUS_LOCKSTEP false).set F.DPX_STATUS_CAUSE cause |>.inc F.DPX_COUNTS_SPLITS
    let d := d.modDpx (fun x => { x with
      items := x.items.filter (fun i => match i.2 with
        | .trip _ => true
        | _ => false)
      byMismatch := x.byMismatch || decide (cause = 1), byLate := x.byLate || decide (cause = 3) })
    ((d.dpxGo (if st = dpxStandby then dpxSplit else dpxSolo)).reqSink).raise
      (if cause = 1 then 632 else if cause = 2 then 633 else 634)
  else d

/-- Lockstep is held: digests match. -/
def Dev.holdLockstep (d : Dev) : Dev :=
  (d.modDpx (fun x => { x with byMismatch := false, byLate := false })).setB F.DPX_STATUS_LOCKSTEP true

/-- Whether the arbiter names this side (R366): with PINS the level of REFEREE_ACT; with MANAGER its last decision; with NONE, side A. -/
def Dev.named (d : Dev) : Bool :=
  let side := d.get F.DPX_CFG_SIDE
  if d.arbiter = 0 then side == 0 else (d.arbiter == 1 || d.dpx.told) && d.get F.DPX_STATUS_REFACT == side

/-- The device takes the shelf from its partner, with SWITCHED raised and a Clamp (R368, R369, R401). -/
def Dev.takeover (d : Dev) (st : Nat) : Dev := (((d.dpxGo st).roleChange).raise 635).clampOwn 4 d.tim

/-! ### Frames (R358 to R365) -/

/-- The outputs that the LOOP blocks command, as the digest takes them (R364): duties, PWM conditions, gates, SHARE codes, wired lines, PRO's
sticky bits and classes, SEQ's rails, shed requests. -/
def Dev.outputs (d : Dev) : List Nat :=
  let cond : Cond → Nat
    | .off => 0
    | .passive => 1
    | .low => 2
    | .high => 3
    | .z => 4
  let gate : Gate → Nat
    | .sink => 0
    | .source => 1
    | .hold => 2
  (List.range 16).map (fun n => d.get (F.BEN_DUTY_DUTY n)) ++ (List.range 32).map (fun p => cond (d.pinDriven p))
    ++ (List.range 16).map (fun n => gate (d.slot n).gate) ++ (List.range 4).map (fun g => d.get (F.SHR_SHARE_CODE g))
    ++ [d.halted.toNat, d.get F.ENG_STATUS_LINES, d.proPfw, d.proThr, d.thrAsserted]
    ++ d.raised.flatMap (fun x => [x.src, x.base.code, x.eff.code]) ++ d.rails.flatMap (fun r => [r.rail, d.get (F.SEQ_STATE_STATE r.rail)])
    ++ (List.range 16).map (fun n => (d.slot n).reqCap.toNat + 2 * (d.slot n).reqForce.toNat + 4 * (d.slot n).reqEng.toNat)

/-- The digest of the frame period with this tick's outputs (R364). -/
def Dev.digTick (d : Dev) : Dev :=
  if d.isDuplex then d.modDpx (fun x => { x with dig := (Config.digest x.dig d.outputs).toNat }) else d

/-- The state of the LOOP blocks that SYNC sends: the registers of LOOP but DPX's, the active planes, the raised sources (R371, R374; log entry 92). -/
def Dev.syncItems (d : Dev) : List PeerItem :=
  let loop_ (k : Nat) : Bool := let r := k / 8 / 0x10000; decide (4 ≤ r ∧ r ≤ 19 ∧ r ≠ 17 ∧ r ≠ 16)
  [.regs (d.regs.filter (fun x => loop_ x.1)),
    .planes (((List.range 16).filter d.hasBench).map (fun n => (n, (d.bench n).active))),
    .sources (d.raised.map (fun x => (x.src, x.base, x.eff, x.acked)))]

/-- That state taken in SYNC. -/
def Dev.takeRegs (d : Dev) (l : List (Nat × Nat)) : Dev :=
  let loop_ (k : Nat) : Bool := let r := k / 8 / 0x10000; decide (4 ≤ r ∧ r ≤ 19 ∧ r ≠ 17 ∧ r ≠ 16)
  let d := { d with regs := (l.filter (fun x => loop_ x.1)).foldl (fun a x => RegFile.write x.1 x.2 a) (d.regs.filter (fun x => !loop_ x.1)) }
  Dev.each (List.range 16) (fun n d =>
    let st := ([SState.empty, .seating, .seated, .check, .ramp, .good, .tripped, .shed, .forced, .lockout].find?
      (fun x => x.code == d.get (F.HSW_STATUS_STATE n))).getD .empty
    d.modSlot n (fun s => { s with state := st, gate := if st == .ramp || st == .good then .source else .sink })) d

/-- The planes of SYNC taken, and the raised sources. -/
def Dev.takePlanes (d : Dev) (l : List (Nat × Plane)) : Dev := Dev.each l (fun x d => d.modBench x.1 (fun b => { b with active := x.2 })) d
def Dev.takeSources (d : Dev) (l : List (Nat × Cls × Cls × Bool)) : Dev := { d with raised := l.map (fun x => ⟨x.1, x.2.1, x.2.2.1, x.2.2.2⟩) }

/-- Whether this device takes its inputs from the frames: in lockstep, or in SYNC on the way to it (R360, R365, R371). -/
def Dev.inLockstep (d : Dev) : Bool :=
  d.dpxState == dpxStandby || d.dpxState == dpxSync || (d.dpxState == dpxActive && d.on F.DPX_STATUS_LOCKSTEP)

/-- Whether this device puts an input into the frames (R358, R360): side A the lower half of the channels, slots, MON inputs, HVM inputs, external sensors
and strings, side B the rest; the driving device the die sensors, writes, telemetry and pin inputs. -/
def Dev.sourcesItem (d : Dev) (i : PeerItem) : Bool :=
  let side (b : Bool) : Bool := (d.get F.DPX_CFG_SIDE == 1) == b
  match i with
  | .adc c _ => side (decide (16 ≤ c))
  | .mon k _ => side (decide (32 ≤ k))
  | .hvm h _ => side (decide (4 ≤ h))
  | .cmp (.window k) _ _ => side (decide (32 ≤ (k : Nat)))
  | .cmp (.enh n) _ _ => side (decide (8 ≤ (n : Nat)))
  | .shunt n _ _ => side (decide (8 ≤ n))
  | .volt n _ _ _ => side (decide (8 ≤ n))
  | .therm n _ => if n < 2 then d.drives else side (decide (4 ≤ n))
  | .bat s .. => side (decide (2 ≤ s))
  | .coarse s _ => side (decide (2 ≤ s))
  | .trip _ => true
  | .swap .. => true
  | _ => d.drives

/-- Whether an item of a frame whose sender is in state `st` is consumed here: a partner's input in lockstep, what only a driving partner sends from such a one
(R358, R360). -/
def Dev.takesItem (d : Dev) (st : Nat) (i : PeerItem) : Bool :=
  d.inLockstep && (match i with
    | .trip _ => true
    | .swap .. => true
    | .write .. => st == dpxActive || st == dpxSolo
    | .handover => st == dpxActive
    | .time _ => st == dpxActive || st == dpxSolo
    | .regs _ => d.dpxState == dpxSync
    | .planes _ => d.dpxState == dpxSync
    | .sources _ => d.dpxState == dpxSync
    | x => !d.sourcesItem x)

/-- The number of the frame period that has ended last (R358). -/
def Dev.periodNo (d : Dev) : Nat := d.loop / 8 - 1

/-- A frame period's end at this device: the digest of its outputs as its two engines formed it, `e1` and `e2` being what a fault of an engine
changes in it, and whether an item was consumed late inside its own LOOP, which the command carries (R364, R365, log entry 30); the frame it
sends: TIM's tick at the period's start, the items that arrived by the period's end, as far as 24 bytes hold them, the trip wires of the period and the digest of the period before
(R358). -/
def Dev.peerSend (d : Dev) (e1 e2 : Nat) (late : Bool) : Dev :=
  if !d.isDuplex then d
  else
    let before := d.get F.DPX_DIGEST_OWN
    let own := d.dpx.dig ^^^ e1
    let d := d.set F.DPX_DIGEST_OWN own |>.setB F.DPX_STATUS_DIGCHK (e1 != e2) |>.setB F.DPX_STATUS_PIPE late
    let p := d.periodNo
    let syncs := d.drives && d.get F.DPX_STATUS_PSTATE == dpxSync && d.on F.DPX_STATUS_HBIN
    let sync := if syncs && !d.dpx.synced then d.syncItems.map (fun i => (8 * p, i)) else []
    let tick := (d.tim - (d.loop - 8 * p)) % 65536
    let clock := if d.drives then [(8 * p, PeerItem.time tick)] else []
    let now := d.dpx.give.filter (fun i => decide (i.1 < 8 * p + 8)) ++ sync
    let bytes := d.dpx.backlog ++ now.flatMap (fun i => (Config.itemBytes i.1 i.2).map (·.toNat))
    let items := bytes.take 24
    let body := le 2 (p % 65536) ++ le 2 tick ++ [d.dpxState, items.length] ++ le 2 d.dpx.trips ++ le 4 before
      ++ items ++ List.replicate (24 - items.length) 0
    let d : Dev := { d with out := d.out ++ [.frame 0x100 (body ++ le 4 (crc32 body)), .peer (clock ++ now)] }
    (d.modDpx (fun x => { x with
      give := x.give.filter (fun i => decide (8 * p + 8 ≤ i.1)), backlog := bytes.drop 24, trips := 0, dig := 0, synced := syncs
      digests := (p % 65536, own) :: x.digests.take 7 })).showSelf

/-- RESOLVE judged with what is known of the partner and the arbiter (R355). -/
def Dev.resolve (d : Dev) : Dev :=
  if d.dpxState ≠ dpxResolve || !d.isDuplex then d
  else if d.on F.DPX_STATUS_HBIN then
    let p := d.get F.DPX_STATUS_PSTATE
    if p = dpxActive ∨ p = dpxSolo then d.dpxGo dpxSync
    else if p = dpxResolve ∧ d.named then d.dpxGo dpxActive
    else d
  else if d.dpx.resolved && d.arbiter != 0 && d.named then d.dpxGo dpxSolo
  else d

/-- An item is missing at its use tick (R359). -/
def Dev.lateItem (d : Dev) : Dev := if d.isDuplex then (d.inc F.DPX_ERRORS_LATE).endLockstep 3 else d

/-- The digest that a frame carries compared with this device's own of the same period, the one before the frame's; none where this device holds
none of it (R364). -/
def Dev.digestSame (d : Dev) (f : PeerFrame) : Option Bool :=
  (d.dpx.digests.find? (fun x => x.1 == (f.seq + 65535) % 65536)).map (fun x => x.2 == f.digest)

/-- The digests compared (R355, R364): SYNC ends with the first match; a driving device is in lockstep from the first match with a partner in
STANDBY; a difference ends lockstep. -/
def Dev.compare (d : Dev) (f : PeerFrame) : Dev :=
  let st := d.dpxState
  match d.digestSame f with
  | none => d
  | some true =>
    if st = dpxSync then (d.dpxGo dpxStandby).holdLockstep
    else if st = dpxSolo ∧ f.state = dpxStandby then (d.dpxGo dpxActive).holdLockstep
    else if st = dpxActive ∧ f.state = dpxStandby then d.holdLockstep
    else d
  | some false =>
    if st = dpxSolo ∧ f.state = dpxStandby then ((d.dpxGo dpxActive).holdLockstep).endLockstep 1
    else if st = dpxActive ∧ f.state = dpxStandby then (d.holdLockstep).endLockstep 1
    else d.endLockstep 1

/-- A frame of the partner (R359, R361, R364): a frame with a wrong CRC is counted and not taken; the items that this device consumes wait for
their use ticks, 32 ticks after they arrived, and one whose use tick has passed is late; its last byte arrives 24 ticks after the period of its TRIPS
began (R359), and its trip wires count in every state (R361); the digests are compared. -/
def Dev.peerRx (d : Dev) (f : PeerFrame) : Dev :=
  if !d.isDuplex then d
  else if !f.crcOk then d.inc F.DPX_ERRORS_CRC
  else
    let d := d.modDpx (fun x => { x with lastFrame := some d.loop, pairBad := !f.pairOk, resolved := false })
    let d := d.setB F.DPX_STATUS_HBIN true |>.set F.DPX_STATUS_PSTATE f.state |>.set F.DPX_PDIGEST_PARTNER f.digest
    let d := if f.pairOk then d else d.raise 637
    let mine := f.items.filter (fun i => d.takesItem f.state i.2)
    let trips := ((List.range 16).filter (fun n => f.trips.testBit n)).map (fun n => (d.loop - 24, PeerItem.trip n))
    let intime := mine.filter (fun i => decide (d.loop ≤ i.1 + 32))
    let d := d.modDpx (fun x => { x with items := x.items ++ ((intime ++ trips).map (fun i => (i.1 + 32, i.2))) })
    let d := Dev.each (mine.filter (fun i => decide (i.1 + 32 < d.loop))) (fun _ d => d.lateItem) d
    if d.dpxState = dpxResolve then d.resolve else d.compare f

/-- No valid frame for 16 ticks (R364); in RESOLVE the wait for PEER begins anew (R355). -/
def Dev.hbLost (d : Dev) : Dev :=
  if d.isDuplex && d.on F.DPX_STATUS_HBIN && due (d.dpx.lastFrame.map (· + 16)) d.loop then
    let d := (d.setB F.DPX_STATUS_HBIN false).modDpx (fun x => { x with
      resolveEnd := some (d.loop + d.get F.DPX_CFG_RESOLVE_T * ms) })
    let st := d.dpxState
    if st == dpxStandby || st == dpxActive then d.endLockstep 2 else d.raise 633
  else d

/-- REFEREE_REQ_N released after 400 ticks (R365). -/
def Dev.reqRelease (d : Dev) : Dev :=
  if due d.dpx.reqEnd d.loop then (d.modDpx (fun x => { x with reqEnd := none })).setB F.DPX_STATUS_REQ false else d

/-- A HANDOVER refused: counted, with a NOTE (R370). -/
def Dev.handRefused (d : Dev) : Dev := (d.inc F.DPX_COUNTS_REFUSED).note 3 F.DPX_CTRL_HANDOVER.addr 1 0

/-- A HANDOVER that a change of REFEREE_ACT meets in its tick is refused (R374): in the tick of its write, of its use, or of the release, which it
takes back. -/
def Dev.handRefuse (d : Dev) : Dev :=
  if d.dpx.handDone == some d.loop then
    ((d.modDpx (fun x => { x with handDone := none })).dpxGo dpxActive).handRefused
  else match d.dpx.handAt with
    | some (w, u) =>
      if w = d.loop ∨ u = d.loop then
        (d.modDpx (fun x => { x with
          handAt := none, give := x.give.filter (fun i => i.2 != .handover), items := x.items.filter (fun i => i.2 != .handover) })).handRefused
      else d
    | none => d

/-- A change of REFEREE_ACT confirmed, or the manager's decision, which counts as a change (R366, R368): the device that is no longer named
releases every output; a device in STANDBY or SPLIT that is now named drives 2 ticks later. -/
def Dev.refereeAct (d : Dev) (level : Nat) (decision : Bool) : Dev :=
  if !d.isDuplex then d
  else
    let change := decision || d.get F.DPX_STATUS_REFACT != level
    let d := (d.set F.DPX_STATUS_REFACT level).modDpx (fun x => { x with told := x.told || decision })
    let mine := level == d.get F.DPX_CFG_SIDE
    let st := d.dpxState
    if d.arbiter = 0 then d
    else if st = dpxResolve then d.resolve
    else if !change then d
    else
      let d := (d.modDpx (fun x => { x with refAt := some d.loop })).handRefuse
      let st := d.dpxState
      if (st = dpxActive ∨ st = dpxSolo) ∧ !mine then (d.dpxGo dpxFenced).roleChange
      else if st = dpxStandby ∨ st = dpxSplit then
        (d.modDpx (fun x => { x with driveAt := if mine then some (d.loop + 2, dpxSolo) else none })).when (mine && st == dpxStandby)
          (fun d => d.keepShared)
      else d

/-- The pin REFEREE_ACT, which names nobody where the manager arbitrates (R366). -/
def Dev.refPin (d : Dev) (level : Nat) : Dev := if d.arbiter = 2 then d else d.refereeAct level false

/-- The level of REFEREE_ACT, which stands whether or not a clock runs (R23). -/
def Dev.refLine (d : Dev) (level : Nat) : Dev := { d with lines := { d.lines with ref := level } }

/-- REFEREE_ACT read again when the clock of LOOP has come back. -/
def Dev.refRead (d : Dev) : Dev :=
  if d.isDuplex && d.arbiter == 1 && d.get F.DPX_STATUS_REFACT != d.lines.ref then d.refereeAct d.lines.ref false else d

/-- The first frame boundary at or after this tick (R370). -/
def Dev.boundary (d : Dev) : Nat := (d.loop + 7) / 8 * 8

/-- The arrival tick of a SYS write into LOOP: the first tick of the period of the frame that it enters, at least 32 ticks after that of
the write before (R359, R360). -/
def Dev.writeTick (d : Dev) : Nat :=
  let f := d.loop / 8 * 8
  match d.dpx.writeAt with
  | some w => max f (w + 32)
  | none => f

/-- A SYS write that crosses into LOOP on a duplex device: a driving device's frame carries it, and it is consumed at its use tick, 32 ticks
after its arrival tick, on both devices (R358, R359). -/
def Dev.pairPut (d : Dev) (i : PeerItem) : Dev :=
  let f := d.writeTick
  let d := if d.drives then d.tellAt f i else d
  (d.queueItem (f + 32) i).modDpx (fun x => { x with writeAt := some f })

/-- HANDOVER written: in ACTIVE with the partner in STANDBY the roles are exchanged at the first frame boundary at or after its use tick, else it is
refused, as it is in the tick of a change of REFEREE_ACT (R370, R374). -/
def Dev.handover (d : Dev) : Dev :=
  if !d.isDuplex then d
  else if d.dpxState = dpxActive ∧ d.get F.DPX_STATUS_PSTATE = dpxStandby ∧ d.dpx.refAt ≠ some d.loop then
    (d.pairPut .handover).modDpx (fun x => { x with handAt := some (d.loop, d.writeTick + 32) })
  else d.handRefused

/-- A HANDOVER at its use tick, which lies on a frame boundary as its arrival tick does: the active releases; the standby drives 2 ticks
later, unless REFEREE_ACT has named it already (R370, R374). -/
def Dev.handoverItem (d : Dev) : Dev :=
  if d.dpxState = dpxActive ∧ d.dpx.handAt.isSome then
    (d.dpxGo dpxStandby).modDpx (fun x => { x with handDone := some d.loop })
  else if d.dpxState = dpxStandby ∧ d.dpx.driveAt.isNone then
    (d.modDpx (fun x => { x with driveAt := some (d.boundary + 2, dpxActive) })).keepShared
  else d

/-- The tick after a release by HANDOVER, when nothing has met it in its tick: the change of role (R370, R374). -/
def Dev.handTick (d : Dev) : Dev :=
  match d.dpx.handDone with
  | some h => if h < d.loop then (d.modDpx (fun x => { x with handDone := none })).roleChangeAt (d.tim - (d.loop - h)) else d
  | none => d

/-- What a tick brings to DPX: REFEREE_REQ_N sunk, the change of role after a HANDOVER, and the drive of the device that takes over (R365,
R368, R370). -/
def Dev.dpxTick (d : Dev) : Dev :=
  let d := (d.reqTick).handTick
  match d.dpx.driveAt with
  | some (t, st) => if t ≤ d.loop then d.takeover st else d
  | none => d

/-- The standby's TIM counter set from the TICK of a frame, 32 ticks after it: of the values that end in those 16 bits the one nearest
(R359). -/
def Dev.setTime (d : Dev) (tick : Nat) : Dev :=
  if d.dpxState = dpxSync ∨ d.dpxState = dpxStandby then
    let x := d.tim / 65536 * 65536 + (tick + 32) % 65536
    let t := if d.tim + 32768 ≤ x then x - 65536 else if x + 32768 < d.tim then x + 65536 else x
    { d with tim := t }
  else d

/-- TAKE written: from RESOLVE once RESOLVE_T has passed, or from SPLIT with the partner's frames absent (R355). -/
def Dev.dpxTake (d : Dev) : Dev :=
  if !d.isDuplex || d.on F.DPX_STATUS_HBIN then d
  else if d.dpxState = dpxResolve ∧ d.dpx.resolved then d.dpxGo dpxSolo
  else if d.dpxState = dpxSplit then d.takeover dpxSolo
  else d

/-- REJOIN written: FENCED to SYNC, and SPLIT to SYNC where no arbiter decides (R355, R371). -/
def Dev.dpxRejoin (d : Dev) : Dev :=
  if d.isDuplex && (d.dpxState == dpxFenced || (d.dpxState == dpxSplit && d.arbiter == 0)) then d.dpxGo dpxSync else d

/-- SYNC has not ended within 10 ms (R371). -/
def Dev.syncTimeout (d : Dev) : Dev := if d.dpxState = dpxSync ∧ due d.dpx.syncEnd d.loop then d.dpxGo dpxFenced else d

/-- PEER has been untrained for RESOLVE_T (R355). -/
def Dev.resolveTimeout (d : Dev) : Dev :=
  if d.isDuplex && d.dpxState == dpxResolve && !d.on F.DPX_STATUS_HBIN && due d.dpx.resolveEnd d.loop then
    (d.modDpx (fun x => { x with resolved := true })).resolve
  else d

/-- No decision within 2 us in SPLIT, with an arbiter configured (R355). -/
def Dev.splitTimeout (d : Dev) : Dev :=
  if d.dpxState = dpxSplit ∧ due d.dpx.splitEnd d.loop ∧ d.dpx.driveAt.isNone then d.dpxGo dpxFenced else d

/-- The keepers let go of the pins that no device drives (R357). -/
def Dev.keeperRelease (d : Dev) : Dev :=
  if due d.dpx.keeper d.loop then d.modDpx (fun x => { x with keeper := none, keptPwm := [], keptGate := [] }) else d

/-- The rates of the two LOOP clocks compared over 10 ms by the standby: more than 10 ppm raises CLKSKEW (R354). -/
def Dev.clkSkew (d : Dev) (ppm : Nat) : Dev :=
  if !d.isDuplex || d.dpxState != dpxStandby then d
  else
    let d := d.modDpx (fun x => { x with skew := decide (10 < ppm) })
    if 10 < ppm then d.raise 638 else d

/-- REFEREE_HB toggles every 40 ticks while SELFOK is 1 in STANDBY, ACTIVE or SOLO (R365). -/
def Dev.hbToggle (d : Dev) : Dev :=
  let d := if d.isDuplex then d.showSelf else d
  let st := d.dpxState
  if d.isDuplex && d.on F.DPX_STATUS_SELFOK && (st == dpxStandby || st == dpxActive || st == dpxSolo) && decide (d.dpx.hbAt ≤ d.loop) then
    d.modDpx (fun x => { x with hb := !x.hb, hbAt := d.loop + 40 })
  else d

end Sys2Proof.Machine
end

