-- ==== Sys2Proof/Machine/Link.lean ====
section
/-! DEFINITION. LNK and TIM: ports coming into service, forwarding, the path in use, time, cap traffic, arbitration by the manager,
the manager's view and the register tunnel's own side (spec/17_igkulink_hierarchy.md). Deadlines are ticks that never stop. -/

namespace Sys2Proof.Machine

/-- What LNK holds changed. -/
def Dev.modLink (d : Dev) (f : Link → Link) : Dev := { d with link := f d.link }

/-- What TIM holds changed. -/
def Dev.modTim (d : Dev) (f : TimSt → TimSt) : Dev := { d with timSt := f d.timSt }

/-- The LINK section, or that of a device without one. -/
def Dev.linkCfg (d : Dev) : LinkCfg := d.cfg.link.getD { role := 0, nodes := 1, index := 0, root := true }

/-- A port's training state. -/
def Dev.portSt (d : Dev) (p : Nat) : PortSt := d.link.ports[p]?.getD {}
def Dev.modPort (d : Dev) (p : Nat) (f : PortSt → PortSt) : Dev :=
  d.modLink (fun l => { l with ports := l.ports.setIfInBounds p (f (d.portSt p)) })

/-- The states of a port (R385). -/
def portDown : Nat := 0
def portAcquire : Nat := 1
def portIdent : Nat := 2
def portUp : Nat := 3
def portFault : Nat := 4

/-- A port's state. -/
def Dev.port (d : Dev) (p : Nat) : Nat := d.get (F.LNK_STATUS_STATE p)

/-- Whether frames of the SYS side, TUNNEL and IMAGE, can arrive: some used port is UP and its FIFO does not resynchronise (R98). -/
def Dev.linkOpen (d : Dev) : Bool := d.usedPorts.any (fun p => d.port p == portUp && d.fifoOk p)

/-! ### The path in use (R390, R398) -/

/-- Whether ring node `i` is known to have its EAST, or its WEST, port out of service. -/
def Dev.eastOut (d : Dev) (i : Nat) : Bool :=
  if i = d.linkCfg.index then d.port 0 != portUp else d.link.nodes.any (fun n => n.index == i && !n.east)
def Dev.westOut (d : Dev) (i : Nat) : Bool :=
  if i = d.linkCfg.index then d.port 1 != portUp else d.link.nodes.any (fun n => n.index == i && !n.west)

/-- Whether the link from node `i` eastward to the next is broken. -/
def Dev.linkOut (d : Dev) (i : Nat) : Bool := d.eastOut i || d.westOut ((i + 1) % max 1 d.linkCfg.nodes)

/-- The ring is closed: no link of it is known to be broken (log entry 31). -/
def Dev.ringClosed (d : Dev) : Bool := (List.range d.linkCfg.nodes).all (fun i => !d.linkOut i)

/-- The end nodes of the two halves: on an intact ring the two farthest from the manager, else the nodes next to the break (R390). -/
def Dev.ringEnds (d : Dev) : Nat × Nat :=
  let n := d.linkCfg.nodes
  if d.ringClosed then ((n - 1 + 1) / 2, if (n - 1 + 1) / 2 + 1 < n then (n - 1 + 1) / 2 + 1 else 0)
  else
    let east := ((List.range n).find? (fun i => d.linkOut i)).getD 0
    let west := ((List.range n).reverse.find? (fun i => d.linkOut i)).getD 0
    (east, if west + 1 < n then west + 1 else 0)

/-- Whether this device is on a rack ring. -/
def Dev.onRack (d : Dev) : Bool := d.cfg.link.isSome && d.linkCfg.role ≤ 1

/-- BREAK and RINGBREAK brought up to the ports and the latest LINKSTATs (R398). -/
def Dev.showRing (d : Dev) : Dev :=
  if !d.onRack then d
  else
    let brk := !d.ringClosed
    let was := d.on F.LNK_RING_BREAK
    let d := d.setB F.LNK_RING_BREAK brk
    if brk && !was then d.raise 641 else d

/-- The path in use taken from the latest LINKSTATs: at a cap slot, and with it the port to the parent (R386, R398). -/
def Dev.showPath (d : Dev) : Dev :=
  match d.cfg.link with
  | none => d.set F.TIM_STATUS_PARENT 3
  | some c =>
    let (e, w) := if d.onRack then d.ringEnds else (0, 0)
    let changed := d.get F.LNK_RING_EASTEND != e || d.get F.LNK_RING_WESTEND != w
    let d := if changed then ((d.set F.LNK_RING_EASTEND e).set F.LNK_RING_WESTEND w).inc F.LNK_RING_PATHCHG else d
    d.set F.TIM_STATUS_PARENT (if c.root then 3 else if c.role ≠ 0 then 2 else if c.index ≤ e then 1 else 0)

/-! ### Bringing a port into service (R385) -/

/-- The bytes of this node's LINKSTAT: its address, its ring index, its port states. -/
def Dev.linkstat (d : Dev) : List Nat :=
  le 2 d.node ++ [d.linkCfg.index, d.port 0, d.port 1, d.port 2] ++ (List.range 3).flatMap (fun p => le 2 (d.get (F.LNK_STATUS_NEIGH p)))

/-- A DOWN port's receive clock appears. -/
def Dev.portClock (d : Dev) (p : Nat) : Dev :=
  if d.usedPorts.contains p && d.port p == portDown then
    (d.set (F.LNK_STATUS_STATE p) portAcquire).modPort p (fun x => { x with acqEnd := some (d.now + 100 * us) })
  else d

/-- 16 consecutive commas are aligned. -/
def Dev.portAligned (d : Dev) (p : Nat) : Dev :=
  if d.port p = portAcquire then (d.set (F.LNK_STATUS_STATE p) portIdent).modPort p (fun _ => {}) else d

/-- 100 us have passed without alignment. -/
def Dev.acquireTimeout (d : Dev) (p : Nat) : Dev :=
  if d.port p = portAcquire ∧ due (d.portSt p).acqEnd d.now then (d.set (F.LNK_STATUS_STATE p) portDown).modPort p (fun _ => {}) else d

/-- A port in IDENT names itself. -/
def Dev.linkstatSend (d : Dev) (p : Nat) : Dev :=
  if d.port p = portIdent then d.sendOn [p] 0x22 (.frame 0x22 d.linkstat) else d

/-- Whether a neighbour's zone, rack, role or ring index conflicts with LINK (R376 to R378, R385). -/
def Dev.neighbourBad (d : Dev) (p : Nat) (s : LinkStat) : Bool :=
  let c := d.linkCfg
  let kind := s.addr % 8
  let zone := s.addr / 4096 == d.node / 4096
  let rack := s.addr / 256 == d.node / 256
  let n := max 1 c.nodes
  let next := if p = 0 then (c.index + 1) % n else (c.index + n - 1) % n
  if c.role ≤ 1 ∧ p ≤ 1 then !(rack && s.index == next && (if s.index = 0 then kind == 1 else kind == 0))
  else if c.role = 1 then !(zone && (kind == 1 || kind == 2))
  else if c.role = 2 ∧ p ≤ 1 then !(zone && kind == 1)
  else !(kind == 2 || kind == 3)

/-- What is known of a ring node replaced. -/
def putNode (x : LinkNode) (l : List LinkNode) : List LinkNode :=
  x :: l.filter (fun y => y.index != x.index)

/-- A frame from the manager: it is present (R396). -/
def Dev.fromManager (d : Dev) : Dev := d.modLink (fun l => { l with mgrSeen := d.now, mgrLost := false })

/-- What is known of ring node `i`; of a node whose LINKSTAT has not come, its address and that it was heard. -/
def Dev.linkNode (d : Dev) (i addr : Nat) : LinkNode :=
  (d.link.nodes.find? (fun n => n.index == i)).getD { index := i, addr := addr, east := true, west := true, seen := d.now, sum := d.now }

/-- A frame from ring node `i` has come: the manager shows the node in LNK.n.NODE (R396). -/
def Dev.sawNode (d : Dev) (x : LinkNode) : Dev :=
  let d := d.modLink (fun l => { l with nodes := putNode { x with seen := d.now } l.nodes })
  if d.linkCfg.role = 0 then d
  else (d.setB (F.LNK_NODE_SEEN x.index) true).modLink (fun l => { l with nodeLost := l.nodeLost.filter (· != x.index) })

/-- A LINKSTAT arrives: from the neighbour of a port in IDENT, the third valid one in a row takes it UP, a conflict to FAULT; otherwise
it tells the path in use (R385, R398). -/
def Dev.linkstatRx (d : Dev) (p : Nat) (s : LinkStat) : Dev :=
  if d.port p = portIdent then
    let d := d.set (F.LNK_STATUS_NEIGH p) s.addr
    if d.neighbourBad p s then ((d.set (F.LNK_STATUS_STATE p) portFault).modPort p (fun _ => {})).raise 642
    else
      let x := d.portSt p
      let n := if x.identAddr = s.addr then x.ident + 1 else 1
      if n = 3 then
        (((d.set (F.LNK_STATUS_STATE p) portUp).inc (F.LNK_STATUS_TRAINS p)).modPort p (fun _ => {})).showRing
      else d.modPort p (fun x => { x with ident := n, identAddr := s.addr })
  else if d.port p = portUp ∧ p ≤ 1 then
    let d := if s.index = 0 then d.fromManager else d
    (d.sawNode { d.linkNode s.index s.addr with addr := s.addr, east := s.east, west := s.west }).showRing
  else d

/-- A forwarded frame that is still arriving by port `p` as that port leaves service: its copy goes on with the symbols that have come, and
ends with K30.7 (R383, R399). -/
def TxFrame.cutFrom (now p : Nat) (f : TxFrame) : TxFrame :=
  match f.item with
  | .forward q h data _ =>
    let whole := (h.symbols data true).length
    let came := (now - f.at_) * 5 / 16
    if f.inp = some p ∧ came < whole then
      { f with syms := f.syms.take (came + f.syms.length - whole) ++ [.bad], item := .forward q h data false }
    else f
  | _ => f

/-- The frames forwarded from port `p` that are still arriving, cut (R383). -/
def Dev.cutForward (d : Dev) (p : Nat) : Dev :=
  d.modLink (fun l => { l with tx := l.tx.map (fun x =>
    { x with queue := x.queue.map (TxFrame.cutFrom d.now p), stack := x.stack.map (TxFrame.cutFrom d.now p) }) })

/-- An UP port goes out of service: PORTDOWN, a LINKSTAT from the other ring port at once, and LNK READY falls with the last port
(R385, R398, R115). A frame that is being forwarded from it ends as bad (R383). -/
def Dev.portFall (d : Dev) (p : Nat) : Dev :=
  if d.port p = portUp then
    let d := ((d.set (F.LNK_STATUS_STATE p) portDown).modPort p (fun _ => {})).cutForward p
    let d := if p ≤ 1 ∧ d.port (1 - p) = portUp then d.send 0x22 d.linkstat else d
    let d := if (List.range 3).any (fun q => d.port q == portUp) then d else d.readyDrop [15]
    (d.showRing).raise 640
  else d

/-- A 1 ms window of a port ends with its code and CRC errors: more than 4 raise LNKERR, and more than 16 code errors take an UP port
out of service (R385, R400). The frames discarded have been counted as they came (R383). -/
def Dev.errWindow (d : Dev) (p code crc : Nat) : Dev :=
  let d := d.set (F.LNK_ERRORS_CODE p) (d.get (F.LNK_ERRORS_CODE p) + code)
  let d := if 4 < code + crc then d.raise 643 else d
  if 16 < code then d.portFall p else d

/-- RST.BLOCK of a port (R385, R399). -/
def Dev.portReset (d : Dev) (p : Nat) : Dev :=
  let d := d.portFall p
  (d.set (F.LNK_STATUS_STATE p) portDown).modPort p (fun _ => {})

/-! ### Forwarding (R383, R384) -/

/-- Whether a manager has a manager above it, whose UP ring it is on (R375, R386). -/
def Dev.onUpRing (d : Dev) : Bool := d.cfg.link.isSome && (d.linkCfg.role == 1 || d.linkCfg.role == 2) && !d.linkCfg.root

/-- The port by which a frame leaves again: the other ring port, or the UP port of a rack or zone manager. -/
def otherPort (p : Nat) : Nat := if p = 0 then 1 else if p = 1 then 0 else 2

/-- The node count of the ring that port `p` is on (R376, R377). -/
def Dev.ringNodes (d : Dev) (p : Nat) : Nat := if p = 2 then d.linkCfg.upNodes else d.linkCfg.nodes

/-- Whether a long frame is addressed to this node (R378, R384). A TUNNEL request to a pair reaches the device that drives, so the other passes
it on (R397); the first byte of a TUNNEL tells a request, below 2, from an answer. -/
def Dev.names (d : Dev) (f : LinkFrame) : Bool :=
  if shortFrame f.typ then false
  else if f.typ = 0x30 ∧ d.isDuplex ∧ f.data.headD 0 < 2 then d.drives && f.dst / 16 == d.node / 16 && f.dst % 8 == d.node % 8
  else f.dst == d.node

/-- Whether a node removes a frame that has come by port `p` (R384): its hops are used up, it has come home, it has reached its path's end or
its target. A TSYNC crosses one link (R382); a CAPSUM goes on as `Dev.capsumRx` gives it (R390). -/
def Dev.removes (d : Dev) (p : Nat) (f : LinkFrame) : Bool :=
  let i := d.linkCfg.index
  decide (d.ringNodes p - 1 ≤ f.hops + 1) || f.src == d.node || d.names f || f.typ == 3 || f.typ == 0x10
    || (f.typ == 0x11 && d.onRack && decide (p ≤ 1) && (i == d.get F.LNK_RING_EASTEND || i == d.get F.LNK_RING_WESTEND))

/-- A broadcast type, of which a node accepts the first copy. -/
def broadcast (typ : Nat) : Bool := [0x01, 0x02, 0x20, 0x21, 0x22].contains typ

/-- The ring index of the node from which a frame has come by ring port `p`: the index rises eastward, and each node passed has added a hop
(R376, R383). -/
def Dev.senderIndex (d : Dev) (p hops : Nat) : Nat :=
  let n := max 1 d.linkCfg.nodes
  if p = 0 then (d.linkCfg.index + hops + 1) % n else (d.linkCfg.index + (n - 1 - hops % n)) % n

/-- What an accepted frame tells a node of its sender: on a worker its manager's presence, on a manager the node's, with a FAULTSUM what it
reports (R396). -/
def Dev.heard (d : Dev) (p : Nat) (f : LinkFrame) : Dev :=
  let d := if f.src % 8 ≠ 0 ∧ d.linkCfg.role = 0 ∧ f.src / 256 = d.node / 256 then d.fromManager else d
  let i := d.senderIndex p f.hops
  if d.linkCfg.role = 0 ∨ 1 < p ∨ i = 0 then d
  else
    let n := d.linkNode i f.src
    if f.typ = 0x23 then
      let un := fromLe ((f.data.drop 4).take 4)
      d.set (F.LNK_NODE_PRO i) (fromLe (f.data.take 4) % 4) |>.set (F.LNK_NODE_DPX i) ((f.data.drop 8).headD 0 % 8)
        |>.set (F.LNK_NODE_UTRIP i) (un / 65536 % 256) |>.set (F.LNK_NODE_UHALT i) (un / 16777216 % 256)
        |>.sawNode { n with sum := d.now }
    else d.sawNode n

/-- The ring ports of the path in use from this node to ring index `j` (R390): within a half straight along it, into the other half by way of the
manager. -/
def Dev.wayTo (d : Dev) (j : Nat) : Nat :=
  let i := d.linkCfg.index
  let e := d.get F.LNK_RING_EASTEND
  if i = 0 then (if j ≤ e then 0 else 1)
  else if decide (i ≤ e) == decide (j ≤ e) ∧ j ≠ 0 then (if i < j then 0 else 1)
  else (if i ≤ e then 1 else 0)

/-- Whether an address lies in the ring below a manager, or in a worker's own rack (R378). -/
def Dev.below (d : Dev) (a : Nat) : Bool :=
  if d.linkCfg.role ≤ 1 then a / 256 == d.node / 256 else if d.linkCfg.role = 2 then a / 4096 == d.node / 4096 else true

/-- The ports by which an addressed frame leaves for a node (R378, R393, R397): one port, so that it arrives once. -/
def Dev.portsTo (d : Dev) (a : Nat) : List Nat :=
  match d.cfg.link with
  | none => []
  | some c =>
    if c.role = 0 ∧ ¬ d.below a then [d.managerPort c]
    else if ¬ d.below a then [2]
    else if 2 ≤ c.role then [0]
    else match d.link.nodes.find? (fun n => n.addr == a) with
      | some n => [d.wayTo n.index]
      | none => if c.role = 0 then [d.managerPort c] else [0]

/-- The parent's answer to a child's TSYNC: the tick and the tap of the marker's arrival (R387). -/
def Dev.tsyncAnswer (d : Dev) (p : Nat) : Dev :=
  d.sendOn [p] 3 (.frame 3 (le 8 d.tim ++ [(Config.tsyncTap d.tim).toNat, 3]))

/-- A manager takes a TUNNEL, request or answer, whose target lies in its other ring out of one ring and into the other as a new frame, once
it has been received and checked whole (R393); it goes on under its own source and SEQ, so that it can be answered. -/
def Dev.tunnelRelay (d : Dev) (p : Nat) (f : LinkFrame) : Dev :=
  let out := if p = 2 then d.below f.dst else d.onUpRing && !d.below f.dst
  if f.typ = 0x30 ∧ d.linkCfg.role ≠ 0 ∧ f.dst ≠ d.node ∧ f.dst ≠ everyNode ∧ out then
    d.sendHead { typ := f.typ, src := f.src, seq := f.seq, dst := f.dst } (d.portsTo f.dst) (.frame f.typ f.data)
  else d

/-- What a node does with a good frame that it accepts, besides what the frame's own command brings: it notes the sender, answers a child's
TSYNC, keeps the source of a TUNNEL request, relays a TUNNEL (R387, R393, R396, R397). -/
def Dev.accept (d : Dev) (p : Nat) (f : LinkFrame) : Dev :=
  let d := d.heard p f
  let d := if f.typ = 3 ∧ f.data[9]? = some 0 then d.tsyncAnswer p else d
  let d := if f.typ = 0x30 ∧ d.names f ∧ f.data.headD 0 < 2 then d.modLink (fun l => { l with tunFrom := some f.src }) else d
  d.tunnelRelay p f

/-- A frame that the node does not remove sent on by the other port, with one more hop, marked bad where its check failed (R383). -/
def Dev.forward (d : Dev) (p : Nat) (f : LinkFrame) : Dev :=
  let q := otherPort p
  if d.removes p f || d.port q != portUp then d
  else
    let h : Head := { typ := f.typ, hops := f.hops + 1, src := f.src, seq := f.seq, dst := f.dst }
    let o := Out.forward q h f.data f.good
    ({ d with out := d.out ++ [o] } : Dev).queueOn h f.data f.good o (some p) q

/-- A frame arrives on a port (R383, R384): it is forwarded unless the node removes it; the first copy of a broadcast is accepted, the second
discarded. What a SYS-side frame brings is not taken while the port's FIFO resynchronises (R98). -/
def Dev.frameRx (d : Dev) (p : Nat) (f : LinkFrame) : Dev :=
  if d.port p ≠ portUp then d
  else
    let d := d.forward p f
    if !f.good then d.inc (F.LNK_ERRORS_CRC p)
    else if 0x30 ≤ f.typ ∧ ¬ d.fifoOk p then d
    else
      let key := (f.src, f.typ, f.seq)
      if broadcast f.typ && d.link.copies.contains key then d.modLink (fun l => { l with copies := l.copies.erase key })
      else
        let d := if broadcast f.typ then d.modLink (fun l => { l with copies := (l.copies ++ [key]).drop (l.copies.length - 255) }) else d
        d.accept p f

/-! ### Time (R386 to R389) -/

/-- The side of a TSYNC exchange on which this node stands at each of its ports, as the KIND byte of its frames has it: 0 to the parent, 1 to a
child, 2 along an UP ring (R386, R387, log entry 90). -/
def Dev.tsyncPorts (d : Dev) : List (Nat × Nat) :=
  match d.cfg.link with
  | none => []
  | some c =>
    if 2 ≤ c.role then [(0, 2)] ++ (if c.root then [] else [(2, 2)])
    else if c.role = 1 then [(0, 1), (1, 1)] ++ (if c.root then [] else [(2, 2)])
    else if c.root then []
    else
      let p := d.get F.TIM_STATUS_PARENT
      [(p, 0), (1 - p, 1)]

/-- TSYNC frames sent: the tick and the tap, which the departure of the marker sets (`TxFrame.stamp`), and the kind (R382, R387). -/
def Dev.tsyncSend (d : Dev) : Dev :=
  Dev.each d.tsyncPorts (fun x d => d.sendOn [x.1] 3 (.frame 3 (le 8 d.tim ++ [0, x.2]))) d

/-- The counter stepped, with its record and its source (R389). -/
def Dev.timStep (d : Dev) (new : Nat) : Dev :=
  let old := d.tim
  let d : Dev := { d with tim := new }
  ((d.record 9 0 new (le 8 old ++ le 8 new)).inc F.TIM_STATUS_STEPS).raise 645

/-- Offset and delay of an exchange, in 1/64 ticks (R387). On an UP ring the delay before this node is that of the nodes before it and
of the channels before it: as declared, else an equal share of what the loop leaves. -/
def Dev.tsyncFigures (d : Dev) : TsyncStamps → Rat × Rat
  | .twoWay t1 t2 t3 t4 =>
    ((((t2 - t1) - (t4 - t3) : Int) : Rat) / 2, (((t2 - t1) + (t4 - t3) : Int) : Rat) / 2)
  | .upRing t1 t2 whole before total =>
    let c := d.linkCfg
    let chans : Rat := if c.delays.isEmpty then ((whole - total : Int) : Rat) / (max 1 c.upNodes : Nat) * c.upBefore
      else ((c.delays.take c.upBefore).foldl (· + ·) 0 : Nat)
    let dly := (before : Rat) + chans
    (((t2 - t1 : Int) : Rat) - dly, dly)

/-- TIM READY sets, and with it whether this node is the root; a root has no parent (R386, R389). -/
def Dev.timReady (d : Dev) : Dev :=
  let d := (d.readyOn 16).setB F.TIM_STATUS_ROOT d.linkCfg.root
  if d.linkCfg.root then d.set F.TIM_STATUS_PARENT 3 else d

/-- A TSYNC exchange is complete (R387, R389): the first lock and an offset above 1 us step the counter; otherwise the offset is removed
tick by tick. The rate is tracked with it. 16 exchanges in a row within 2 ns lock the node. -/
def Dev.tsyncRx (d : Dev) (s : TsyncStamps) : Dev :=
  if d.cfg.link.isNone || d.linkCfg.root then d
  else
    let (off, dly) := d.tsyncFigures s
    let d := d.setS F.TIM_OFFSET_OFFSET off.floor |>.set F.TIM_DELAY_DELAY (floorN dly)
    let ticks := roundR (off / 64)
    let step := !d.timSt.locked || decide (12800 < absR off)
    let d := if step then d.timStep ((d.tim : Int) - ticks).toNat else d
    let good := decide (absR off ≤ 128 / 5)
    let run := if good then d.timSt.run + 1 else 0
    let d := d.modTim (fun t => { t with
      locked := true, run := run, last := d.now, adj := if step then 0 else ticks, rate := Config.trackRate t.rate off.floor (d.now - t.last) })
    let d := if d.on F.TIM_STATUS_HOLDOVER then d.setB F.TIM_STATUS_HOLDOVER false else d
    if 16 ≤ run ∧ d.ready 1 ∧ d.ready 15 ∧ ¬ d.svcPower then (d.setB F.TIM_STATUS_SYNC true).timReady else d

/-- No valid exchange for 1 ms: HOLDOVER, at the rate last tracked; the phase is corrected no further (R389). -/
def Dev.holdover (d : Dev) : Dev :=
  if d.cfg.link.isSome && !d.linkCfg.root && !d.on F.TIM_STATUS_HOLDOVER && decide (d.timSt.last + ms ≤ d.now) then
    ((d.setB F.TIM_STATUS_HOLDOVER true).setB F.TIM_STATUS_SYNC false |>.modTim (fun t => { t with run := 0, adj := 0 })).raise 644
  else d

/-- A root's listening period ends: it takes a child's holdover time, or runs on (R389). TIM READY sets where FAB and LNK still stand
(R115, R119). -/
def Dev.rootListen (d : Dev) (child : Option Nat) : Dev :=
  if d.cfg.link.isSome && d.linkCfg.root && due d.timSt.listenEnd d.now then
    let d := d.modTim (fun t => { t with listenEnd := none })
    let d := match child with
      | some t => d.timStep t
      | none => d
    if d.ready 1 && d.ready 15 && !d.svcPower then d.timReady else d
  else d

/-- The rate tracked brings one more part of an increment, and at a whole one an increment to be added or withheld (R387, R389). -/
def TimSt.drift (t : TimSt) : TimSt :=
  let x := t.part + t.rate
  { t with part := x.emod (2 ^ 32), adj := t.adj - x.ediv (2 ^ 32) }

/-- One tick of the counter: one increment added or withheld at most once in every 1,000 ticks, for the offset and for the rate (R387). -/
def Dev.timCount (d : Dev) : Dev :=
  let t := d.timSt.drift
  if t.adj ≠ 0 ∧ t.lastAdj + 1000 ≤ d.now then
    let (n, a) := if 0 < t.adj then (d.tim, t.adj - 1) else (d.tim + 2, t.adj + 1)
    { d with tim := n, timSt := { t with adj := a, lastAdj := d.now } }
  else { d with tim := d.tim + 1, timSt := t }

/-- One tick of TIM; where it brings a new cap slot, a multiple of 200, the path in use is taken anew (R390, R398). -/
def Dev.timTick (d : Dev) : Dev :=
  let old := d.tim
  let d := d.timCount
  if d.tim / 200 = old / 200 then d else d.showPath

/-! ### Cap traffic (R222, R224, R390, R391) -/

/-- Which half of the ring this node sends in: 0 over the manager's EAST port, 1 over its WEST port (R390). -/
def Dev.half (d : Dev) : Nat := if d.linkCfg.index ≤ d.get F.LNK_RING_EASTEND then 0 else 1

/-- What a node reports: a worker its P_load and P_draw, a manager on its UP ring the latest sums of the ring below (R222, R224). -/
def Dev.reportLoad (d : Dev) : Nat := if d.linkCfg.role = 0 then d.get F.CAP_PLOAD_VALUE else d.cap.rackLoad
def Dev.reportDraw (d : Dev) : Nat := if d.linkCfg.role = 0 then d.get F.CAP_PDRAW_VALUE else d.cap.rackDraw

/-- A node's contribution under a sequence number kept: the last 16 (R391). -/
def Dev.contribute (d : Dev) (seq : Nat) : Dev :=
  { d with cap := { d.cap with sent := ((seq, d.reportLoad) :: d.cap.sent).take 16 } }

/-- The header of a CAPSUM as it leaves this node: it has come from the end node of this half, or from the first node of an UP ring, and each
node between has added a hop (R380, R383, R390). Of a source whose address is not known, this node's own stands in (log entry 90). -/
def Dev.capsumHead (d : Dev) (seq : Nat) : Head :=
  let (e, hops) :=
    if !d.onRack || d.linkCfg.role != 0 then (d.linkCfg.index, d.linkCfg.upBefore - 1)
    else if d.half = 0 then (d.get F.LNK_RING_EASTEND, d.get F.LNK_RING_EASTEND - d.linkCfg.index)
    else (d.get F.LNK_RING_WESTEND, d.linkCfg.index - d.get F.LNK_RING_WESTEND)
  let src := if hops = 0 then d.node else ((d.link.nodes.find? (fun n => n.index == e)).map (·.addr)).getD d.node
  { typ := 0x10, hops := hops, src := src, seq := seq, dst := 0 }

/-- A CAPSUM passed towards the manager: its SEQ is that of its cap slot (R382, R390). -/
def Dev.capsumOut (d : Dev) (seq load draw n : Nat) : Dev :=
  d.sendHead (d.capsumHead seq) (d.sendPorts 0x10)
    (.frame 0x10 (le 4 (min load 0xFFFFFFFF) ++ le 4 (min draw 0xFFFFFFFF) ++ [n, 0]))

/-- A node's own figures added to a CAPSUM on its way to the manager (R390). -/
def Dev.capsumAdd (d : Dev) (seq load draw n : Nat) : Dev :=
  (d.contribute seq).capsumOut seq (load + d.reportLoad) (draw + d.reportDraw) (n + 1)

/-- In a tick that is a multiple of 200, an end node sends a CAPSUM towards the manager (R390); so does the first node of an UP ring, whose
manager caps its managers by the same rule (R224). -/
def Dev.capsumSend (d : Dev) : Dev :=
  let i := d.linkCfg.index
  let seq := d.tim / 200 % 65536
  if d.tim % 200 ≠ 0 then d
  else if d.onRack && d.linkCfg.role == 0 && (i == d.get F.LNK_RING_EASTEND || i == d.get F.LNK_RING_WESTEND) then
    if d.drives then d.capsumAdd seq 0 0 0 else d.capsumOut seq 0 0 0
  else if d.onUpRing && d.linkCfg.upBefore == 1 then d.capsumAdd seq 0 0 0
  else d

/-- The rack cap in effect: a cap that a higher manager assigns lowers it and never raises it (R224). -/
def Dev.rackCap (d : Dev) : Nat := min (d.effN F.CAP_RACKCAP_VALUE) (d.get F.CAP_PASSIGN_PASSIGN)

/-- The bytes of a CAPQ. -/
def capqBytes (q seq : Nat) (none_ : Bool) : List Nat := le 4 q ++ le 2 seq ++ [none_.toNat, 0, 0, 0]

/-- The manager has a sum for a sequence number (R222): above the cap it broadcasts the ratio; at or below the release level the release
time runs. -/
def Dev.rackSum (d : Dev) (seq sum draw : Nat) : Dev :=
  let cap := d.rackCap
  let d : Dev := { d with cap := { d.cap with rackLoad := sum, rackDraw := draw } }
  if cap < sum then
    ({ d with cap := { d.cap with rackQ := true, rackRel := none } }).send 0x11 (capqBytes (cap * 65536 / sum) seq false)
  else
    let low := decide (sum * 100 ≤ cap * (100 - d.effN F.CAP_TIMING_HYST))
    let rel := if d.cap.rackQ && low then
        (if d.cap.rackRel.isSome then d.cap.rackRel else some (d.loop + d.effN F.CAP_RELEASE_RELEASE * ms))
      else none
    { d with cap := { d.cap with rackRel := rel } }

/-- A half's sums taken by the manager; when both halves of a sequence number are there, they are added (R390). A CAPSUM that comes after its
slot was filled in is kept for later slots and sums nothing (R391). -/
def Dev.rackHalf (d : Dev) (x : RackHalf) : Dev :=
  let late := d.cap.halves.any (fun h => h.half == x.half && h.seq == x.seq)
  let d : Dev := { d with cap := { d.cap with
    halves := x :: d.cap.halves.filter (fun h => decide (d.loop ≤ h.tick + ms) && !(h.half == x.half && h.seq == x.seq)) } }
  if late then d
  else match d.cap.halves.find? (fun h => h.half != x.half && h.seq == x.seq) with
    | some o => d.rackSum x.seq (x.pload + o.pload) (x.pdraw + o.pdraw)
    | none => if d.get F.LNK_RING_WESTEND = 0 ∨ d.get F.LNK_RING_EASTEND = 0 then d.rackSum x.seq x.pload x.pdraw else d

/-- A CAPSUM arrives by the EAST, WEST or UP port, 0 to 2 (R390). On a rack ring and on the UP ring of its own manager it passes a node, which
adds its own figures if it drives its shelf; at a rack manager it ends a half, at a higher one it brings the whole sum (R224). -/
def Dev.capsumRx (d : Dev) (port seq load draw n : Nat) : Dev :=
  let role := d.linkCfg.role
  if d.cfg.link.isNone then d
  else if port = 2 then (if d.onUpRing then d.capsumAdd seq load draw n else d)
  else if role = 0 then (if d.drives then d.capsumAdd seq load draw n else d.capsumOut seq load draw n)
  else if !d.on F.CAP_CTRL_MANAGER then d
  else if role = 1 then d.rackHalf { half := port, seq := seq, pload := load, pdraw := draw, tick := d.loop }
  else d.rackSum seq load draw

/-- The ticks since the slot of a sequence number began: the last one of that number (R390). -/
def Dev.sinceSlot (d : Dev) (seq : Nat) : Nat := d.tim - (d.tim / 200 - (d.tim / 200 + 65536 - seq % 65536) % 65536) * 200

/-- What stands in for a half whose CAPSUM has not come: its latest sum, if no older than 8 us, else its highest of the last 1 ms (R391). With
none in the last 1 ms there is nothing to fill in, and the sequence number has no sum (log entry 96). -/
def Dev.halfFill (d : Dev) (half : Nat) : Option (Nat × Nat) :=
  match d.cap.halves.filter (fun h => h.half == half && !h.filled && decide (d.loop ≤ h.tick + ms)) with
  | [] => none
  | h :: t =>
    if d.loop ≤ h.tick + 8 * us then some (h.pload, h.pdraw)
    else some (t.foldl (fun a x => max a x.pload) h.pload, t.foldl (fun a x => max a x.pdraw) h.pdraw)

/-- A half's CAPSUM has not come within 3.5 us of its slot: it is filled in (R391). -/
def Dev.capsumTimeout (d : Dev) (half seq : Nat) : Dev :=
  if !d.on F.CAP_CTRL_MANAGER || decide (d.sinceSlot seq < 700) || d.cap.halves.any (fun h => h.half == half && h.seq == seq) then d
  else match d.halfFill half with
    | some v => d.rackHalf { half := half, seq := seq, pload := v.1, pdraw := v.2, tick := d.loop, filled := true }
    | none => d

/-- The rack sum has stayed at or below the release level for RELEASE: "none" is broadcast (R222). -/
def Dev.rackRelease (d : Dev) : Dev :=
  if d.cap.rackQ && due d.cap.rackRel d.loop then
    ({ d with cap := { d.cap with rackQ := false, rackRel := none } }).send 0x11 (capqBytes 0 0 true)
  else d

/-- A CAPQ arrives: PASSIGN is q times the contribution under the sequence number named, or under the highest contribution held
(R222, R391); LINKHOLD ends with a fresh broadcast (R224). -/
def Dev.capqRx (d : Dev) (q seq : Nat) (none_ : Bool) : Dev :=
  let d := d.fromManager.setB F.CAP_STATUS_LINKHOLD false
  if none_ then d.set F.CAP_PASSIGN_PASSIGN 0xFFFFFFFF
  else
    let p := match d.cap.sent.find? (fun x => x.1 == seq) with
      | some x => x.2
      | none => d.cap.sent.foldl (fun a x => max a x.2) 0
    d.set F.CAP_PASSIGN_PASSIGN (q * p / 65536)

/-! ### Arbitration by the manager (R395) -/

/-- The payload of an ARB frame: pair position, side, state, SELFOK, partner status, decision: 0 in a report, 1 in the manager's, which names
the side (R382, log entry 90). -/
def arbBytes (pos side state : Nat) (ok : Bool) (partner decision : Nat) : List Nat := [pos, side, state, ok.toNat, partner, decision]

/-- A pair device sends its ARB frame (R395). -/
def Dev.arbSend (d : Dev) : Dev :=
  if d.isDuplex && d.arbiter == 2 then
    d.send 2 (arbBytes (d.node / 16 % 16) (d.get F.DPX_CFG_SIDE) d.dpxState (d.on F.DPX_STATUS_SELFOK) (d.get F.DPX_STATUS_PSTATE) 0)
  else d

/-- A pair as the manager holds it. -/
def Dev.pair (d : Dev) (pos : Nat) : PairArb := (d.link.pairs.find? (fun x => x.pos == pos)).getD { pos := pos }
def Dev.putPair (d : Dev) (x : PairArb) : Dev :=
  d.modLink (fun l => { l with pairs := x :: l.pairs.filter (fun y => y.pos != x.pos) })

/-- Whether a side drives, and whether it stands by, by its last report. -/
def ArbSide.active (s : ArbSide) : Bool := s.state == 3 || s.state == 5
def ArbSide.standing (s : ArbSide) : Bool := s.state == 2 || s.state == 4

/-- A side's heartbeat is live: it has reported, with SELFOK 1, and has not fallen silent. -/
def ArbSide.live (s : ArbSide) : Bool := s.seen.isSome && s.selfOk && !s.timedOut

/-- The manager decides (R367): the active's heartbeat lost and the standby's live names the standby; else no change. -/
def Dev.arbDecide (d : Dev) (pos : Nat) : Dev :=
  let p := d.pair pos
  let name (side : Nat) (s o : ArbSide) : Dev := d.send 2 (arbBytes pos side s.state s.selfOk o.state 1)
  if p.a.active ∧ !p.a.live ∧ p.b.standing ∧ p.b.live then name 1 p.b p.a
  else if p.b.active ∧ !p.b.live ∧ p.a.standing ∧ p.a.live then name 0 p.a p.b
  else d

/-- An ARB frame arrives (R366, R395): a report at a manager, or the manager's decision at a device of that pair. -/
def Dev.arbRx (d : Dev) : ArbFrame → Dev
  | .decision pos side =>
    let d := d.fromManager
    if d.isDuplex && d.arbiter == 2 && pos == d.node / 16 % 16 then d.refereeAct side true else d
  | .report pos side state ok lost =>
    if d.linkCfg.role ≠ 1 then d
    else
      let p := d.pair pos
      let s : ArbSide := { seen := some d.now, state := state, selfOk := ok, timedOut := false }
      let p : PairArb := if side = 0 then { p with a := s } else { p with b := s }
      let p : PairArb := { p with
        lossAt := if s.standing && lost then (if p.lossAt.isSome then p.lossAt else some d.now) else if s.active then none else p.lossAt }
      (d.putPair p).arbDecide pos

/-- No ARB from a side for 16 us, or none from the active within 1 us of the standby's report of a loss: its heartbeat counts as lost (R395). -/
def Dev.arbTimeout (d : Dev) (pos : Nat) : Dev :=
  if d.linkCfg.role ≠ 1 then d
  else
    let p := d.pair pos
    let out (s : ArbSide) : Bool := due (s.seen.map (· + 16 * us)) d.now || (s.active && due (p.lossAt.map (· + us)) d.now)
    let mark (s : ArbSide) : ArbSide := if out s then { s with timedOut := true } else s
    (d.putPair { p with a := mark p.a, b := mark p.b }).arbDecide pos

/-! ### The manager's view and the tunnel (R396, R397) -/

/-- The address of this node's manager: a worker's as its LINKSTAT gave it, else by R378 with the fields below the manager's own level 0
(log entry 90). -/
def Dev.managerAddr (d : Dev) : Nat :=
  let c := d.linkCfg
  if c.role = 0 then ((d.link.nodes.find? (fun n => n.index == 0)).map (·.addr)).getD (d.node / 256 * 256 + 1)
  else if c.role = 1 then d.node / 4096 * 4096 + 2 else 3

/-- A FAULTSUM sent to the manager (R396). -/
def Dev.faultsum (d : Dev) : Dev :=
  if d.cfg.link.isSome then
    d.sendFrom d.node d.managerAddr (d.sendPorts 0x23) 0x23 (.frame 0x23 (le 4 d.wProStatus ++ le 4 d.wProUnack ++ [d.dpxState]))
  else d

/-- A ring node has been silent for 1 ms, or was never heard (R396). -/
def Dev.nodeLost (d : Dev) (i : Nat) : Dev :=
  let seen := ((d.link.nodes.find? (fun n => n.index == i)).map (·.seen)).getD 0
  if d.cfg.link.isSome && d.linkCfg.role != 0 && decide (0 < i ∧ i < d.linkCfg.nodes) && decide (seen + ms ≤ d.now) then
    ((d.setB (F.LNK_NODE_SEEN i) false).modLink (fun l => { l with nodeLost := i :: l.nodeLost.filter (· != i) })).raise 647
  else d

/-- No frame from the manager for 1 ms: MGRLOST, and the cap is held (R224, R396). -/
def Dev.mgrLost (d : Dev) : Dev :=
  if d.cfg.link.isSome && d.linkCfg.role == 0 && decide (d.link.mgrSeen + ms ≤ d.now) && !d.link.mgrLost then
    ((d.modLink (fun l => { l with mgrLost := true })).setB F.CAP_STATUS_LINKHOLD d.hasCap).raise 646
  else d

/-- LNK.n.NODE.AGE: milliseconds since the node's last FAULTSUM. -/
def Dev.wNodeAge (d : Dev) (i : Nat) : Nat :=
  match d.link.nodes.find? (fun n => n.index == i) with
  | some n => min 255 ((d.now - n.sum) / ms)
  | none => 0

/-- LNK.TUN_CTRL written: GO sends a TUNNEL request unless one is under way (R397). -/
def Dev.tunnelGo (d : Dev) (w : Nat) : Dev :=
  let busy := d.get F.LNK_TUN_CTRL_STATUS = 1
  let d := d.setB F.LNK_TUN_CTRL_WRITE (w.testBit 1)
  if !w.testBit 0 || busy then d
  else if !d.ready 15 then d.note 2 F.LNK_TUN_CTRL_GO.addr w 0
  else
    let d := (d.setB F.LNK_TUN_CTRL_GO true).set F.LNK_TUN_CTRL_STATUS 1
    let d := d.modLink (fun l => { l with tunEnd := some (d.now + ms) })
    let a := d.get F.LNK_TUN_ADDR_VALUE % 65536
    d.sendFrom d.node a (d.portsTo a) 0x30 (.frame 0x30 ([(d.on F.LNK_TUN_CTRL_WRITE).toNat]
      ++ le 4 (d.get F.LNK_TUN_REG_VALUE) ++ le 4 (d.get F.LNK_TUN_DATA_VALUE)))

/-- The answer to the latest TUNNEL request goes back to its source; of a request whose frame was not seen, to the manager (R397). -/
def Dev.tunnelAnswer (d : Dev) (v : Nat) : Dev :=
  let a := d.link.tunFrom.getD d.managerAddr
  d.sendFrom d.node a (d.portsTo a) 0x30 (.frame 0x30 (2 :: le 4 v))

/-- The end of a tunnel access with a status. -/
def Dev.tunnelEnd (d : Dev) (st : Nat) : Dev :=
  (d.modLink (fun l => { l with tunEnd := none })).setB F.LNK_TUN_CTRL_GO false |>.set F.LNK_TUN_CTRL_STATUS st

/-- The tunnel's answer arrives (R397). -/
def Dev.tunnelReply (d : Dev) (data : Nat) : Dev :=
  if d.get F.LNK_TUN_CTRL_STATUS = 1 then
    (if d.on F.LNK_TUN_CTRL_WRITE then d else d.set F.LNK_TUN_DATA_VALUE data).tunnelEnd 2
  else d

/-- No answer within 1 ms (R397). -/
def Dev.tunnelNone (d : Dev) : Dev := if due d.link.tunEnd d.now then d.tunnelEnd 3 else d

end Sys2Proof.Machine
end

