-- ==== Sys2Proof/Machine/Cause.lean ====
section
/-! DEFINITION. Whether a fault source's cause is present now (R196, R266, R281, R290, R314, R317, R349, R369, R400, R509). -/

namespace Sys2Proof.Machine

/-- The causes of a Bench's sources; PRESTART is gone on entry to FORCED, and PHDROP, PHDROP2 and SENSE1 are judged as gone once
raised (R196; log entry 17). -/
def Dev.causeBench (d : Dev) (n k : Nat) : Bool :=
  if 1 ≤ k ∧ k ≤ 6 then (d.wSpcause n).testBit (k - 1) else false

/-- The causes of a slot's sources (R279, R281, R287 to R290). -/
def Dev.causeSlot (d : Dev) (n k : Nat) : Bool :=
  let s := d.slot n
  let lanes (p : Lane → Bool) : Nat := ((List.range 3).filter (fun i => p (s.lane i))).length
  match k with
  | 5 => s.shorted
  | 6 => decide (2 ≤ lanes (·.failed))
  | 7 => s.state == .good && s.fetHigh
  | 8 => decide (1 ≤ lanes (·.suspect))
  | 9 => decide (1 ≤ lanes (·.failed))
  | 10 => d.on (F.HSW_STATUS_SEATA n) != d.on (F.HSW_STATUS_SEATB n)
  | _ => decide (k < 5) && s.gate != .sink

/-- The cause of a window source: beyond a threshold on an enabled side (R509). -/
def Dev.causeWindow (d : Dev) (i : Nat) : Bool :=
  match d.entry (srcWindow i) with
  | none => false
  | some e =>
    let lo := if 64 ≤ i then d.on (F.MON_HVM_RESULT_BELOW (i - 64)) else d.on (F.MON_WIN_BELOW i)
    let hi := if 64 ≤ i then d.on (F.MON_HVM_RESULT_ABOVE (i - 64)) else d.on (F.MON_WIN_ABOVE i)
    if d.fastTier i then (e.wlo && (d.mon i).cmpLo) || (e.whi && (d.mon i).cmpHi) else (e.wlo && lo) || (e.whi && hi)

/-- The causes of SEQ's sources of a group (R266). -/
def Dev.causeSeq (d : Dev) (k g : Nat) : Bool :=
  let rs := d.groupRails g
  match k with
  | 0 => rs.any (fun c => (d.railInput c).isSome && decide (c.wband ≠ 0) && !d.inGood c c.wband)
  | 1 => rs.any (fun c => d.rstate c.rail == .failed || (d.on (F.SEQ_STATE_FAILMARK c.rail) && !d.railOffNow c))
  | 2 => rs.any (fun c => d.rstate c.rail == .failed && (d.rail c.rail).startFail)
  | 3 => rs.any (fun c => !d.railOffNow c)
  | _ => (List.range 16).any (fun w => d.bit F.SEQ_REMOTE_STALE w && (d.staleGroups w).contains g)

/-- The causes of a string's sources (R314). -/
def Dev.causeStr (d : Dev) (s k : Nat) : Bool :=
  match k with
  | 0 => (d.strCfg s).isSome && (d.str s).absent
  | 1 => match d.strCfg s with
    | some c => decide (d.get (F.BAT_VBAT_VBAT s) ≤ c.vfloor)
    | none => false
  | 2 => (d.str s).chgBadSince.isSome
  | 3 => d.on (F.BAT_FLAGS_TFAULT s)
  | 4 => d.on (F.BAT_FLAGS_INCONSISTENT s)
  | _ => d.on (F.BAT_FLAGS_REF_STALE s)

/-- The causes of the power and landing sources (R509). -/
def Dev.causePower (d : Dev) (s : Nat) : Bool :=
  if s < 560 then d.get (F.SHR_STATE_LIVE (s - 536)) == 2
  else if s < 584 then decide (0 < (d.rect (s - 560)).run)
  else if s = 584 then d.on F.CAP_STATUS_MISS || d.cap.overAt.isSome
  else if s = 585 then d.eng.lost
  else if s = 586 then d.get F.ENG_STATUS_STATE == 2
  else if s = 587 then d.on F.ENG_STATUS_EXHAUST
  else if s = 588 then
    (d.get F.ENG_STATUS_STATE == 4 || d.get F.ENG_STATUS_STATE == 5) && decide (d.figures.rest < 0)
  else match d.cfg.ledger.caps[s - 589]? with
    | some c => d.capLow (s - 589) c
    | none => false

/-- The causes of the device sources (R317, R349, R369, R400). -/
def Dev.causeDevice (d : Dev) (s : Nat) : Bool :=
  if s = 617 then !d.sup.a
  else if s = 618 then !d.sup.b
  else if s = 619 then d.cfgBad
  else if s = coreEcc then d.rst.stopped
  else if s = 622 then !d.on F.CLK_PRESENT_LOOP
  else if s = 624 then d.get F.THM_STATUS_WARNACT != 0
  else if s = 625 then (List.range 6).any (fun n => d.on (F.THM_TEMP_FAULT n))
  else if s = 626 then (d.sensor 0).shut || (d.sensor 1).shut
  else if s = 627 then d.safeThm.asserted || d.safeLine
  else if s ≤ 627 then false
  else if s < 632 then (d.sensor (s - 626)).shut
  else if s = 632 then d.dpx.byMismatch
  else if s = 633 then d.isDuplex && !d.on F.DPX_STATUS_HBIN
  else if s = 634 then d.dpx.byLate
  else if s = 636 then d.isDuplex && d.dpxState == dpxFenced
  else if s = 637 then d.dpx.pairBad
  else if s = 638 then d.dpx.skew
  else if s = 640 then d.usedPorts.any (fun p => d.port p != portUp)
  else if s = 641 then d.onRack && !d.ringClosed
  else if s = 642 then d.usedPorts.any (fun p => d.port p == portFault)
  else if s = 644 then d.on F.TIM_STATUS_HOLDOVER
  else if s = 646 then d.link.mgrLost
  else if s = 647 then !d.link.nodeLost.isEmpty
  else if s = 648 then d.killLow && !d.killSink
  else false

/-- Whether the cause of source `s` is present now. -/
def Dev.causeNow (d : Dev) (s : Nat) : Bool :=
  if s < 192 then d.causeBench (s / 12) (s % 12)
  else if s < 384 then d.causeSlot ((s - 192) / 12) ((s - 192) % 12)
  else if s < 456 then d.causeWindow (s - 384)
  else if s < 536 then d.causeSeq ((s - 456) / 16) ((s - 456) % 16)
  else if s < 593 then d.causePower s
  else if s < 617 then d.causeStr ((s - 593) / 6) ((s - 593) % 6)
  else if s < 656 then d.causeDevice s
  else if s < 704 then (match d.entry s with
    | some e => d.dowelOut e.dowel
    | none => false)
  else false

/-- The number of the sources (R315). -/
def srcCount : Nat := 768

/-- Whether a low KILL_N raises KILLIN: this device does not itself sink it, and a duplex device hears its partner (R337, R373). -/
def Dev.killHeard (d : Dev) : Bool := d.killLow && !d.killSink && !(d.isDuplex && !d.on F.DPX_STATUS_HBIN)

/-- The conditions of a Bench's sources: of LIMTIME that the limiting has lasted LIMT (R191); of OVP that it is armed, and of both voltage
sources that a fast-tier output stands beyond, or the run of readings is full (R194, R195); of the others their causes. -/
def Dev.condBench (d : Dev) (n k : Nat) : Bool :=
  let ins := d.protInputs n
  let st := d.get (F.BEN_STATUS_STATE n)
  match k with
  | 4 => d.causeBench n 4 && (d.bench n).limDone
  | 5 => st != BState.off.code && (d.ovBeyond n
      || ins.any (fun i => !d.protFast n i && decide (d.effN (F.BEN_OCCFG_OV_DB n) ≤ (d.mon i).ovRun) && decide (0 < (d.mon i).ovRun)))
  | 6 => st == 3 && ins.any (fun i => if d.protFast n i then (d.mon i).cmpLo
      else decide (d.effN (F.BEN_OCCFG_UV_DB n) ≤ (d.mon i).uvRun) && decide (0 < (d.mon i).uvRun))
  | _ => d.causeBench n k

/-- The conditions of a slot's sources: its own trips are events of CHECK, RAMP and GOOD; FETDEG and SEATFAULT need their windows (R279, R281,
R290). -/
def Dev.condSlot (d : Dev) (n k : Nat) : Bool :=
  let s := d.slot n
  match k with
  | 7 => d.causeSlot n 7 && due s.fetEnd d.loop
  | 10 => d.causeSlot n 10 && (s.oddSince.map (fun t => decide (t + 500 * ms < d.loop))).getD false
  | _ => decide (5 ≤ k) && d.causeSlot n k

/-- The conditions of SEQ's sources of a group: RAILWARN's run is full, STOPFAIL's time has run out (R260, R266). -/
def Dev.condSeq (d : Dev) (k g : Nat) : Bool :=
  let rs := d.groupRails g
  match k with
  | 0 => rs.any (fun c => c.live && d.rstate c.rail == .good && d.ranFor c (d.rail c.rail).warnRun c.faildb)
  | 3 => rs.any (fun c => !d.railOffNow c && d.on (F.SEQ_STATE_STOPF c.rail))
  | _ => d.causeSeq k g

/-- Whether the condition that raises source `s` holds now (R321): its cause, but where the spec asks for more than the cause: of FEEDA and
FEEDB that the feed is lost while the other holds (R61), since a feed that never was good is not lost; of a converter-tier window that its run
is full; of SHRDIS that its run of polls is full (R213); of CAPMISS and CHGFORBID that their windows are complete (R221, R307); of
LOOPCLK that a detected stop has not been cleared yet (R24); of PORTDOWN that the port has been UP (R377, R398). COREECC is an event (log entry
88). -/
def Dev.condNow (d : Dev) (s : Nat) : Bool :=
  let ran (t : Option Nat) (n : Nat) : Bool := due (t.map (· + n)) d.loop
  if s < 192 then d.condBench (s / 12) (s % 12)
  else if s < 384 then d.condSlot ((s - 192) / 12) ((s - 192) % 12)
  else if s < 456 then if d.fastTier (s - 384) then d.causeNow s else ((d.entry s).map (d.windowOut (s - 384))).getD false
  else if s < 536 then d.condSeq ((s - 456) / 16) ((s - 456) % 16)
  else if 560 ≤ s ∧ s < 584 then (d.rect (s - 560)).told
  else if s = 584 then ran d.cap.missAt (10 * ms) || ran d.cap.overAt (10 * ms)
  else if 593 ≤ s ∧ s < 617 ∧ (s - 593) % 6 = 2 then ran (d.str ((s - 593) / 6)).chgBadSince (10 * sec)
  else if s = 617 then d.sup.lostA && d.sup.b
  else if s = 618 then d.sup.lostB && d.sup.a
  else if s = coreEcc then false
  else if s = 622 then !d.on F.CLK_PRESENT_LOOP || d.asyncLow
  else if s = 640 then d.usedPorts.any (fun p => d.port p != portUp && d.get (F.LNK_STATUS_TRAINS p) != 0)
  else if s = 648 then d.killHeard
  else d.causeNow s

/-- The used sources whose condition holds now, in ascending number. -/
def Dev.present (d : Dev) : List Nat := (List.range srcCount).filter (fun s => (d.entry s).isSome && d.condNow s)

/-- A condition that holds in the tick PRO READY sets is raised in that tick (R321). -/
def Dev.raisePresent (d : Dev) : Dev := d.raiseAll d.present

/-! ### Clearing, acknowledging, firmware sources (R326, R330, R334, R337) -/

/-- The sticky bits of word `k` as PRO.k.STICKY shows them, and the other bits PRO keeps of a set source. -/
def Dev.proWord (d : Dev) (k : Nat) (p : Raised → Bool) : Nat :=
  d.raised.foldl (fun a x => if x.src / 32 = k ∧ p x then a + 2 ^ (x.src % 32) else a) 0

/-- PRO.k.STICKY. -/
def Dev.wSticky (d : Dev) (k : Nat) : Nat := d.proWord k (fun _ => true)

/-- PRO.k.ACK. -/
def Dev.wAck (d : Dev) (k : Nat) : Nat := d.proWord k (·.acked)

/-- PRO.k.ESC. -/
def Dev.wEsc (d : Dev) (k : Nat) : Nat := d.proWord k (fun x => x.eff != x.base)

/-- PRO.k.CAUSE. -/
def Dev.wCause (d : Dev) (k : Nat) : Nat :=
  maskOf 32 (fun j => decide (32 * k + j < srcCount) && (d.entry (32 * k + j)).isSome && d.causeNow (32 * k + j))

/-- PRO.INFO of the selected source. -/
def Dev.wProInfo (d : Dev) : Nat :=
  let s := d.get F.PRO_SEL_SOURCE
  let e := d.entry s
  let r := d.raisedAt s
  let raw := d.entryRaw s
  let flags := match raw with
    | some e => e.kill.toNat + 2 * e.clamp.toNat + 4 * e.pwmz.toNat + 8 * e.wlo.toNat + 16 * e.whi.toNat
    | none => 0
  (raw.map (·.cls.code)).getD 0 + 4 * ((r.map (·.eff.code)).getD 0) + 16 * (fixedCls s).isSome.toNat + 32 * e.isSome.toNat
    + 64 * r.isSome.toNat + 128 * ((r.map (·.acked)).getD false).toNat
    + 256 * (e.isSome && d.causeNow s).toNat + 512 * flags

/-- The alert line of the two-wire target may be asserted anew once ALERT has fallen (R463). -/
def Dev.alertFell (d : Dev) : Dev := if d.alert then d else { d with target := { d.target with answered := false } }

/-- A W1C write to PRO.k.STICKY: each source named clears if its cause is gone and hardware did not raise it in the same SYS cycle (R11); each refused bit counts, one NOTE tells of them
all, and what nothing holds any more is let go (R334, R335). -/
def Dev.stickyClear (d : Dev) (k w : Nat) : Dev :=
  let named := d.raised.filter (fun x => x.src / 32 == k && w.testBit (x.src % 32))
  let refused := named.filter (fun x => d.causeNow x.src)
  let gone := (named.filter (fun x => !d.freshSrc.contains x.src && !d.causeNow x.src)).map (·.src)
  let d := { d with raised := d.raised.filter (fun x => !gone.contains x.src) }
  let d := d.set F.PRO_CLEAR_REFUSED_COUNT (d.get F.PRO_CLEAR_REFUSED_COUNT + refused.length)
  let d := if refused.isEmpty then d else d.note 3 (0xE0100 + 4 * k) w (d.wSticky k)
  let d := if gone.contains 622 then ({ d with asyncLow := false } : Dev).showSafeLine else d
  let d := d.releaseAll
  (Dev.each (List.range 16) (fun n d => d.slotOnward n) d).alertFell

/-- A write of 1 to bits of PRO.k.ACK: each set source named is acknowledged (R330). -/
def Dev.ackWrite (d : Dev) (k w : Nat) : Dev :=
  ({ d with
    raised := d.raised.map (fun x => if x.src / 32 = k ∧ w.testBit (x.src % 32) then { x with acked := true } else x) } : Dev).alertFell

/-- A write to PRO.FWRAISE0 or PRO.FWRAISE1: bits of unused sources raise nothing and leave a NOTE of kind 03h (R316, R326). -/
def Dev.fwRaise (d : Dev) (hi : Bool) (w : Nat) : Dev :=
  let at0 := if hi then 32 else 0
  let bits := (List.range 32).filter (fun j => w.testBit j)
  let used := bits.filter (fun j => (d.entry (704 + at0 + j)).isSome)
  let d := Dev.each used (fun j d => d.fwPulse (at0 + j)) d
  if used.length = bits.length then d else d.note 3 (if hi then 0xE0014 else 0xE0010) w 0

/-- A low level of KILL_N that is heard raises KILLIN (R337, R373), once while it stays (R321). -/
def Dev.killCheck (d : Dev) : Dev := if d.ready 12 && d.killHeard && !d.sticky 648 then d.raise 648 else d

/-- The level of KILL_N that others than this device give it, as it reads it (R337). -/
def Dev.killLine (d : Dev) (low : Bool) : Dev :=
    let d := { d with killLow := low }
  if d.ready 12 && d.killHeard then d.raise 648 else d

end Sys2Proof.Machine
end

