-- ==== Sys2Proof/Machine/Layout.lean ====
section
/-! DEFINITION. The bytes of a container: its envelope header, its directory, and the entries of the sections whose layout the spec gives
(R127, R128, R228, R249, R250, R297, R318, R341), the revocation body and the manifest body (R484, R490). -/

namespace Sys2Proof.Machine

/-! ### Bytes of a list: a byte that the list does not hold reads as 0 -/

/-- Byte `i`. -/
def byteAt (l : List Nat) (i : Nat) : Nat := l[i]?.getD 0 % 256

/-- The `n`-byte little-endian number at byte `i`. -/
def leAt (l : List Nat) (i n : Nat) : Nat := fromLe ((List.range n).map (fun k => byteAt l (i + k)))

/-- A signed byte. -/
def sByteAt (l : List Nat) (i : Nat) : Int := toSigned 8 (byteAt l i)

/-- A T12 figure in a two-byte field (R15). -/
def t12At (l : List Nat) (i : Nat) : Int := toSigned 12 (leAt l i 2 % 4096)

/-- The `n` bytes from byte `i` on. -/
def cut (l : List Nat) (i n : Nat) : List Nat :=
  let x := (l.drop i).take n
  x ++ List.replicate (n - x.length) 0

/-- Whether every byte at the places listed is 0. -/
def zeroAt (l : List Nat) (places : List Nat) : Bool := places.all (fun i => byteAt l i == 0)

/-- The places `a` to `b - 1`. -/
def span (a b : Nat) : List Nat := (List.range (b - a)).map (a + ·)

/-- The entries of `size` bytes in a section, with their numbers. A last entry cut short does not count (R129). -/
def entriesOf (l : List Nat) (size : Nat) : List (Nat × List Nat) :=
  (List.range (l.length / size)).map (fun i => (i, (l.drop (size * i)).take size))

/-! ### The boot record (R488) -/

/-- The 64 bytes of a boot record. -/
def bootBytes (b : BootRec) : List Nat :=
  let l := le 2 0x4252 ++ [1, b.active] ++ le 4 b.count ++ [b.state0, b.state1, b.trialBoot, 0] ++ le 4 b.pkg0 ++ le 4 b.pkg1
    ++ List.replicate 40 0
  l ++ le 4 (crc32 l)

/-- Whether a copy holds a boot record: its MAGIC, its FORMAT and its CRC are right. -/
def bootValid (l : List Nat) : Bool :=
  leAt l 0 2 == 0x4252 && byteAt l 2 == 1 && leAt l 60 4 == crc32 (cut l 0 60)

/-- A boot record as its 64 bytes lay it out. -/
def bootOf (l : List Nat) : BootRec where
  active := byteAt l 3
  count := leAt l 4 4
  state0 := byteAt l 8
  state1 := byteAt l 9
  trialBoot := byteAt l 10
  pkg0 := leAt l 12 4
  pkg1 := leAt l 16 4

/-- The boot record: the valid copy with the higher COUNT. Where neither is valid, no slot holds an image (log entry 77). -/
def Upd.boot (u : Upd) : BootRec :=
  (u.copies.toList.filter bootValid).foldl (fun b l => if b.count ≤ (bootOf l).count then bootOf l else b) {}

/-- A boot record written, to the two copies in turn. -/
def Upd.writeBoot (u : Upd) (b : BootRec) : Upd :=
  let n := b.count + 1
  { u with copies := u.copies.setIfInBounds (n % 2) (bootBytes { b with count := n }) }

/-! ### The envelope header (R127) -/

/-- The envelope header as its 256 bytes lay it out. -/
def envelopeOf (b : List Nat) : Header where
  magic := leAt b 0 4
  format := leAt b 4 2
  kind := byteAt b 6
  keyIndex := byteAt b 7
  device := leAt b 8 2
  family := byteAt b 10
  revMin := byteAt b 11
  length := leAt b 12 4
  buildId := leAt b 16 8
  baseId := leAt b 24 8
  version := leAt b 32 4
  iv := leAt b 36 12
  joiner := leAt b 48 4
  reserved := leAt b 52 204

/-- The bytes that lay a header out (R127). -/
def envelopeBytes (h : Header) : List Nat :=
  le 4 h.magic ++ le 2 h.format ++ [h.kind, h.keyIndex] ++ le 2 h.device ++ [h.family, h.revMin] ++ le 4 h.length ++ le 8 h.buildId
    ++ le 8 h.baseId ++ le 4 h.version ++ le 12 h.iv ++ le 4 h.joiner ++ le 204 h.reserved

/-! ### The directory and the sections (R128 to R130) -/

/-- A directory entry as its 16 bytes lay it out. -/
def sectionOf (b : List Nat) : SectionHdr where
  id := byteAt b 0
  version := byteAt b 1
  reserved := leAt b 2 2
  offset := leAt b 4 4
  length := leAt b 8 4
  crc := leAt b 12 4

/-! ### The entries -/

/-- A RAILS entry's rail kind with what its REF names (R249); `none` where KIND is 00h or no kind. -/
def railKindOf (kind ref : Nat) : Option RailKind :=
  match kind with
  | 1 => some (.bench ref)
  | 2 => some (.slot ref)
  | 3 => some (.pmbus (ref % 4) (ref / 4 % 128) (ref / 512 % 32))
  | 4 => some .watch
  | 5 => some (.cond ref)
  | 6 => some .remote
  | _ => none

/-- The RAILS entry of a rail (R249). -/
def railOf (r : Nat) (b : List Nat) : Option RailCfg :=
  (railKindOf (byteAt b 0) (leAt b 2 2)).map (fun k => {
    rail := r, kind := k, live := (byteAt b 1).testBit 0, group := byteAt b 4, monin := byteAt b 5, glo := byteAt b 6, ghi := byteAt b 7
    wband := byteAt b 8, gooddb := byteAt b 9, faildb := byteAt b 10, starttime := leAt b 12 2, vnom := leAt b 14 2 })

/-- Whether a RAILS entry breaks its layout: a kind that is none, a listed range left, or a bit set that is not listed (R249). -/
def railUnfit (b : List Nat) : Bool :=
  let k := byteAt b 0
  let ref := leAt b 2 2
  let mon := byteAt b 5
  if k = 0 then !zeroAt b (span 1 16)
  else decide (6 < k ∨ 1 < byteAt b 1 ∨ 15 < byteAt b 4 ∨ byteAt b 6 = 0 ∨ byteAt b 7 = 0 ∨ byteAt b 9 = 0 ∨ byteAt b 10 = 0)
    || byteAt b 11 != 0 || leAt b 12 2 == 0
    || (if k = 3 ∨ k = 4 then decide (72 ≤ mon ∧ mon ≠ 0xFF) else mon != 0xFF)
    || (k == 3 && decide (2 ^ 14 ≤ ref)) || ((k == 4 || k == 6) && ref != 0)

/-- An EDGES entry (R250). -/
def edgeOf (b : List Nat) : EdgeCfg where
  src := leAt b 0 2 % 1024
  dst := leAt b 2 2 % 1024
  delay := leAt b 4 2 % 2 ^ 15
  delayMs := (leAt b 4 2).testBit 15
  orderOnly := (byteAt b 6).testBit 0
  stopDelay := byteAt b 7

/-- Whether an EDGES entry sets a bit that is not listed (R250). -/
def edgeUnfit (b : List Nat) : Bool := decide (1024 ≤ leAt b 0 2 ∨ 1024 ≤ leAt b 2 2 ∨ 1 < byteAt b 6)

/-- The class of a code (R318). -/
def clsOf : Nat → Cls
  | 0 => .note
  | 1 => .warn
  | 2 => .trip
  | _ => .halt

/-- The FAULTMAP entry of a source (R318). One of zeros only is that of an unused source, and is not listed. -/
def faultOf (s : Nat) (b : List Nat) : Option FaultEntry :=
  let f := byteAt b 1
  if b.all (· == 0) then none
  else some {
    src := s, used := (byteAt b 0).testBit 7, cls := clsOf (byteAt b 0 % 4), kill := f.testBit 0, clamp := f.testBit 1, pwmz := f.testBit 2, wlo := f.testBit 3
    whi := f.testBit 4, benches := leAt b 2 2, slots := leAt b 4 2, thr := byteAt b 6, pfw := byteAt b 7, share := byteAt b 8 % 16
    wdb := byteAt b 9 % 16, dowel := byteAt b 10, tag := leAt b 12 4 }

/-- Whether a FAULTMAP entry sets a bit that is not listed (R318). -/
def faultUnfit (b : List Nat) : Bool :=
  decide (byteAt b 0 % 128 / 4 ≠ 0 ∨ 32 ≤ byteAt b 1 ∨ 16 ≤ byteAt b 8 ∨ 16 ≤ byteAt b 9) || byteAt b 11 != 0

/-- A LEDGER with the store of entry `i` put behind those before it (R227, R228). An INPUT store's input is the one that MONITOR binds to
it; 255 stands for none. -/
def ledgerPut (mons : List MonCfg) (l : Ledger) (i : Nat) (b : List Nat) : Ledger :=
  match byteAt b 0 with
  | 1 => { l with caps := l.caps ++ [{
      cnom := leAt b 4 4, tol := leAt b 8 2, vd := leAt b 10 2, vsense := leAt b 12 2, src := leAt b 16 4, load := leAt b 20 4
      bat := byteAt b 24, auditable := (leAt b 2 2).testBit 0, pos := i }] }
  | 2 => { l with strings := l.strings ++ [byteAt b 4], stringPos := l.stringPos ++ [i] }
  | 3 => { l with holds := l.holds ++ [{ rects := leAt b 4 4, hold := leAt b 8 4, pos := i }] }
  | 4 => { l with landings := l.landings ++ [{
      group := byteAt b 1, tland := leAt b 4 2, pfloor := leAt b 8 4, slots := leAt b 12 2, benches := leAt b 14 2
      loads := leAt b 16 4, pos := i }] }
  | 5 => { l with inputs := l.inputs ++ [{
      input := ((mons.find? (fun m => m.bind == .store i)).map (·.input)).getD 255, db := leAt b 4 2, pos := i }] }
  | _ => l

/-- Whether a LEDGER store breaks its layout: a kind that is none, a listed range left, or a byte or flag set that is not listed
(R227, R228). -/
def storeUnfit (b : List Nat) : Bool :=
  let flags := leAt b 2 2
  match byteAt b 0 with
  | 0 => !zeroAt b (span 1 32)
  | 1 => decide (1 < flags) || !zeroAt b ([14, 15] ++ span 25 32)
  | 2 => decide (flags ≠ 0) || !zeroAt b (span 5 32)
  | 3 => decide (flags ≠ 0) || !zeroAt b (span 12 32)
  | 4 => decide (flags ≠ 0 ∨ 7 < byteAt b 1 ∨ leAt b 4 2 = 0 ∨ 10000 < leAt b 4 2) || !zeroAt b ([6, 7] ++ span 20 32)
  | 5 => decide (flags ≠ 0 ∨ leAt b 4 2 = 0 ∨ 1000 < leAt b 4 2) || !zeroAt b (span 6 32)
  | _ => true

/-- The BATTERY entry of a string that is PRESENT (R297). -/
def stringOf (s : Nat) (b : List Nat) : Option StringCfg :=
  if !(byteAt b 0).testBit 0 then none
  else some {
    string := s, unit := if byteAt b 1 = 0xFF then none else some (byteAt b 1, byteAt b 2, byteAt b 3)
    rshunt := (leAt b 4 4 : Rat) / 10000000, cnom := (leAt b 8 4 : Rat) * 36 / 10, rint := (leAt b 12 2 : Rat) / 10000
    vfloor := leAt b 14 2, vfull := leAt b 16 2, ifull := (leAt b 18 2 : Rat) / 100, pdmax := leAt b 20 4
    tchLo := sByteAt b 24, tchHi := sByteAt b 25, tdisLo := sByteAt b 26, tdFull := sByteAt b 27, tdisHi := sByteAt b 28
    tswap := byteAt b 29, irest := (leAt b 30 2 : Rat) / 100, islow := (leAt b 32 2 : Rat) / 100, trest := leAt b 34 2
    ocv := (List.range 12).map (fun k => leAt b (36 + 2 * k) 2), tbeta := leAt b 60 2 }

/-- Whether a BATTERY entry breaks its layout (R297). -/
def stringUnfit (b : List Nat) : Bool :=
  let bus := byteAt b 1
  if byteAt b 0 = 0 then false
  else decide (1 < byteAt b 0 ∨ 3 < bus ∧ bus ≠ 0xFF ∨ byteAt b 29 = 0) || !zeroAt b [62, 63]
    || (bus != 0xFF && decide (127 < byteAt b 2 ∨ byteAt b 3 < 0xD0 ∨ 0xFD < byteAt b 3))

/-- The THERMAL record of a sensor that is USED (R341). -/
def thermOf (n : Nat) (b : List Nat) : Option ThermCfg :=
  if !(byteAt b 13).testBit 0 then none
  else some {
    sensor := n, warn := t12At b 0, thr := t12At b 2, shut := t12At b 4, restart := t12At b 6, hyst := byteAt b 8, tder := byteAt b 9
    benches := leAt b 10 2, thrMask := byteAt b 12 }

/-- Whether a THERMAL record breaks its layout: sensors 0 and 1 must be USED (R341). -/
def thermUnfit (n : Nat) (b : List Nat) : Bool :=
  let used := (byteAt b 13).testBit 0
  decide (1 < byteAt b 13) || !zeroAt b [14, 15] || (decide (n < 2) && !used)
    || (used && decide (byteAt b 8 = 0 ∨ 40 < byteAt b 8 ∨ byteAt b 9 < 10 ∨ 100 < byteAt b 9))

/-! ### Revocations and manifests (R484, R490) -/

/-- The entry of a manifest (R490). -/
def manifestEntryOf (b : List Nat) : ManifestEntry where
  target := leAt b 0 2
  kind := byteAt b 2
  length := leAt b 4 4
  digest := leAt b 8 24

/-- Whether one device can lie under two target addresses: each field of the one is the other's, or either is all ones (R490). -/
def targetsMeet (t u : Nat) : Bool :=
  let meet (a b ones : Nat) : Bool := a == b || a == ones || b == ones
  meet (t / 4096 % 16) (u / 4096 % 16) 15 && meet (t / 256 % 16) (u / 256 % 16) 15 && meet (t / 16 % 16) (u / 16 % 16) 15
    && meet (t % 8) (u % 8) 7

/-- Whether a package names two containers of one KIND for one device (R490). -/
def kindTwice : List ManifestEntry → Bool
  | [] => false
  | e :: t => t.any (fun f => f.kind == e.kind && targetsMeet e.target f.target) || kindTwice t

/-- A manifest body of `n` bytes, where its head and its entries keep to their layout and no device is named two containers of one KIND
(R490). -/
def manifestOf (b : List Nat) (size : Nat) : Option Manifest :=
  let n := leAt b 4 2
  let l := (List.range n).map (fun i => cut b (16 + 32 * i) 32)
  let m := l.map manifestEntryOf
  if decide (1 < byteAt b 6) || !zeroAt b (span 9 16) || l.any (fun x => byteAt x 3 != 0) || decide (size < 16 + 32 * n) || kindTwice m then none
  else some { pkg := leAt b 0 4, onCommand := byteAt b 6 == 1, window := leAt b 7 2, entries := m }

end Sys2Proof.Machine

namespace Sys2Proof
open Sys2Proof.Machine

/-- The header of a container (R127). -/
def Container.hdr (c : Container) : Header := envelopeOf c.head

/-- The used entries of a container's directory (R128). -/
def Container.sections (c : Container) : List SectionHdr :=
  ((List.range 32).map (fun i => sectionOf (cut c.body (16 * i) 16))).filter (fun s => s.id != 0)

/-- The content of a section (R128). -/
def Container.bytesOf (c : Container) (s : SectionHdr) : List Nat := cut c.body s.offset s.length

/-- The content of the section with an ID; nothing where the container has none. -/
def Container.section (c : Container) (id : Nat) : List Nat :=
  ((c.sections.find? (fun s => s.id == id)).map c.bytesOf).getD []

/-- Whether the section with an ID holds its entry `k`: missing trailing entries count as unconfigured (R129). -/
def Container.holds (c : Container) (id size k : Nat) : Bool :=
  c.sections.any (fun s => s.id == id && decide (size * (k + 1) ≤ s.length))

/-- The entries of a list that the section with an ID holds, counted by their place. -/
def Container.held {α : Type} (c : Container) (id size : Nat) (l : List α) : List α :=
  ((l.mapIdx (fun i x => (i, x))).filter (fun x => c.holds id size x.1)).map (·.2)

/-- The plane in entry `i` of the BENCH section with its tag: bits 11:0 of its bytes 0 and 1 (R131). -/
def Container.tagged (c : Container) (i : Nat) (p : Plane) : Plane := { p with tag := leAt (c.section 3) (2048 * i) 2 % 4096 }

/-- The structure that a container's sections give (R129): those whose entry layout the spec gives are read from their bytes; of the others
what their sections hold. -/
def Container.content (c : Container) : Content :=
  let r := c.rest
  let has (id : Nat) : Bool := c.sections.any (fun s => s.id == id)
  { r with
    pins := r.pins.filter (fun p => decide (p.pin < 32) && c.holds 2 16 p.pin)
    chans := r.chans.filter (fun x => decide (x.chan < 32) && c.holds 2 16 (32 + x.chan))
    planes := if c.hdr.kind = 2 then ((c.held 3 2048 r.planes).mapIdx (fun i x => (x.1, c.tagged i x.2)))
      else (r.planes.filter (fun x => c.holds 3 2048 x.1)).map (fun x => (x.1, c.tagged x.1 x.2))
    mons := r.mons.filter (fun m => decide (m.input < 72) && c.holds 4 32 m.input)
    tsens := r.tsens.filter (fun t => decide (2 ≤ t.sensor ∧ t.sensor < 6) && c.holds 4 32 (70 + t.sensor))
    slots := r.slots.filter (fun s => c.holds 5 64 s.slot)
    rects := r.rects.filter (fun x => c.holds 6 32 x.rect)
    strings := (entriesOf (c.section 7) 64).filterMap (fun x => stringOf x.1 x.2)
    ledger := (entriesOf (c.section 8) 32).foldl (fun l x => ledgerPut r.mons l x.1 x.2) {}
    rails := (entriesOf (c.section 9) 16).filterMap (fun x => railOf x.1 x.2)
    edges := (entriesOf (c.section 10) 8).map (fun x => edgeOf x.2)
    faults := (entriesOf (c.section 11) 16).filterMap (fun x => faultOf x.1 x.2)
    dowels := r.dowels.filter (fun x => c.holds 12 64 x.dowel)
    therm := (entriesOf ((c.section 13).take 96) 16).filterMap (fun x => thermOf x.1 x.2)
    restdly := leAt (c.section 13) 96 2
    link := if has 14 then r.link else none
    duplex := if has 15 then r.duplex else none
    defaults := c.held 16 8 r.defaults
    bounds := c.held 17 16 r.bounds }

/-- The first 24 bytes of a container's digest, as a manifest names them (R490). -/
def Container.digest (c : Container) : Nat := (Config.sha384 c.raw).toNat % 2 ^ 192

/-- A firmware container's image (R484): its body. -/
def Container.image (c : Container) : List Nat := cut c.body 0 (c.len - 368)

/-- The SIGN index that a revocation names (R484). -/
def Container.revokes (c : Container) : Nat := byteAt c.body 0

/-- A manifest container's body (R490). -/
def Container.manifest (c : Container) : Option Manifest := manifestOf c.body (c.len - 368)

end Sys2Proof
end

