-- ==== Sys2Proof/Machine/Drawer.lean ====
section
/-! DEFINITION. The SYS bus memories, the Drawer's pages and their ownership, the core's write buffer, and the control of the DMA
channels (spec/19_host_drawer_dma.md, R500 of spec/23_address_map.md). -/

namespace Sys2Proof.Machine

/-! ### The memories (R29, R500) -/

/-- The byte at a SYS bus address of core memory or the Drawer; a byte that nothing has written reads 0: the Drawer is zeroed by a cold
reset (R441), and core memory's power-on contents are the model's choice (log entry 4). -/
def Dev.memByte (d : Dev) (a : Nat) : Nat := (Memory.read a d.mem).toNat

/-- A byte written to core memory or the Drawer. -/
def Dev.memPut (d : Dev) (a v : Nat) : Dev := { d with mem := Memory.write a (BitVec.ofNat 8 v) d.mem }

/-- `n` bytes from a SYS bus address. -/
def Dev.memBytes (d : Dev) (a n : Nat) : List Nat := (List.range n).map (fun i => d.memByte (a + i))

/-- Bytes written from a SYS bus address on. -/
def Dev.memWrite (d : Dev) (a : Nat) : List Nat → Dev
  | [] => d
  | b :: t => (d.memPut a b).memWrite (a + 1) t

/-- The base address of the Drawer (R500). -/
def drawerBase : Nat := 0x20000000

/-- The Drawer page that a SYS bus address lies in, if it lies in the Drawer. -/
def pageOf (a : Nat) : Option Nat := if drawerBase ≤ a ∧ a < drawerBase + 0x40000 then some ((a - drawerBase) / 0x1000) else none

/-! ### Ownership (R435, R436) -/

/-- FREE. -/
def ownFree : Nat := 0

/-- HOST. -/
def ownHost : Nat := 1

/-- DEVICE. -/
def ownDev : Nat := 2

/-- BAD. -/
def ownBad : Nat := 3

/-- The state of page `p`, from WIN.OWN. -/
def Dev.own (d : Dev) (p : Nat) : Nat := d.get (F.WIN_OWN_OWN (p / 16)) / 4 ^ (p % 16) % 4

/-- Page `p` put into a state; BADPAGES follows. -/
def Dev.setOwn (d : Dev) (p v : Nat) : Dev :=
  let f := F.WIN_OWN_OWN (p / 16)
  let w := d.get f
  let d := d.set f (w - w / 4 ^ (p % 16) % 4 * 4 ^ (p % 16) + v * 4 ^ (p % 16))
  d.set F.WIN_STATUS_BADPAGES ((List.range 64).filter (fun q => d.own q == ownBad)).length

/-- The word of WIN.ENGINE that shows page `p`. -/
def engineFld (p : Nat) : Fld := if p < 32 then F.WIN_ENGINE0_HELD else F.WIN_ENGINE1_HELD

/-- Whether an engine holds page `p` (R435). -/
def Dev.engineHolds (d : Dev) (p : Nat) : Bool := d.bit (engineFld p) (p % 32)

/-- Page `p` held or let go by an engine. -/
def Dev.hold1 (d : Dev) (p : Nat) (b : Bool) : Dev := d.setBit (engineFld p) (p % 32) b

/-- Pages held or let go by an engine. -/
def Dev.holdPages (d : Dev) (l : List Nat) (b : Bool) : Dev := Dev.each l (fun p d => d.hold1 p b) d

/-- Page `p` passed to HOST; HST.IRQ_STAT.OWN tells of it. -/
def Dev.toHost (d : Dev) (p : Nat) : Dev := (d.setOwn p ownHost).stick F.HST_IRQ_STAT_OWN 1

/-- An engine's return of a page on completion: to HOST, or to FREE (R436). -/
def Dev.engineReturn (d : Dev) (p : Nat) (free : Bool) : Dev :=
  let d := d.hold1 p false
  if d.own p ≠ ownDev then d else if free then d.setOwn p ownFree else d.toHost p

/-- A reclaim of a HOST page by the core (R436). -/
def Dev.reclaim (d : Dev) (p : Nat) : Dev :=
  ((d.setOwn p ownFree).stick F.HST_HSTICKY_RECLAIMED 1).stick F.HST_IRQ_STAT_RECLAIM 1

/-- A requested transition and its result (R436): 0 done, 1 not in FROM, 2 not permitted to this requester, 3 held by an engine, 4
zeroing under way. -/
def Dev.xfer (d : Dev) (host : Bool) (p src dst key : Nat) : Dev × Nat :=
  if d.zeroing.contains p then (d, 4)
  else if d.own p ≠ src then (d, 1)
  else match src, dst, host with
    | 0, 1, true => (d.toHost p, 0)
    | 0, 2, false => (d.setOwn p ownDev, 0)
    | 1, 2, true => (d.setOwn p ownDev, 0)
    | 1, 0, true => (d.setOwn p ownFree, 0)
    | 1, 0, false => if key = 0x3A5C then (d.reclaim p, 0) else (d, 2)
    | 2, 1, false => if d.engineHolds p then (d, 3) else (d.toHost p, 0)
    | 2, 0, false => if d.engineHolds p then (d, 3) else (d.setOwn p ownFree, 0)
    | 3, 0, false => ({ d with zeroing := d.zeroing ++ [p] }, 4)
    | _, _, _ => (d, 2)

/-- A write of WIN.XFER: the fields are stored, the transition is requested, and RESULT shows what came of it. -/
def Dev.winXfer (d : Dev) (host : Bool) (w : Nat) : Dev :=
  if !d.ready 21 then
    (d.set F.WIN_XFER_PAGE (w % 64) |>.set F.WIN_XFER_FROM (w / 256 % 4) |>.set F.WIN_XFER_TO (w / 1024 % 4)).note 2 0x170010 w
      (d.plainWord 0x170010)
  else
    let p := w % 64
    let src := w / 256 % 4
    let dst := w / 1024 % 4
    let d := d.set F.WIN_XFER_PAGE p |>.set F.WIN_XFER_FROM src |>.set F.WIN_XFER_TO dst
    let (d, r) := d.xfer host p src dst (w / 0x10000)
    d.set F.WIN_XFER_RESULT r

/-- An uncorrectable error in page `p`: BAD, and MEMECC (R30, R436). -/
def Dev.pageBad (d : Dev) (p : Nat) : Dev := (d.setOwn p ownBad).raise 621

/-- An uncorrectable error in the record area of the capture ring: the record is written with BAD set, and MEMECC (R30, R411, R425). -/
def Dev.recordBad (d : Dev) (seq : Nat) : Dev :=
  let mark (l : List Rec) : List Rec := l.map (fun r => if r.seq = seq then { r with flags := r.flags ||| 1 } else r)
  if (d.evr.staged ++ d.evr.page).any (fun r => r.seq == seq) then
    ({ d with evr := { d.evr with staged := mark d.evr.staged, page := mark d.evr.page } } : Dev).raise 621
  else d

/-- An uncorrectable error of ECC where it is found (R30). -/
def Dev.memEcc (d : Dev) : EccAt → Dev
  | .page p => d.pageBad p
  | .ringRecord seq => d.recordBad seq

/-- The zeroing of a BAD page ends: every byte 0, FREE (R436). -/
def Dev.pageZeroDone (d : Dev) (p : Nat) : Dev :=
  if d.zeroing.contains p then
    let lo := drawerBase + 0x1000 * p
    let d := { d with
      zeroing := d.zeroing.filter (· != p)
      mem := Memory.forget lo (lo + 0x1000) d.mem }
    let d := d.setOwn p ownFree
    if d.get F.WIN_XFER_PAGE = p then d.set F.WIN_XFER_RESULT 0 else d
  else d

/-! ### The core and the Drawer (R437, R439) -/

/-- A core write that drains after its page has left DEVICE: discarded, and told of (R437). -/
def Dev.lateWrite (d : Dev) (off w : Nat) : Dev :=
  ((d.stick F.WIN_STATUS_LATEWR 1).set F.WIN_STATUS_LASTLATE (off / 0x1000)).note 2 0x17001C w off

/-- One buffered core write drained to the Drawer (R439). -/
def Dev.drainOne (d : Dev) : Dev :=
  match d.wbuf with
  | [] => d
  | (off, w) :: t =>
    let d := { d with wbuf := t }
    if d.own (off / 0x1000) = ownDev then d.memWrite (drawerBase + off) (le 4 w) else d.lateWrite off w

/-- The core's write buffer drained, oldest first. -/
def Dev.drainAll (d : Dev) : Nat → Dev
  | 0 => d
  | n + 1 => d.drainOne.drainAll n

/-- Whether the management core runs its program: neither stopped by an ECC error in its memory nor halted by a debugger, and in no handover,
in which it does not fetch from the drain to its release (R30, R109, R495). -/
def Dev.coreRuns (d : Dev) : Bool := !d.rst.stopped && !d.rst.halted && d.upd.drainEnd.isNone && d.upd.holdEnd.isNone

/-- A core load or store to the Drawer: an access to a page that is not DEVICE faults in the core and sets CFAULT; a store enters the
4-entry write buffer (R437, R439). A core that does not run makes no access (R30). -/
def Dev.coreAccess (d : Dev) (off : Nat) (store : Option Nat) : Dev :=
  if !d.coreRuns then d
  else if d.own (off / 0x1000) ≠ ownDev then d.stick F.WIN_STATUS_CFAULT 1
  else match store with
    | none => d
    | some w =>
      let d := if 4 ≤ d.wbuf.length then d.drainOne else d
      { d with wbuf := d.wbuf ++ [(off / 4 * 4, w)] }

/-- A buffered write whose page has left DEVICE drains (R437); the buffer drains in order, so what lies before it drains too. -/
def Dev.coreLate (d : Dev) : Dev :=
  match d.wbuf.findIdx? (fun x => d.own (x.1 / 0x1000) != ownDev) with
  | some i => d.drainAll (i + 1)
  | none => d

/-! ### DMA channels (R443 to R450) -/

/-- Whether DMA may reach a SYS bus address, for a write or a read, apart from page ownership (R500). -/
def dmaTarget (a : Nat) (wr : Bool) : Bool :=
  decide (a < 0x400000) || decide (0x10000000 ≤ a ∧ a < 0x10020000) || (pageOf a).isSome
    || (!wr && decide (0x30000000 ≤ a ∧ a < 0x30040000))

/-- The Drawer pages that a run of bytes touches. -/
def pagesOf (a n : Nat) (fixed : Bool) : List Nat :=
  let m := if fixed then 4 else n
  (List.range 64).filter (fun p =>
    decide (a < drawerBase + 0x1000 * (p + 1)) && decide (drawerBase + 0x1000 * p < a + m))

/-- The pages of a channel's destination. -/
def Dev.dmaDst (d : Dev) (c : Nat) : List Nat :=
  pagesOf (d.get (F.DMA_DST_ADDR c)) (d.get (F.DMA_COUNT_BYTES c)) (d.on (F.DMA_CTRL_DFIX c))

/-- Every Drawer page that a channel's descriptor names. -/
def Dev.dmaPages (d : Dev) (c : Nat) : List Nat :=
  pagesOf (d.get (F.DMA_SRC_ADDR c)) (d.get (F.DMA_COUNT_BYTES c)) (d.on (F.DMA_CTRL_SFIX c)) ++ d.dmaDst c

/-- The check of a descriptor (R444): 0 none, 1 COUNT or alignment, 2 HANDOFF geometry, 3 a named page not DEVICE. -/
def Dev.dmaCheck (d : Dev) (c : Nat) : Nat :=
  let n := d.get (F.DMA_COUNT_BYTES c)
  let src := d.get (F.DMA_SRC_ADDR c)
  let dst := d.get (F.DMA_DST_ADDR c)
  let twice := d.on (F.DMA_CTRL_HALFIE c) || d.on (F.DMA_CTRL_CIRC c)
  if n = 0 ∨ n % 4 ≠ 0 ∨ (twice ∧ n % 8 ≠ 0) ∨ src % 4 ≠ 0 ∨ dst % 4 ≠ 0 then 1
  else if d.on (F.DMA_CTRL_HANDOFF c) ∧
      (dst % 0x1000 ≠ 0 ∨ n % 0x2000 ≠ 0 ∨ (pageOf dst).isNone ∨ (pageOf (dst + n - 1)).isNone) then 2
  else if (d.dmaPages c).any (fun p => d.own p != ownDev) then 3
  else 0

/-- A channel's BUSY and DMA.STATUS.ACTIVE. -/
def Dev.dmaBusy (d : Dev) (c : Nat) (b : Bool) : Dev :=
  (d.setB (F.DMA_STATUS_BUSY c) b).setBit F.DMA_GSTATUS_ACTIVE c b

/-- A channel idle again, its pages let go. -/
def Dev.dmaIdle (d : Dev) (c : Nat) : Dev :=
  ((d.dmaBusy c false).holdPages (d.dmaPages c) false).setB (F.DMA_STATUS_WAITOWN c) false

/-- A GO on a channel (R443, R444); an ignored one reads back 0, on a busy channel too, which runs on. A channel that a bus error stopped waits for RESUME or a 0 in GO (R450). -/
def Dev.dmaGo (d : Dev) (c : Nat) : Dev :=
  let a := (F.DMA_CTRL_GO c).addr
  if 7 ≤ c then d.note 2 a 1 (d.plainWord a)
  else if d.on (F.DMA_STATUS_BUSY c) || d.dmaHeld.any (fun x => x.1 == c) || !d.ready 22 || d.on F.DMA_GSTATUS_BUSERR then
    let d := d.setB (F.DMA_CTRL_GO c) false
    d.note 2 a 1 (d.plainWord a)
  else if d.on (F.DMA_STATUS_STOPPED c) then d
  else
    let e := d.dmaCheck c
    let d := (d.setB (F.DMA_CTRL_GO c) true).set (F.DMA_STATUS_ERR c) e
    if e ≠ 0 then d.note 3 a 1 (d.plainWord a)
    else
      let d := (d.dmaBusy c true).set (F.DMA_STATUS_REMAIN c) (d.get (F.DMA_COUNT_BYTES c))
      (d.setB (F.DMA_STATUS_STOPPED c) false).holdPages (d.dmaPages c) true

/-- A 0 written to GO: the channel stops after its burst, or a stopped channel is abandoned (R446, R450). A word that hangs holds its channel
until its clock returns or a reset ends it (R94). -/
def Dev.dmaStop (d : Dev) (c : Nat) : Dev :=
  let a := (F.DMA_CTRL_GO c).addr
  if 7 ≤ c then d.note 2 a 0 (d.plainWord a)
  else
    let d := d.setB (F.DMA_CTRL_GO c) false
    if d.dmaHeld.any (fun x => x.1 == c) then d
    else if d.on (F.DMA_STATUS_BUSY c) || d.on (F.DMA_STATUS_STOPPED c) then (d.dmaIdle c).setB (F.DMA_STATUS_STOPPED c) false else d

/-- RESUME continues a stopped channel from its first unwritten byte, once BUSERR is clear (R450). -/
def Dev.dmaResume (d : Dev) (c : Nat) : Dev :=
  if c < 7 && d.on (F.DMA_STATUS_STOPPED c) && !d.on F.DMA_GSTATUS_BUSERR then
    (d.setB (F.DMA_STATUS_STOPPED c) false).dmaBusy c true
  else d

/-- CLEAR of BUSERR; EVR restarts channel 7 itself, its page from the start (R450). -/
def Dev.dmaClear (d : Dev) : Dev := (d.setB F.DMA_GSTATUS_BUSERR false).setB F.EVR_STATUS_STALLED false

/-- A bus error stops every channel (R449): each active channel is left with the bytes it has not written. -/
def Dev.dmaError (d : Dev) (addr : Nat) (wr : Bool) : Dev :=
  let d := Dev.each ((List.range 7).filter (fun c => d.on (F.DMA_STATUS_BUSY c))) (fun c d =>
    ((d.dmaBusy c false).setB (F.DMA_STATUS_STOPPED c) true).setB (F.DMA_STATUS_WAITOWN c) false) d
  let d := (d.setB F.DMA_GSTATUS_BUSERR true).setB F.DMA_GSTATUS_ERRWR wr
  ((d.set F.DMA_ERRADDR_ADDR addr).inc F.DMA_GSTATUS_ERRORS).setB F.EVR_STATUS_STALLED true

/-- A HALF or FULL event of a channel: its bit, or OVER where the bit still stands (R101, R446). -/
def Dev.dmaEvent (d : Dev) (c : Nat) (f : Fld) : Dev :=
  if d.on f then (d.stick (F.DMA_STATUS_OVER c) 1).xsum 22 else d.stick f 1

/-- The pages of one half of DST pass from DEVICE to HOST (R447). -/
def Dev.dmaHandoff (d : Dev) (c : Nat) (second : Bool) : Dev :=
  if d.on (F.DMA_CTRL_HANDOFF c) then
    let n := d.get (F.DMA_COUNT_BYTES c) / 2
    let a := d.get (F.DMA_DST_ADDR c) + (if second then n else 0)
    Dev.each (pagesOf a n false) (fun p d => d.engineReturn p false) d
  else d

/-- A page is back in DEVICE: a waiting channel goes on where its next page is there (R447). -/
def Dev.dmaPageBack (d : Dev) (c : Nat) : Dev :=
  let next := d.get (F.DMA_DST_ADDR c) + (d.get (F.DMA_COUNT_BYTES c) - d.get (F.DMA_STATUS_REMAIN c))
  match pageOf next with
  | some p =>
    if d.on (F.DMA_STATUS_WAITOWN c) && d.own p == ownDev then
      (d.setB (F.DMA_STATUS_WAITOWN c) false).hold1 p true
    else d
  | none => d

/-! ### Host interrupts and doorbells (R434) -/

/-- HST.IRQ_STAT with the bits that other registers hold. -/
def Dev.wIrqStat (d : Dev) : Nat :=
  let ie (en st : Nat → Fld) : Nat :=
    maskOf 8 (fun c => d.on (st c) && d.on (en c) && d.on (F.DMA_CTRL_IRQDST c))
  (d.get F.HST_HOSTBELL_BELL != 0).toNat + 2 * d.get F.HST_IRQ_STAT_OWN + 4 * d.alertLevel.toNat + 8 * d.get F.HST_HSTICKY_RESET
    + 16 * d.get F.HST_IRQ_STAT_RECLAIM + 2 ^ 8 * ie F.DMA_CTRL_HALFIE F.DMA_STATUS_HALF
    + 2 ^ 16 * ie F.DMA_CTRL_FULLIE F.DMA_STATUS_FULL

/-- Whether HOST_IRQ_N is asserted (R434). -/
def Dev.hostIrq (d : Dev) : Bool := (d.wIrqStat &&& d.plainWord 0x160010) != 0

/-- A write to HST.HOSTBELL or HST.COREBELL: the core sets HOSTBELL bits and the host clears them; the host sets COREBELL bits and the
core clears them (R434). A write by the other way round does nothing to a bell of that side. -/
def Dev.bellWrite (d : Dev) (host : Bool) (core : Bool) (w : Nat) : Dev :=
  match host, core with
  | false, false => d.orBits F.HST_HOSTBELL_BELL w
  | true, false => d.clrBits F.HST_HOSTBELL_BELL w
  | true, true => d.orBits F.HST_COREBELL_BELL w
  | false, true => d.clrBits F.HST_COREBELL_BELL w

end Sys2Proof.Machine
end

