-- ==== Sys2Proof/Machine/Recorder.lean ====
section
/-! DEFINITION. Clamps from outside, the snapshot records, the waveform, the recorder's pages and its readout, the clear, and the vault
(spec/18_recorder_snapshots.md). -/

namespace Sys2Proof.Machine

/-- What EVR holds, changed. -/
def Dev.modEvr (d : Dev) (f : Evr → Evr) : Dev := { d with evr := f d.evr }

/-! ### Clamps (R401, R405, R406) -/

/-- A write of SNP.CTRL.FIRE: a Clamp of cause 5. -/
def Dev.snpFire (d : Dev) : Dev := if d.ready 17 then d.clampOwn 5 d.tim else d

/-- A write of SNP.CTRL.REARM: HELD ends (R405). -/
def Dev.snpRearm (d : Dev) : Dev := d.setB F.SNP_STATUS_HELD false

/-- A rising edge on CLAMP: a Clamp of cause 6 while PINEN is 1, relayed over Igkulink while PINRELAY is 1; an edge that is merged is
the same Clamp seen again and is not relayed (R402, R406). -/
def Dev.clampPin (d : Dev) : Dev :=
  if d.on F.SNP_CTRL_PINEN && d.ready 17 then
    let again := d.clampMerges d.tim d.node d.tim
    let t := d.tim
    let d := d.clampTake 6 t t d.node t
    let sc := d.get F.LNK_CFG_CLAMPSCOPE
    if !again && d.on F.SNP_CTRL_PINRELAY && decide (sc ≠ 0) then d.sendClamp d.node t 6 sc else d
  else d

/-- Whether this node lies within a scope around an origin: rack, zone or station (R378, R392). -/
def Dev.inScope (d : Dev) (origin scope : Nat) : Bool :=
  match scope with
  | 1 => origin / 256 == d.node / 256
  | 2 => origin / 4096 == d.node / 4096
  | 3 => true
  | _ => false

/-- A manager relays a Clamp of zone or station scope into its rings once, whether or not it merged it itself (R392, R399). -/
def Dev.clampRelay (d : Dev) (origin tick cause scope : Nat) : Dev :=
  let key := (origin, tick)
  if scope < 2 ∨ d.linkCfg.role = 0 ∨ origin = d.node ∨ d.link.relayed.contains key then d
  else ({ d with link := { d.link with relayed := (key :: d.link.relayed).take 256 } } : Dev).sendClamp origin tick cause scope

/-- A CLAMP frame checked: within scope a Clamp of cause 7 with the origin's tick as its reference; with scope zone or station a
manager relays it into its other rings (R392, R402, R406). -/
def Dev.clampFrame (d : Dev) (origin tick cause scope : Nat) : Dev :=
  if d.inScope origin scope then (d.clampTake 7 d.tim tick origin tick).clampRelay origin tick cause scope else d

/-- The end of the device's own pulse on CLAMP (R53). -/
def Dev.clampEnd (d : Dev) : Dev :=
  if due d.snap.pulseEnd d.loop then
    { d with snap := { d.snap with pulseEnd := none }, out := d.out ++ [.clampPin false] }
  else d

/-! ### Snapshot registers and SNAP records (R403, R407, R412) -/

/-- The registers outside LOOP that have snapshot copies: GLB.READY, CLK.PRESENT, LNK.p.STATUS, NVS.STATUS (R407). -/
def farCopies : List Nat := [4, 0x10000, 0x110040, 0x110048, 0x110050, 0x150004]

/-- One tick of the mirrors of those registers, of which the last ten words are kept; three ticks after a latch, their copies latch from the
mirrors (R403). -/
def Dev.mirrorTick (d : Dev) : Dev :=
  let m := farCopies.map (fun a => (a, d.plainWord a)) :: d.snap.mirror.take 9
  let d : Dev := { d with snap := { d.snap with mirror := m } }
  if due d.snap.lateAt d.loop then
    { d with snap := { d.snap with lateAt := none, far := (m[(Config.mirrorLag d.loop).val]?).getD (m.getLastD []) } }
  else d

/-- A snapshot register: its source's layout over what the last latch kept; 0 before any (R403, R407). -/
def Dev.snWord (d : Dev) (addr : Nat) : Nat :=
  if farCopies.contains addr then ((d.snap.far.find? (fun x => x.1 == addr)).map (·.2)).getD 0
  else Dev.plainWord { d with regs := d.snap.regs } addr

/-- The source registers that have copies, block by block, in ascending address (R407). -/
def Dev.snapBlocks (d : Dev) : List (Nat × List Nat) :=
  let r (n base stride : Nat) (offs : List Nat) : List Nat :=
    (List.range n).flatMap (fun i => offs.map (fun o => base + stride * i + o))
  [(4, r 16 0x40000 0x100 [0x34, 0x38, 0x3C, 0x40, 0x44, 0x48]), (6, r 32 0x60000 0x10 [0]),
   (7, r 64 0x70000 0x10 [0] ++ r 8 0x70400 4 [0]), (8, [0x80010] ++ r 24 0x80100 0x10 [0]),
   (9, [0x90020, 0x90024, 0x90028, 0x9002C]),
   (10, [0xA0004, 0xA001C, 0xA0020, 0xA0024, 0xA0028, 0xA002C, 0xA0030, 0xA0034, 0xA0038, 0xA003C]),
   (11, r 4 0xB0000 0x40 [0x04, 0x08, 0x0C, 0x10, 0x20]),
   (12, r 16 0xC0100 8 [0] ++ d.cfg.rails.map (fun c => 0xC1000 + 4 * c.rail)), (13, r 16 0xD0000 0x40 [0x1C, 0x20, 0x24]),
   (14, [0xE0000, 0xE0004, 0xE0008]), (15, r 6 0xF0000 0x10 [0] ++ [0xF0100]), (16, [0x100008]), (18, [0x120000, 0x120004]),
   (0, [4]), (1, [0x10000]), (17, r 3 0x110040 8 [0]), (21, [0x150004])]

/-- Whether an address is one whose register has a snapshot copy. -/
def Dev.hasCopy (d : Dev) (addr : Nat) : Bool := d.snapBlocks.any (fun b => b.2.contains addr)

/-- Lists of at most 64 words, each with the place of its first among the block's copied registers. -/
def chunks64 (k : Nat) : Nat → List Nat → List (Nat × List Nat)
  | 0, _ => []
  | n + 1, l => if l.isEmpty then [] else (k, l.take 64) :: chunks64 (k + 64) n (l.drop 64)

/-- One SNAP record (R412); blocks outside LOOP carry tick c + 3. -/
def Dev.snapRecord (d : Dev) (blk first : Nat) (l : List Nat) : Dev :=
  let c := (d.snap.c0.getD 0) + (if blk = 0 ∨ blk = 1 ∨ blk = 17 ∨ blk = 21 then 3 else 0)
  d.record 3 0 c (le 4 (d.get F.SNP_NUMBER_NUMBER) ++ [blk, l.length] ++ le 2 first ++ l.flatMap (fun a => le 4 (d.snWord a)))

/-- EVR has copied the held set, whole as it then is, into SNAP records; it stops being HELD unless KEEP is set (R403, R405). -/
def Dev.snapStaged (d : Dev) : Dev :=
  if d.on F.SNP_STATUS_HELD && !d.snap.copied && d.snap.lateAt.isNone && d.ready 18 then
    let d := Dev.each d.snapBlocks (fun b d => Dev.each (chunks64 0 20 b.2) (fun x d => d.snapRecord b.1 x.1 x.2) d) d
    let d := { d with snap := { d.snap with copied := true } }
    if d.on F.SNP_CTRL_KEEP then d else d.setB F.SNP_STATUS_HELD false
  else d

/-! ### The waveform (R408, R409) -/

/-- The channel code of sampling channel `j`. -/
def Dev.waveCode (d : Dev) (j : Nat) : Nat := d.get (F.EVR_WSEL_CODES (j / 4)) / 256 ^ (j % 4) % 256

/-- The latest result behind a channel code as a 16-bit word (R408). -/
def Dev.waveWord (d : Dev) (code : Nat) : Nat :=
  if code < 0x20 then (if d.isDuplex then d.blockWord code else d.get (F.ADC_RESULT_SAMPLE code))
  else if code < 0x60 then d.get (F.MON_RESULT_CODE (code - 0x20))
  else if code < 0x68 then d.get (F.MON_HVM_RESULT_V (code - 0x60))
  else if code < 0x78 then ofSigned 16 (((d.slot (code - 0x68)).shunts.getLast?).getD 0)
  else 0

/-- Whether sampling goes on: enabled, not frozen, and not past its last post-trigger sample. -/
def Dev.waveRuns (d : Dev) : Bool :=
  d.ready 18 && d.on F.EVR_WCFG_WEN && !d.on F.EVR_STATUS_WFROZEN && !(d.evr.trig.isSome && d.evr.post == 0)

/-- Whether this tick is a sampling tick whose sample is not taken yet (R408). -/
def Dev.waveDue (d : Dev) : Bool := d.tim % d.waveStep == 0 && (d.evr.samples == 0 || d.evr.newest != d.tim)

/-- A sampling tick: every channel stores its latest result; the oldest sample leaves a full area (R408). -/
def Dev.waveSample (d : Dev) : Dev :=
  if d.waveRuns && d.waveDue then
    let nch := if d.evr.samples = 0 then d.effN F.EVR_WCFG_NCH else d.evr.nch
    let d := d.modEvr (fun e => { e with nch := nch })
    let words := (List.range nch).map (fun j => d.waveWord (d.waveCode j))
    d.modEvr (fun e => { e with
      waves := (words :: e.waves).take d.waveDepth
      samples := e.samples + 1
      newest := d.tim
      post := if e.trig.isSome then e.post - 1 else e.post })
  else d

/-- The last post-trigger sample is in: the area freezes, and the WAVEHDR record is written (R409, R412). -/
def Dev.waveFreeze (d : Dev) : Dev :=
  match d.evr.trig with
  | some t =>
    if d.evr.post = 0 ∧ !d.on F.EVR_STATUS_WFROZEN then
      let d := d.setB F.EVR_STATUS_WFROZEN true
      let back := (d.evr.newest - t) / d.waveStep
      d.record 4 0 t (le 4 d.evr.trigNo ++ [d.evr.nch, d.effN F.EVR_WCFG_DLOG, d.get F.EVR_WCFG_PRE, d.get F.EVR_WCFG_EARLYMISS]
        ++ (List.range 16).map (fun j => if j < d.evr.nch then d.waveCode j else 0)
        ++ le 4 (d.evr.waves.length - 1 - back))
    else d
  | none => d

/-- A record numbered and staged without the test of the record area, as WAVE records are (R414). -/
def Dev.stageWave (d : Dev) (tick : Nat) (payload : List Nat) : Dev :=
  let n := d.get F.EVR_NEXTSEQ_SEQ
  let flush := match d.evr.flushAt with
    | some t => some t
    | none => some (d.now + d.get F.EVR_CTRL_FLUSH * ms)
  (d.modEvr (fun e => { e with staged := e.staged ++ [Rec.mk 5 0 n tick payload], flushAt := flush })).set F.EVR_NEXTSEQ_SEQ ((n + 1) % 2 ^ 32)

/-- The WAVE records of one channel: parts of 128 samples, oldest first, the last part filled with zeros, where the spec names
nothing (log entry 44). -/
def wavePart (samples : List Nat) (k : Nat) : List Nat :=
  let l := (samples.drop (128 * k)).take 128
  l ++ List.replicate (128 - l.length) 0

/-- The WAVE records staged; sampling restarts (R409). -/
def Dev.waveStaged (d : Dev) : Dev :=
  if d.on F.EVR_STATUS_WFROZEN && d.ready 18 then
    let t := d.evr.trig.getD 0
    let hist := d.evr.waves.reverse
    let d := Dev.each (List.range d.evr.nch) (fun j d =>
      let l := hist.map (fun w => (w[j]?).getD 0)
      Dev.each (List.range ((l.length + 127) / 128)) (fun k d =>
        d.stageWave t (le 4 d.evr.trigNo ++ [j, 0] ++ le 2 k ++ (wavePart l k).flatMap (le 2))) d) d
    (d.modEvr (fun e => { e with
      waves := [], samples := 0, trig := none, post := 0, nch := d.effN F.EVR_WCFG_NCH })).setB F.EVR_STATUS_WFROZEN false
  else d

/-! ### Records and pages (R414 to R418) -/

/-- Sequence number `a` is later than `b` (R413). -/
def seqLater (a b : Nat) : Bool :=
  let x := (a + 2 ^ 32 - b) % 2 ^ 32
  decide (0 < x ∧ x < 2 ^ 31)

/-- One LOST record declares the records not admitted, once there is space (R414). -/
def Dev.lostRecord (d : Dev) : Dev :=
  let e := d.evr
  if 0 < e.lostN ∧ d.ready 18 ∧ admitted 12 40 d.ringUsed then
    (d.record 12 0 d.tim (le 4 e.lostN ++ le 8 e.lostFirst ++ le 8 e.lostLast)).modEvr (fun e => { e with
      lostN := 0, lostFirst := 0, lostLast := 0 })
  else d

/-- Port `p` trained. -/
def Dev.trained (d : Dev) (p : Nat) : Bool := if p = 0 then d.on F.NVS_STATUS_NVA else d.on F.NVS_STATUS_NVB

/-- A port's trained bit. -/
def Dev.setTrained (d : Dev) (p : Nat) (b : Bool) : Dev := if p = 0 then d.setB F.NVS_STATUS_NVA b else d.setB F.NVS_STATUS_NVB b

/-- Whether words pass between SYS and storage port `p`: its clock runs, and its FIFO is READY (R92, R98). -/
def Dev.nvMoves (d : Dev) (p : Nat) : Bool := d.nvRuns p && d.fifoOk (4 + p)

/-- Whether words pass between SYS and every storage port of a mask. -/
def Dev.allMove (d : Dev) (ports : Nat) : Bool := (List.range 2).all (fun p => !ports.testBit p || d.nvMoves p)

/-- Port `p`. -/
def Dev.nvPort (d : Dev) (p : Nat) : NvPort := d.ports[p]?.getD {}

/-- Whether the recorder uses port `p`: trained, and in SINGLE the one port of that mode (R417). -/
def Dev.usesPort (d : Dev) (p : Nat) : Bool := d.trained p && (d.get F.NVS_CFG_MODE != 3 || d.evr.port == p)

/-- The ports that the next page goes to, as a mask; 0 while writing has stopped (R417). -/
def Dev.pagePorts (d : Dev) : Nat :=
  let a := d.usesPort 0
  let b := d.usesPort 1
  if d.get F.NVS_CFG_MODE = 2 then (if a && b then (if d.evr.index % 2 = 0 then 1 else 2) else 0) else a.toNat + 2 * b.toNat

/-- The recorder's mode as its header or a clear names it: MIRROR on one trained port is SINGLE, and DEGRADED (R417). Which port SINGLE
takes where both are trained is the model's choice: NVA (log entry 44). -/
def Dev.modeSet (d : Dev) (m : Nat) : Dev :=
  let alone := m == 1 && !(d.trained 0 && d.trained 1)
  ((d.set F.NVS_CFG_MODE (if alone then 3 else m)).setB F.NVS_STATUS_DEGRADED alone).modEvr (fun e => { e with
    port := if d.trained 0 then 0 else 1 })

/-- The records that the storage ports still give: those of pages on a trained port (R417). -/
def Dev.onNand (d : Dev) : List Rec :=
  (d.evr.stored.filter (fun x => (x.ports.testBit 0 && d.trained 0) || (x.ports.testBit 1 && d.trained 1))).flatMap (·.recs)

/-- The smaller of a figure of the ports in use. -/
def Dev.portMin (d : Dev) (f : NvPort → Nat) : Nat :=
  match d.usesPort 0, d.usesPort 1 with
  | true, true => min (f (d.nvPort 0)) (f (d.nvPort 1))
  | true, false => f (d.nvPort 0)
  | false, true => f (d.nvPort 1)
  | _, _ => 0

/-- Pages in a block of the recorder area. -/
def Dev.blockPages (d : Dev) : Nat := d.portMin (·.perBlock) * (if d.get F.NVS_CFG_MODE = 2 then 2 else 1)

/-- The whole records that fit in a page, first to last (R415). -/
def pageFit : Nat → List Rec → List Rec
  | _, [] => []
  | room, r :: t => if r.len ≤ room then r :: pageFit (room - r.len) t else []

/-- OLDEST after an erase: the first valid record that is not earlier than it was (R418). -/
def Dev.oldestNow (d : Dev) : Nat :=
  let o := d.get F.EVR_OLDEST_SEQ
  let l := d.onNand ++ d.evr.page ++ d.evr.staged
  match l.find? (fun r => !seqLater o r.seq) with
  | some r => r.seq
  | none => d.get F.EVR_NEXTSEQ_SEQ

/-- A checkpoint of EVR: block, NEXTSEQ and OLDEST, into the next of its two vault slots; skipped while vault writes are forbidden
(R418, R424). -/
def Dev.checkpoint (d : Dev) : Dev :=
  if d.vault.forbidden then d
  else
    let b := le 4 d.evr.block ++ le 4 (d.get F.EVR_NEXTSEQ_SEQ) ++ le 4 (d.get F.EVR_OLDEST_SEQ) ++ List.replicate 16 0
    let d := d.vaultPut { addr := 0x40 + 0x20 * d.evr.checkSlot, bytes := b ++ le 4 (crc32 b), kind := .checkpoint }
    d.modEvr (fun e => { e with checkSlot := 1 - e.checkSlot })

/-- The block about to be written is erased: its records are gone, and a checkpoint tells of the change of block (R418). -/
def Dev.eraseBlock (d : Dev) : Dev :=
  let d := d.modEvr (fun e => { e with stored := e.stored.filter (fun x => x.block != e.block) })
  (d.set F.EVR_OLDEST_SEQ d.oldestNow).checkpoint

/-- Whether a page is to be written now: full, its flush time run, or asked for at once (R415). -/
def Dev.pageWanted (d : Dev) (fit : List Rec) : Bool :=
  d.evr.pageNow || due d.evr.flushAt d.now || decide (fit.length < d.evr.staged.length)
    || decide (recBytes fit = d.portMin (·.page))

/-- A page taken from the record area and given to DMA channel 7, if one is wanted and can be written (R415, R418). -/
def Dev.pageTry (d : Dev) : Dev :=
  let fit := pageFit (d.portMin (·.page)) d.evr.staged
  if d.ready 18 && d.on F.EVR_CTRL_EN && !d.on F.EVR_STATUS_STALLED && !d.evr.pageBusy && d.pagePorts != 0
      && d.allMove d.pagePorts && !fit.isEmpty && d.pageWanted fit then
    let d := if d.evr.index = 0 then d.eraseBlock else d
    let rest := d.evr.staged.drop fit.length
    d.modEvr (fun e => { e with
      page := fit, staged := rest, pageBusy := true
      pageNow := e.pageNow && !rest.isEmpty
      flushAt := if rest.isEmpty then none else some (d.now + d.get F.EVR_CTRL_FLUSH * ms) })
  else d

/-- The block that follows block `b`; retired ones are skipped, at most the given number of them (R416). -/
def Dev.nextBlock (d : Dev) : Nat → Nat → Nat
  | 0, b => (b + 1) % max 1 (d.portMin (·.blocks))
  | n + 1, b =>
    let x := (b + 1) % max 1 (d.portMin (·.blocks))
    if d.evr.retired.any (fun r => r.2 == x && d.usesPort r.1) then d.nextBlock n x else x

/-- The write point moved to the next block. -/
def Dev.toNextBlock (d : Dev) : Dev :=
  let b := d.nextBlock d.evr.retired.length d.evr.block
  d.modEvr (fun e => { e with block := b, index := 0 })

/-- The place of the next page: the next page of the block, or the next block. -/
def Dev.nextPage (d : Dev) : Dev :=
  if d.evr.index + 1 < d.blockPages then d.modEvr (fun e => { e with index := e.index + 1 }) else d.toNextBlock

/-- A block of port `p` that fails to erase or to program is retired, and counted (R416). -/
def Dev.retire (d : Dev) (p : Nat) : Dev :=
  (d.modEvr (fun e => { e with retired := e.retired ++ [(p, e.block)] })).inc (F.NVS_SIZE_BADBLK p)

/-- A port lost (R417): a survivor of a mirror carries on and DEGRADED sets; a striped port's pages are lost. With the last trained port NVS
READY falls, and what needs it (R35, R115). -/
def Dev.portLost (d : Dev) (p : Nat) : Dev :=
  let d := d.setTrained p false
  let d := if d.trained 0 || d.trained 1 then d else d.readyDrop [19]
  if d.get F.NVS_CFG_MODE = 1 then d.setB F.NVS_STATUS_DEGRADED true
  else if d.get F.NVS_CFG_MODE = 2 then
    d.modEvr (fun e => { e with stored := e.stored.filter (fun x => !x.ports.testBit p) })
  else d

/-- The port that a page's outcome finds lost, as a mask. -/
def lostPorts : PageOutcome → Nat
  | .portFail p => 2 ^ p
  | _ => 0

/-- The write of a recorder page ends (R415 to R417). A transfer into a port whose clock is stopped, or whose FIFO resynchronises, does not
end (R92, R98). -/
def Dev.pageDone (d : Dev) (r : PageOutcome) : Dev :=
  let d := if d.evr.pageBusy then d else d.pageTry
  if !d.evr.pageBusy || d.on F.EVR_STATUS_STALLED || d.pagePorts == 0 || !d.allMove (clr d.pagePorts (lostPorts r)) then d
  else
    let keep (d : Dev) : Dev :=
      let x : StPage := ⟨d.evr.block, d.evr.index, d.pagePorts, d.evr.page⟩
      ((d.modEvr (fun e => { e with stored := e.stored ++ [x], page := [], pageBusy := false })).nextPage).fillUp
    match r with
    | .done => keep d
    | .portFail p =>
      let mirror := d.get F.NVS_CFG_MODE == 1
      let d := d.portLost p
      if mirror && d.pagePorts != 0 then keep d
      else d.modEvr (fun e => { e with staged := e.page ++ e.staged, page := [], pageBusy := false })
    | .blockFail p => ((d.retire p).toNextBlock).eraseBlock

/-- FLUSH ms have run since the page's first record (R415). -/
def Dev.flushTimer (d : Dev) : Dev := if due d.evr.flushAt d.now then d.pageTry else d

/-- A write of FLUSHNOW: the open page is written now (R415). -/
def Dev.evrFlushNow (d : Dev) : Dev := if d.ready 18 then (d.flushNow).pageTry else d.note 2 0x140000 2 (d.plainWord 0x140000)

/-- A storage port reads its device's ID and parameter page and locks its sampling: trained where the device is of a supported kind
and the port's clock runs (R416). -/
def Dev.portTrain (d : Dev) (p : Nat) (g : NandGeom) : Dev :=
  if d.nvRuns p ∧ (g.page = 2048 ∨ g.page = 4096) ∧ (g.perBlock = 64 ∨ g.perBlock = 128) ∧ 128 ≤ g.mb ∧ g.mb ≤ 4096 then
    let area := g.mb - 64
    let x : NvPort := ⟨g.page, g.perBlock, area * 1048576 / (g.page * g.perBlock)⟩
    let d : Dev := { d with ports := d.ports.setIfInBounds p x }
    ((d.setTrained p true).set (F.NVS_SIZE_MB p) area).set (F.NVS_SIZE_BADBLK p) (d.evr.retired.filter (fun r => r.1 == p)).length
  else d

/-- The checkpoint in slot `k` of the vault, block, NEXTSEQ and OLDEST, where its CRC is right (R418). Its layout within its 32 bytes is the
model's choice (log entry 44). -/
def Dev.checkAt (d : Dev) (k : Nat) : Option (Nat × Nat × Nat) :=
  let b := d.vaultBytes (0x40 + 0x20 * k) 32
  if fromLe (b.drop 28) = crc32 (b.take 28) then
    some (fromLe (b.take 4), fromLe ((b.drop 4).take 4), fromLe ((b.drop 8).take 4))
  else none

/-- The slot of the next checkpoint: the two are written in turn (R423). -/
def Dev.nextCheck (d : Dev) : Nat :=
  match d.checkAt 0, d.checkAt 1 with
  | some a, some b => if seqLater b.2.1 a.2.1 then 0 else 1
  | some _, none => 1
  | _, _ => 0

/-- The sequence number of the copied CLEAR record in slot `k` of the vault, where one stands (R422). -/
def Dev.copyAt (d : Dev) (k : Nat) : Option Nat :=
  let b := d.vaultBytes (0x400 + 0x40 * k) 48
  if fromLe (b.take 2) = 48 ∧ fromLe (b.drop 44) = crc32 (b.take 44) then some (fromLe ((b.drop 4).take 4)) else none

/-- The slot of the next copy of a CLEAR record: the one after the latest, 16 in turn (R422). -/
def Dev.nextCopy (d : Dev) : Nat :=
  match (List.range 16).foldl (fun (a : Option (Nat × Nat)) k => match d.copyAt k, a with
      | some s, some (_, t) => if seqLater s t then some (k, s) else a
      | some s, none => some (k, s)
      | none, _ => a) none with
  | some (k, _) => (k + 1) % 16
  | none => 0

/-- The scan of a cold start (R418): the write point follows the last record stored, or the checkpoint where nothing is stored; records still staged
after a warm reset count as the latest (R121). What a clear took stays cleared: the CLEAR record, or its copy in the vault, tells of it (R421, R422).
-/
def Dev.coldScan (d : Dev) : Dev :=
  if d.ready 19 then
    let cp : Nat × Nat × Nat := match d.checkAt 0, d.checkAt 1 with
      | some a, some b => if seqLater b.2.1 a.2.1 then b else a
      | some a, none => a
      | none, some b => b
      | none, none => (0, 0, 0)
    let d := match d.evr.stored.getLast? with
      | some x =>
        let n := match x.recs.getLast? with
          | some r => (r.seq + 1) % 2 ^ 32
          | none => cp.2.1
        ((d.set F.EVR_NEXTSEQ_SEQ n).modEvr (fun e => { e with block := x.block, index := x.index })).nextPage
      | none => (d.set F.EVR_NEXTSEQ_SEQ cp.2.1).modEvr (fun e => { e with block := cp.1, index := 0 })
    let d := match d.evr.staged.getLast? with
      | some r => d.set F.EVR_NEXTSEQ_SEQ ((r.seq + 1) % 2 ^ 32)
      | none => d
    let d := d.set F.EVR_OLDEST_SEQ (match d.evr.cleared with
      | some c => if seqLater c cp.2.2 then c else cp.2.2
      | none => cp.2.2)
    (d.set F.EVR_OLDEST_SEQ d.oldestNow).modEvr (fun e => { e with
      scanned := true, checkSlot := d.nextCheck, clearSlot := d.nextCopy })
  else d

/-! ### Reading (R419) -/

/-- A write of EVR.RD_CTRL: PAGE and RET are stored, and GO starts the filling of a page in DEVICE that no engine holds. -/
def Dev.readGo (d : Dev) (w : Nat) : Dev :=
  let a := 0x140018
  let p := w % 64
  let d := d.set F.EVR_RD_CTRL_PAGE p |>.set F.EVR_RD_CTRL_RET (w / 64 % 2)
  if !w.testBit 31 then d
  else if !d.ready 18 then d.note 2 a w (d.plainWord a)
  else if d.evr.reading || d.own p ≠ ownDev || d.engineHolds p then d.note 3 a w (d.plainWord a)
  else ((d.hold1 p true).setB F.EVR_RD_CTRL_GO true).modEvr (fun e => { e with reading := true })

/-- The page filled with whole records from S or OLDEST on, those unreadable on every copy left out, and returned (R419). -/
def Dev.readDone (d : Dev) (bad : List Nat) : Dev :=
  if !d.evr.reading || !d.allMove ((d.trained 0).toNat + 2 * (d.trained 1).toNat) then d
  else
    let s := d.get F.EVR_RD_SEQ_SEQ
    let o := d.get F.EVR_OLDEST_SEQ
    let skip := seqLater o s
    let first := if skip then o else s
    let l := (d.onNand ++ d.evr.page ++ d.evr.staged).filter (fun r => !seqLater first r.seq)
    let good := pageFit 4096 (l.filter (fun r => !bad.contains r.seq))
    let next := match good.getLast? with
      | some r => (r.seq + 1) % 2 ^ 32
      | none => first
    let lost := (l.filter (fun r => bad.contains r.seq && seqLater next r.seq)).length
    let p := d.get F.EVR_RD_CTRL_PAGE
    let d := d.memWrite (drawerBase + 0x1000 * p) (good.flatMap (·.bytes))
    let d := (d.set F.EVR_COUNTS_BAD (d.get F.EVR_COUNTS_BAD + lost)).set F.EVR_RD_NEXT_SEQ next
    let d := (d.setB F.EVR_RD_CTRL_SKIPPED skip).setB F.EVR_RD_CTRL_GO false
    (d.engineReturn p (d.on F.EVR_RD_CTRL_RET)).modEvr (fun e => { e with reading := false })

/-! ### Clearing (R420 to R422) -/

/-- A fresh nonce from SEC: valid for 60 s and for one attempt (R420). -/
def Dev.nonceRead (d : Dev) : Dev :=
  let v := (Config.nonce d.free).toNat
  let d : Dev := { d with free := d.free + 1 }
  let d := d.modEvr (fun e => { e with nonce := le 16 v, nonceEnd := some (d.now + 60 * sec) })
  Dev.each (List.range 4) (fun k d => d.set (F.EVR_NONCE_WORD k) (v / 2 ^ (32 * k) % 2 ^ 32)) d

/-- A nonce older than 60 s expires (R420). -/
def Dev.nonceExpiry (d : Dev) : Dev := if due d.evr.nonceEnd d.now then d.modEvr (fun e => { e with nonceEnd := none }) else d

/-- The requester of a clear as its record shows it (R422, R478): the two-wire target's writes count as the host's. -/
def clearerOf : Master → Nat
  | .core => 0
  | .host => 1
  | .usb => 1
  | .twt => 1
  | .dma => 2
  | .tunnel => 3
  | .debug => 0

/-- A write of EVR.CLR_CTRL: the fields are stored, and GO submits a clear with the nonce, which serves one attempt (R420). -/
def Dev.clearGo (d : Dev) (m : Master) (w : Nat) : Dev :=
  let a := 0x140020
  if d.evr.clearing then d.note 2 a w (d.plainWord a)
  else
    let d := d.setB F.EVR_CLR_CTRL_ALL (w.testBit 1) |>.set F.EVR_CLR_CTRL_MODE (w / 4 % 4)
    if !w.testBit 0 then d
    else if !d.ready 18 || !d.ready 26 then d.note 2 a w (d.plainWord a)
    else
      let fresh := match d.evr.nonceEnd with
        | some e => decide (d.now < e)
        | none => false
      ((d.setB F.EVR_CLR_CTRL_GO true).set F.EVR_STATUS_CLRSTAT 6).modEvr (fun e => { e with
        clearing := true, clearFresh := fresh, nonceEnd := none, clearer := clearerOf m })

/-- The message of a clear's MAC (R420). -/
def Dev.clearMsg (d : Dev) (uid : Nat) : List Nat :=
  d.evr.nonce ++ le 4 (d.get F.EVR_CLR_UPTO_SEQ)
    ++ [1 + 2 * d.get F.EVR_CLR_CTRL_ALL + 4 * d.get F.EVR_CLR_CTRL_MODE] ++ le 8 uid

/-- The MAC as written to EVR.CLR_MAC0 to EVR.CLR_MAC7, CLR_MAC0 least significant. -/
def Dev.clearMac (d : Dev) : Nat := (List.range 8).foldl (fun a k => a + d.get (F.EVR_CLR_MAC_WORD k) * 2 ^ (32 * k)) 0

/-- The outcome of a clear as CLRSTAT: 5 LOCKED, 3 EXPIRED, 4 REFUSED, 2 BADMAC, 1 DONE (R420). -/
def Dev.clearResult (d : Dev) (o : Otp) : Nat :=
  let st := d.get F.ENG_STATUS_STATE
  if 8 ≤ d.get F.EVR_CLR_CTRL_FAILS then 5
  else if !d.evr.clearFresh then 3
  else if st = 4 ∨ st = 5 ∨ !seqLater (d.get F.EVR_NEXTSEQ_SEQ) (d.get F.EVR_CLR_UPTO_SEQ) then 4
  else if (Config.hmacSha256 o.clrKey (d.clearMsg o.uid)).toNat ≠ d.clearMac then 2
  else 1

/-- The vault header with a recorder mode (R423). -/
def headerBytes (mode : Nat) : List Nat :=
  let b := le 2 0x5654 ++ [1, mode] ++ List.replicate 56 0
  b ++ le 4 (crc32 b)

/-- What a successful clear does (R421): OLDEST moves; with ALL a new mode may be named, and the recorder area is erased. -/
def Dev.clearApply (d : Dev) : Dev :=
  let all := d.on F.EVR_CLR_CTRL_ALL
  let upto := d.get F.EVR_CLR_UPTO_SEQ
  let o := if all then d.get F.EVR_NEXTSEQ_SEQ else (upto + 1) % 2 ^ 32
  let d := (d.set F.EVR_OLDEST_SEQ o).modEvr (fun e => { e with cleared := some o })
  let mode := d.get F.EVR_CLR_CTRL_MODE
  if all && mode != 0 then
    let d := d.modeSet mode
    let d := d.vaultPut { addr := 0, bytes := headerBytes mode, kind := .header }
    d.modEvr (fun e => { e with stored := [], block := 0, index := 0 })
  else d

/-- SEC's verdict: the outcome, the count of failures, the CLEAR record, and the copy of a successful one in the vault (R420 to
R422). -/
def Dev.clearVerdict (d : Dev) (o : Otp) : Dev :=
  if !d.evr.clearing then d
  else
    let r := d.clearResult o
    let old := d.get F.EVR_OLDEST_SEQ
    let d := if r = 1 then d.clearApply else d
    let payload := d.evr.nonce ++ le 4 (d.get F.EVR_CLR_UPTO_SEQ) ++ le 4 old
      ++ [r, d.evr.clearer, d.get F.EVR_CLR_CTRL_MODE, 0]
    let n := d.get F.EVR_NEXTSEQ_SEQ
    let tick := d.tim
    let d := d.record 10 0 tick payload
    let d := if r = 1 then
        (d.vaultPut { addr := 0x400 + 0x40 * d.evr.clearSlot, bytes := (Rec.mk 10 0 n tick payload).bytes, kind := .clearCopy }).modEvr
          (fun e => { e with clearSlot := (e.clearSlot + 1) % 16 })
      else d
    let d := d.set F.EVR_CLR_CTRL_FAILS (if r = 1 then 0 else min 8 (d.get F.EVR_CLR_CTRL_FAILS + 1))
    ((d.set F.EVR_STATUS_CLRSTAT r).setB F.EVR_CLR_CTRL_GO false).modEvr (fun e => { e with clearing := false, clearFresh := false })

/-- A write of EVR.FW_CTRL: GO stages an FW record from a DEVICE page and returns the page to HOST (R412). -/
def Dev.fwRecord (d : Dev) (w : Nat) : Dev :=
  let a := 0x140028
  let p := w % 64
  let n := w / 256 % 512
  let d := d.set F.EVR_FW_CTRL_PAGE p |>.set F.EVR_FW_CTRL_LEN (min 264 (max 8 n))
  if !w.testBit 31 then d
  else if !d.ready 18 then d.note 2 a w (d.plainWord a)
  else if n < 8 ∨ 264 < n ∨ n % 4 ≠ 0 ∨ d.own p ≠ ownDev ∨ d.engineHolds p then d.note 3 a w (d.plainWord a)
  else (d.record 13 0 d.tim (d.memBytes (drawerBase + 0x1000 * p) n)).engineReturn p false

/-! ### The vault (R423, R424) -/

/-- A byte of the vault written. -/
def Dev.vaultSet (d : Dev) (a v : Nat) : Dev :=
  { d with vault := { d.vault with bytes := Memory.write a (BitVec.ofNat 8 v) d.vault.bytes } }

/-- Bytes of the vault written from an address on. -/
def Dev.vaultSetAll (d : Dev) (a : Nat) : List Nat → Dev
  | [] => d
  | b :: t => (d.vaultSet a b).vaultSetAll (a + 1) t

/-- A write through NVS.VAULT: it reaches the user region only, and only while UWEN is 1; one refused by temperature is not
retried (R424). -/
def Dev.vaultUser (d : Dev) (i w : Nat) : Dev :=
  let a := 4 * i
  if a < 0x100 ∨ 0x400 ≤ a ∨ !d.on F.NVS_CFG_UWEN ∨ !d.ready 19 then d.note 2 (0x152000 + a) w (d.vaultWord a)
  else if d.vault.forbidden then d.stick F.NVS_STATUS_VREFUSED 1
  else d.vaultPut { addr := a, bytes := le 4 w, kind := .user }

/-- BEN.n.LFSTAT's COUNT and SLOT as the vault holds them (R200, spec/08_stage_protection.md). -/
def Dev.lastFaultShow (d : Dev) (n : Nat) : Dev :=
  match d.lastFaultStored n with
  | some (k, c) => (d.set (F.BEN_LFSTAT_COUNT n) (c % 65536)).set (F.BEN_LFSTAT_SLOT n) k
  | none => d

/-- The last-fault record of a Bench is in the vault: its count and slot are shown, and a record that waited follows (R200, R201). -/
def Dev.lastFaultDone (d : Dev) (n : Nat) : Dev :=
  let d := (d.modBench n (fun b => { b with lfBusy := false })).lastFaultShow n
  match (d.bench n).lf with
  | some r =>
    ((d.modBench n (fun b => { b with lf := none, lfBusy := true })).vaultPut (d.lastFaultWrite n r.bytes)).setB
      (F.BEN_LFSTAT_PENDING n) false
  | none => d

/-- A string's record is in the vault; one that waited follows (R310). -/
def Dev.batteryDone (d : Dev) (s : Nat) : Dev :=
  let d := d.modStr s (fun x => { x with busy := false })
  match (d.str s).wait with
  | some bytes =>
    let slot := 1 - (d.str s).slot
    let d := (d.modStr s (fun x => { x with wait := none, busy := true, slot := slot, count := x.count + 1 })).setB
      (F.BAT_FLAGS_PENDING s) false
    d.vaultPut { addr := 0xB00 + 0x40 * s + 0x20 * slot, bytes := bytes ++ le 4 (crc32 bytes), kind := .battery s }
  | none => d

/-- What the end of a vault write brings. -/
def Dev.vaultEnd (d : Dev) (w : VWrite) : Dev :=
  match w.kind with
  | .lastFault n => d.lastFaultDone n
  | .firstFail => d.set F.SEQ_FFSTAT_COUNT ((d.get F.SEQ_FFSTAT_COUNT + 1) % 256)
  | .battery s => d.batteryDone s
  | .header => d.setB F.NVS_STATUS_VAULTOK true
  | _ => d

/-- One 32-byte unit of a vault write completes; then the writes of the first-failure and last-fault regions go first (R423). -/
def Dev.vaultUnit (d : Dev) : Dev :=
  match d.vault.queue with
  | [] => d
  | w :: t =>
    if d.vault.forbidden then d
    else
      let d := d.vaultSetAll w.addr (w.bytes.take 32)
      let rest := w.bytes.drop 32
      if rest.isEmpty then
        let first := t.filter (fun x => x.kind.first)
        let d : Dev := { d with vault := { d.vault with queue := first ++ t.filter (fun x => !x.kind.first) } }
        d.vaultEnd w
      else
        let w' : VWrite := { w with addr := w.addr + 32, bytes := rest }
        let q := if w.kind.first then w' :: t else t.filter (fun x => x.kind.first) ++ w' :: t.filter (fun x => !x.kind.first)
        { d with vault := { d.vault with queue := q } }

/-- NVS READY sets: the "vault" fields are read, and the recorder's mode (R417, R423). -/
def Dev.nvsStart (d : Dev) : Dev :=
  let h := d.vaultBytes 0 64
  let ok := decide (fromLe (h.take 2) = 0x5654 ∧ fromLe (h.drop 60) = crc32 (h.take 60))
  let m := if ok then (h[3]?).getD 1 else 1
  let m := if m = 2 ∨ m = 3 then m else 1
  let d := (d.setB F.NVS_STATUS_VAULTOK ok).modeSet m
  let d := Dev.each (List.range 16) (fun n d => d.lastFaultShow n) d
  match d.firstFailStored with
  | some (_, c, r) => ((d.firstFailSync).set F.SEQ_FFSTAT_RAIL r).set F.SEQ_FFSTAT_COUNT (c % 256)
  | none => d

/-- EVR READY sets: a RESET record, of the first tick after the reset, begins the run (R412, R425). -/
def Dev.evrStart (d : Dev) : Dev :=
  d.record 11 0 d.rst.firstTick (le 4 (d.plainWord 0x20000) ++ le 4 (d.plainWord 0x20014) ++ le 4 (d.get F.FAB_RUN_ID_LO_ID)
    ++ le 4 (d.get F.GLB_READY_LOST_LOST))

end Sys2Proof.Machine
end

