-- ==== Sys2Proof/Machine/Security.lean ====
section
/-! DEFINITION. SEC: the one-time-programmable array, the checks that every container passes, and revocation
(spec/22_update_security.md; the codes of R152 of spec/06_fabric_bitstream.md). -/

namespace Sys2Proof.Machine

/-! ### The OTP array (R480 to R483) -/

/-- SIGN field `k`. -/
def Otp.key (o : Otp) (k : Nat) : SignKey := o.sign[k]?.getD {}

/-- The state of SIGN field `k` (R481): 0 UNPROVISIONED, 1 VALID, 2 REVOKED, 3 MISMATCH. -/
def Otp.keyState (o : Otp) (k : Nat) : Nat :=
  if (o.key k).bytes.all (· == 0) then 0
  else if !(o.key k).fits then 3
  else if o.revoke.testBit k then 2 else 1

/-- Whether a container's KEY_INDEX names a VALID key. -/
def Otp.validKey (o : Otp) (k : Nat) : Bool := decide (k < 4) && o.keyState k == 1

/-- Whether a field of key bytes is blank. -/
def blank (l : List Nat) : Bool := l.all (· == 0)

/-- SEC's registers brought up to the OTP array, while SEC is READY. -/
def Dev.showOtp (d : Dev) (o : Otp) : Dev :=
  if !d.ready 26 then d
  else
    d.set F.SEC_STATUS_KEYS ((List.range 4).foldl (fun a k => a + o.keyState k * 4 ^ k) 0)
      |>.setB F.SEC_STATUS_IMGKEY (!blank o.imgKey) |>.setB F.SEC_STATUS_CLRKEY (!blank o.clrKey)
      |>.setB F.SEC_STATUS_DEBUG o.debug |>.setB F.SEC_STATUS_PROVLOCK o.provLock
      |>.set F.SEC_UID_LO_VALUE (o.uid % 2 ^ 32) |>.set F.SEC_UID_HI_VALUE (o.uid / 2 ^ 32)
      |>.set F.SEC_USBID_VALUE o.usbid |>.set F.SEC_FLOOR_FW o.floorFw |>.set F.SEC_FLOOR_BS o.floorBs

/-- Whether the boot ROM is in service mode (R111, R112). -/
def Dev.service (d : Dev) : Bool := d.on F.RST_BOOT_SERVICE

/-- Bytes `4k` to `4k + 3` of PROGDATA for the first `n` words. -/
def Dev.progData (d : Dev) (n : Nat) : List Nat := (List.range n).flatMap (fun k => le 4 (d.get (F.SEC_PROGDATA_DATA k)))

/-- Whether an OTP field that SEC.PROG names already holds a 1 bit. -/
def Otp.held (o : Otp) (f : Nat) : Bool :=
  match f with
  | 4 => !blank o.imgKey
  | 5 => !blank o.clrKey
  | 6 => o.debug
  | 7 => o.provLock
  | k => !blank (o.key k).bytes

/-- Whether the last 16 bytes of a SIGN field are the first 16 bytes of the SHA-384 digest of its key bytes (R480, R481). -/
def signFits (b : List Nat) : Bool := (Config.sha384 (b.take 96)).toNat % 2 ^ 128 == fromLe (b.drop 96)

/-- An OTP field programmed whole from PROGDATA (R483). Bit 0 of the first word blows a single fuse. -/
def Otp.blow (o : Otp) (f : Nat) (b : List Nat) : Otp :=
  match f with
  | 4 => { o with imgKey := b.take 32 }
  | 5 => { o with clrKey := b.take 32 }
  | 6 => { o with debug := o.debug || (b.headD 0).testBit 0 }
  | 7 => { o with provLock := o.provLock || (b.headD 0).testBit 0 }
  | k => { o with sign := o.sign.setIfInBounds k ⟨b.take 112, signFits (b.take 112)⟩ }

/-- The RESULT of a GO in SEC.PROG (R483): the port and the mode are judged first, then PROVLOCK, the field's number, its bits. -/
def Dev.progResult (d : Dev) (o : Otp) (m : Master) (f : Nat) : Nat :=
  if m != .debug || !d.service then 3
  else if o.provLock then 1
  else if 8 ≤ f then 4
  else if o.held f then 2 else 0

/-- A write of SEC.PROG with GO (R483). A refused GO programs nothing. SEC must be READY (R117). -/
def Dev.secProg (d : Dev) (o : Otp) (m : Master) (w : Nat) : Dev × Otp :=
  if !d.ready 26 then (d.goIgnored 0x1C0020 w (2 ^ 31), o)
  else
    let f := w % 16
    let r := d.progResult o m f
    let d := if r = 3 then d else d.set F.SEC_PROG_FIELD f
    let d := d.set F.SEC_PROG_RESULT r
    if r = 0 then
      let o := o.blow f (d.progData 28)
      (d.showOtp o, o)
    else (d, o)

/-! ### Containers (R484, R485) -/

/-- The length rule of a kind (R126, R484). Header, tag and signature take 368 bytes of it. -/
def lenOk (kind len : Nat) : Bool :=
  match kind with
  | 1 => len == 0x40000
  | 2 => decide (len % 4096 = 0 ∧ len ≤ 0x10000 ∧ 368 < len)
  | 3 => decide (len % 16 = 0 ∧ len ≤ 0x10000 ∧ 368 < len)
  | 4 => len == 512
  | 5 => decide (len % 16 = 0 ∧ len ≤ 4096 ∧ 368 < len)
  | _ => false

/-- The floor of a kind (R485). -/
def Otp.floorOf (o : Otp) (kind : Nat) : Nat := if kind = 3 ∨ kind = 5 then o.floorFw else o.floorBs

/-- A container's epoch (R485). -/
def epochOf (c : Container) : Nat := c.hdr.version / 2 ^ 24

/-- The checks of the header, in the order of R138 (codes 01h to 05h). A reserved byte that is not 0 counts as a wrong FORMAT (log entry
65). -/
def Dev.headFault (d : Dev) (o : Otp) (kinds : List Nat) (c : Container) : Option Nat :=
  let h := c.hdr
  if h.magic ≠ 0x4243534B ∨ h.format ≠ 1 ∨ h.reserved ≠ 0 then some 0x01
  else if !kinds.contains h.kind then some 0x02
  else if h.device ≠ d.get F.GLB_ID_DEVICE ∨ h.family ≠ d.get F.GLB_ID_FAMILY ∨ d.get F.GLB_ID_LREV < h.revMin % 16
      ∨ d.get F.GLB_ID_PREV < h.revMin / 16 then some 0x03
  else if !lenOk h.kind c.len || h.length != c.len then some 0x04
  else if !o.validKey h.keyIndex then some 0x05
  else none

/-- Whether a container's body opens under the image key, its tag right, to what it is said to decrypt to (R126). -/
def Otp.opens (o : Otp) (c : Container) : Bool :=
  !blank o.imgKey && Config.gcmOpen o.imgKey c.hdr.iv c.head c.cipher c.tag == some c.body

/-- Whether a container's signature verifies under the key that KEY_INDEX names (R126). -/
def Otp.verifies (o : Otp) (c : Container) : Bool := Config.ecdsaP384 ((o.key c.hdr.keyIndex).bytes.take 96) c.signed c.sig

/-- The tag, the signature and the floor (codes 06h, 07h, 16h). A blank IMGKEY makes every decryption fail (R481). -/
def sealFault (o : Otp) (c : Container) : Option Nat :=
  if !o.opens c then some 0x06
  else if !o.verifies c then some 0x07
  else if epochOf c < o.floorOf c.hdr.kind then some 0x16
  else none

/-- What SEC finds of a container (R484). -/
def Dev.secFault (d : Dev) (o : Otp) (kinds : List Nat) (c : Container) : Option Nat :=
  match d.headFault o kinds c with
  | some e => some e
  | none => sealFault o c

/-- A revocation that has verified (R486): refused where it names its own key or the last VALID one, or where a byte after the first is
not 0 (R484). -/
def Otp.revokes (o : Otp) (c : Container) : Option Otp :=
  let k := c.revokes
  if !zeroAt c.body (span 1 144) then none
  else if k = c.hdr.keyIndex ∨ 4 ≤ k ∨ ((List.range 4).filter (fun i => i != k && o.keyState i == 1)).isEmpty then none
  else some { o with revoke := o.revoke ||| 2 ^ k }

/-- The floors raised to the epochs of a confirmed package's containers, to 128 at most (R485). -/
def Otp.raise (o : Otp) (l : List Container) : Otp :=
  l.foldl (fun o c =>
    let e := min 128 (epochOf c)
    if c.hdr.kind = 3 ∨ c.hdr.kind = 5 then { o with floorFw := max o.floorFw e } else { o with floorBs := max o.floorBs e }) o

end Sys2Proof.Machine
end

