-- ==== Sys2Proof/Machine/Fabric.lean ====
section
/-! DEFINITION. FAB: the checks and the commit of a full bitstream, partial loads, plane swaps, the scrub and the Dowels
(spec/06_fabric_bitstream.md, with the binding checks of chapters 08 to 15). -/

namespace Sys2Proof.Machine

/-! ### The checks of a load (R152). A finding is a code, a section ID and an entry -/

/-- A finding of the loader: code, section, entry (FAB.LOAD_ERR). -/
abbrev Finding := Nat × Nat × Nat

/-- The first entry of a list for which a test holds, as a finding with its place in the list. -/
def firstBad {α : Type} (code sec : Nat) (l : List α) (bad : α → Bool) : Option Finding :=
  (l.findIdx? bad).map (fun i => (code, sec, i))

/-- The first entry of a list for which a test holds, as a finding with its entry number `num`. -/
def firstAt {α : Type} (code sec : Nat) (l : List α) (num : α → Nat) (bad : α → Bool) : Option Finding :=
  (l.find? bad).map (fun x => (code, sec, num x))

/-- A finding with no entry where a condition holds. -/
def badIf (b : Bool) (code sec : Nat) : Option Finding := if b then some (code, sec, 0) else none

/-- The first finding of a list of checks. -/
def firstOf (l : List (Option Finding)) : Option Finding := l.findSome? id

/-- The first number of a list that an earlier place holds too. -/
def repeated (l : List Nat) : Option Nat :=
  ((l.mapIdx (fun i x => (i, x))).find? (fun x => (l.take x.1).contains x.2)).map (·.2)

/-- The first of a list of findings at an entry, as the entry's number. -/
def findingAt (code sec : Nat) (entry : Option Nat) : Option Finding := entry.map (fun e => (code, sec, e))

/-- The section IDs the loader knows, with their greatest lengths (R129). -/
def sectionMax : List (Nat × Nat) :=
  [(1, 256), (2, 1024), (3, 32768), (4, 2432), (5, 1024), (6, 768), (7, 256), (8, 1024), (9, 16384), (10, 12288), (11, 12288),
   (12, 16384), (13, 128), (14, 256), (15, 128), (16, 65536), (17, 32768)]

/-- The sections that a full bitstream must contain (R129). -/
def mandatory : List Nat := [1, 2, 3, 4, 5, 8, 9, 10, 11, 13, 16, 17]

/-- Whether two sections overlap. -/
def overlap (a b : SectionHdr) : Bool := decide (a.offset < b.offset + b.length ∧ b.offset < a.offset + a.length)

/-- The directory (R128, code 08h; lengths, code 0Ah). A full bitstream holds every mandatory section; a partial holds IDENT (R129). An entry
whose reserved bytes are not 0 is malformed, and a section's format version is not judged: the model's choices (log entry 65). -/
def dirFault (full : Bool) (c : Container) : Option Finding :=
  let l := c.sections
  let first (code : Nat) (bad : SectionHdr → Bool) : Option Finding := (l.find? bad).map (fun s => (code, s.id, 0))
  let must := if full then mandatory else [1]
  firstOf [
    first 0x08 (fun s => s.reserved != 0 || (s.id != 0xFF && (sectionMax.lookup s.id).isNone)),
    first 0x08 (fun s => decide (s.offset < 512 ∨ s.offset % 16 ≠ 0 ∨ c.len < s.offset + s.length + 368)),
    first 0x08 (fun s => l.any (fun t => t != s && overlap s t)),
    (repeated (l.map (·.id))).map (fun k => (0x08, k, 0)),
    (must.find? (fun k => !l.any (fun s => s.id == k))).map (fun k => (0x08, k, 0)),
    first 0x0A (fun s => match sectionMax.lookup s.id with | some m => decide (m < s.length) | none => false)]

/-- The sections' CRCs (R128, code 09h); PAD is skipped. -/
def crcFault (c : Container) : Option Finding :=
  (c.sections.find? (fun s => s.id != 0xFF && crc32 (c.bytesOf s) != s.crc)).map (fun s => (0x09, s.id, 0))

/-- The first entry of a section that breaks its layout, under a code (log entry 65). -/
def unfit (c : Container) (code sec size : Nat) (bad : Nat → List Nat → Bool) : Option Finding :=
  findingAt code sec (((entriesOf (c.section sec) size).find? (fun x => bad x.1 x.2)).map (·.1))

/-- The entries whose layout the spec gives: bytes and bits that are not listed are 0, and fields keep to their ranges (R228, R249, R250, R297,
R318, R341). The spec gives these failures no code of their own; the model takes that of the section's other checks (log entry 65). -/
def layoutFault (c : Container) : Option Finding :=
  let t := c.section 13
  firstOf [unfit c 0x0B 7 64 (fun _ b => stringUnfit b), unfit c 0x0B 8 32 (fun _ b => storeUnfit b),
    unfit c 0x0B 9 16 (fun _ b => railUnfit b), unfit c 0x0E 10 8 (fun _ b => edgeUnfit b), unfit c 0x0F 11 16 (fun _ b => faultUnfit b),
    findingAt 0x0B 13 ((List.range 6).find? (fun n => thermUnfit n (cut t (16 * n) 16))),
    if decide (leAt t 96 2 < 10 ∨ 600 < leAt t 96 2) || !zeroAt t (span 98 128) then some (0x0B, 13, 6) else none]

/-- Whether a rail is defined by RAILS. -/
def hasRail (c : Content) (r : Nat) : Bool := c.rails.any (fun x => x.rail == r)

/-- Whether the content configures an input, a Bench, a slot, a rectifier, a string. -/
def hasMon (c : Content) (i : Nat) : Bool := c.mons.any (fun m => m.input == i)

/-- The plane of Bench `n` in the content. -/
def planeOf (c : Content) (n : Nat) : Option Plane := (c.planes.find? (fun x => x.1 == n)).map (·.2)

/-- Whether the content configures Bench `n`. -/
def hasPlane (c : Content) (n : Nat) : Bool := match planeOf c n with | some p => !p.phases.isEmpty | none => false

/-- Whether every bit of a mask below `n` names something configured, and no bit lies above. -/
def maskOk (m n : Nat) (has : Nat → Bool) : Bool := decide (m < 2 ^ n) && (List.range n).all (fun i => !m.testBit i || has i)

/-- Whether a channel is allotted. -/
def hasChan (c : Content) (i : Nat) : Bool := c.chans.any (fun x => x.chan == i && x.owner != .unassigned)

/-- Whether a slot is present, a string configured, a rectifier described. -/
def hasSlotIn (c : Content) (n : Nat) : Bool := c.slots.any (fun x => x.slot == n)

/-- Whether a string is configured. -/
def hasStrIn (c : Content) (n : Nat) : Bool := c.strings.any (fun x => x.string == n)

/-- Whether a rectifier is described. -/
def hasRectIn (c : Content) (n : Nat) : Bool := c.rects.any (fun x => x.rect == n)

/-- The allotment (code 0Bh): nothing is given twice. -/
def allotFault (c : Content) : Option Finding :=
  firstOf [findingAt 0x0B 2 (repeated (c.pins.map (·.pin))), findingAt 0x0B 2 ((repeated (c.chans.map (·.chan))).map (32 + ·)),
    firstAt 0x0B 4 c.mons (·.input) (fun m => m.fast && decide (64 ≤ m.input)),
    badIf (!c.rects.isEmpty && c.ledger.caps.isEmpty) 0x0B 8]

/-- Whether the feedback input of Bench `n`'s plane is bound to the Bench's rail (R163). -/
def feedbackBound (c : Content) (n : Nat) (p : Plane) : Bool :=
  c.mons.any (fun m => m.input == p.fb && c.rails.any (fun r => m.bind == .rail r.rail && r.kind == .bench n))

/-- The bindings of the ledger's stores (R228, code 0Bh): the first store of the section that breaks one. A MONITOR entry names a store
by its entry in the section. -/
def ledgerFault (c : Content) : Option Finding :=
  let l := c.ledger
  let bound (pos i : Nat) : Bool := c.mons.any (fun m => m.input == i && m.bind == .store pos)
  let bad : List Nat :=
    (l.caps.filter (fun x => !bound x.pos x.vsense || !maskOk x.src 32 (hasChan c) || !maskOk x.load 32 (hasChan c)
        || !maskOk x.bat 4 (hasStrIn c))).map (·.pos)
      ++ ((l.strings.zip l.stringPos).filter (fun x => !hasStrIn c x.1)).map (·.2)
      ++ (l.holds.filter (fun x => !maskOk x.rects 24 (hasRectIn c))).map (·.pos)
      ++ (l.landings.filter (fun x =>
        !maskOk x.slots 16 (hasSlotIn c) || !maskOk x.benches 16 (hasPlane c) || !maskOk x.loads 32 (hasChan c))).map (·.pos)
      ++ (l.inputs.filter (fun x => !bound x.pos x.input)).map (·.pos)
  (bad.min?).map (fun p => (0x0B, 8, p))

/-- A rectifier's channel must be one that ALLOT gives SHR (R203, code 0Bh). -/
def rectFault (c : Content) : Option Finding :=
  firstAt 0x0B 6 c.rects (·.rect) (fun r => match r.chan with
    | some k => !c.chans.any (fun x => x.chan == k && x.owner == .shr)
    | none => false)

/-- Whether two RAILS entries name one element. -/
def sameElement : RailKind → RailKind → Bool
  | .bench a, .bench b => a == b
  | .slot a, .slot b => a == b
  | _, _ => false

/-- A RAILS entry that R252 rejects; on a worker also a REMOTE entry in its own block. -/
def railBad (c : Content) (worker : Bool) (w : Nat) (r : RailCfg) : Bool :=
  (match r.kind with
   | .bench n => !hasPlane c n
   | .slot n => !hasSlotIn c n
   | .pmbus .. => decide (r.monin = 0xFF ∨ r.vnom = 0)
   | .watch => decide (r.monin = 0xFF ∨ r.vnom = 0)
   | .cond k => !c.dowels.any (fun x => x.dowel == k)
   | .remote => worker && decide (64 * w ≤ r.rail ∧ r.rail < 64 * w + 64))
  || c.rails.any (fun x => x.rail != r.rail && sameElement x.kind r.kind)

/-- The ring position of a worker; 0 where no LINK section stands (R251). -/
def positionOf (c : Content) : Nat := if c.link.isSome then c.node / 16 % 16 else 0

/-- The phases of the planes before place `i` of a list and of that one. -/
def phasesTo (l : List (Nat × Plane)) (i : Nat) : Nat := ((l.take (i + 1)).map (fun x => x.2.phases.length)).foldl (· + ·) 0

/-- The planes (code 0Ch, and code 0Bh for their feedback). `total` counts the phases of the planes that are not in the list; `entry` gives the
section entry of a plane's place in the list. A pin or a channel that a plane joins twice, and a second plane for one Bench, fail with 0Ch too
(log entry 65). -/
def planesFault (c allot : Content) (total : Nat) (entry : Nat → Nat) (l : List (Nat × Plane)) : Option Finding :=
  let at_ (code i : Nat) : Finding := (code, 3, entry i)
  let bad (x : Nat × Plane) : Bool :=
    let own := x.2.phases.all (fun p => allot.pins.any (fun q => q.pin == p.pin && q.owner == .bench x.1)
      && allot.chans.any (fun q => q.chan == p.chan && q.owner == .bench x.1))
    !own || decide (16 ≤ x.1 ∨ 32 < x.2.phases.length) || (x.2.phases.isEmpty == (x.2.tag != 0))
      || (repeated (x.2.phases.map (·.pin))).isSome || (repeated (x.2.phases.map (·.chan))).isSome
  firstOf [(l.findIdx? bad).map (at_ 0x0C),
    ((List.range l.length).find? (fun i => (l.take i).any (fun x => some x.1 == (l[i]?).map (·.1)))).map (at_ 0x0C),
    ((List.range l.length).find? (fun i => decide (32 < total + phasesTo l i))).map (at_ 0x0C),
    (l.findIdx? (fun x => !x.2.phases.isEmpty && !feedbackBound c x.1 x.2)).map (at_ 0x0B)]

/-- Edges left when those whose prerequisite depends on nothing have been taken away, again and again. -/
def pruneEdges : Nat → List EdgeCfg → List EdgeCfg
  | 0, l => l
  | n + 1, l => pruneEdges n (l.filter (fun e => l.any (fun f => f.dst == e.src)))

/-- The dependency graph (codes 0Dh, 0Eh): no cycle, no undefined rail, no edge twice, no more than 1,536 edges and 64 live rails. -/
def graphFault (c : Content) : Option Finding :=
  firstOf [
    findingAt 0x0E 10 (if 1536 < c.edges.length then some 1536 else none),
    findingAt 0x0E 9 (((c.rails.filter (·.live))[64]?).map (·.rail)),
    firstBad 0x0E 10 c.edges (fun e => !hasRail c e.src || !hasRail c e.dst),
    firstBad 0x0E 10 (c.edges.mapIdx (fun i e => (i, e)))
      (fun x => (c.edges.take x.1).any (fun f => f.src == x.2.src && f.dst == x.2.dst)),
    ((pruneEdges c.edges.length c.edges).head?).map (fun e => (0x0D, 10, c.edges.findIdx (· == e)))]

/-- The sources that the content's elements have and that must be marked used (R316): Benches, slots, rectifiers, strings, request
groups that hold a rail, BUSCAP stores, and the device sources of the configured functions. -/
def mustUse (c : Content) : List Nat :=
  let ks (l : List Nat) (n : Nat) (f : Nat → Nat → Nat) : List Nat := l.flatMap (fun x => (List.range n).map (f x))
  let eng := !c.ledger.caps.isEmpty && !c.ledger.landings.isEmpty
  let cap := !c.rects.isEmpty && c.chans.any (fun x => x.role == .load)
    && c.chans.any (fun x => match x.role with | .sourceRect _ => true | .sourceGroups _ => true | _ => false)
  let groups := (List.range 16).filter (fun g => c.rails.any (fun r => r.group == g))
  ks ((List.range 16).filter (hasPlane c)) 10 srcBench ++ ks (c.slots.map (·.slot)) 11 srcSlot
    ++ ks groups 5 (fun g k => srcSeq k g)
    ++ ks (c.rects.map (·.rect)) 2 (fun r k => 536 + 24 * k + r) ++ ks (c.strings.map (·.string)) 6 srcStr
    ++ (if cap then [584] else []) ++ (if eng then [585, 586, 587, 588] else []) ++ (List.range c.ledger.caps.length).map (589 + ·)
    ++ [617, 618, 619, 620, 621, 622, 623, 624, 626, 627, 648, 649]
    ++ (if c.therm.any (fun t => decide (2 ≤ t.sensor)) then [625] else [])
    ++ ((c.therm.filter (fun t => decide (2 ≤ t.sensor))).map (fun t => 626 + t.sensor))
    ++ (if c.duplex.isSome then (List.range 7).map (632 + ·) else [])
    ++ (if c.link.isSome then (List.range 8).map (640 + ·) else [])

/-- The sources used only where the installation names them (R316). -/
def mayUse (c : Content) : List Nat :=
  (c.mons.map (fun m => 384 + m.input)) ++ (List.range 48).map (656 + ·) ++ (List.range 64).map (704 + ·)

/-- Whether a window source watches an input that a Bench uses for feedback or protection (R319). -/
def benchInput (c : Content) (i : Nat) : Bool :=
  c.mons.any (fun m => m.input == i && decide (i < 64) && c.rails.any (fun r => m.bind == .rail r.rail &&
    (match r.kind with | .bench _ => true | _ => false)))

/-- A FAULTMAP entry that breaks a rule (R316 to R319). Of an unused entry only WLO, WHI and WDB count, as R319 limits that case to no used
one; a fixed class and a Dowel are judged where they act, of a used entry (log entry 65). -/
def faultBad (c : Content) (e : FaultEntry) : Bool :=
  let window := decide (384 ≤ e.src ∧ e.src < 456)
  let fast := c.mons.any (fun m => m.input + 384 == e.src && m.fast)
  (!window && (e.wlo || e.whi || e.wdb != 0)) || (e.used && (!(mustUse c ++ mayUse c).contains e.src
    || (match fixedCls e.src with | some k => e.cls != k | none => false)
    || (decide (628 ≤ e.src ∧ e.src < 632) && (e.cls == .note || e.cls == .warn))
    || (decide (637 ≤ e.src ∧ e.src < 639) && e.cls == .halt)
    || (window && (!(e.wlo || e.whi) || (!fast && e.wdb == 0) || benchInput c (e.src - 384)))
    || (decide (656 ≤ e.src ∧ e.src < 704) && !c.dowels.any (fun x => x.dowel == e.dowel))))

/-- The Fault Source Map (code 0Fh). -/
def mapFault (c : Content) : Option Finding :=
  firstOf [(c.faults.find? (faultBad c)).map (fun e => (0x0F, 11, e.src)),
    findingAt 0x0F 11 (repeated (c.faults.map (·.src))),
    ((mustUse c).find? (fun s => !c.faults.any (fun e => e.src == s && e.used))).map (fun s => (0x0F, 11, s))]

/-- The Dowels that Dowel `k`'s inputs name, if its timer is none. -/
def dowelFeeds (c : Content) (k : Nat) : List Nat :=
  match c.dowels.find? (fun x => x.dowel == k) with
  | some x => if x.mode = .none then x.inputs.filterMap (fun s => match s with | .dowel j => some j | _ => none) else []
  | none => []

/-- Whether a timer-free chain of more than `n` Dowels ends in one of a list. -/
def chainOver (c : Content) : Nat → List Nat → Bool
  | 0, l => !l.isEmpty
  | n + 1, l => chainOver c n ((l.flatMap (dowelFeeds c)).filter (fun k =>
      c.dowels.any (fun x => x.dowel == k && x.mode == .none))).eraseDups

/-- The Dowels (code 10h): no feedback and no chain of more than 32 without a timer (R135). -/
def dowelFault (c : Content) : Option Finding :=
  firstAt 0x10 12 c.dowels (·.dowel) (fun x => x.mode == .none && chainOver c 32 [x.dowel])

/-- The roles (R137, R251; code 11h). R137 requires no DUPLEX section of a manager and permits none either: the model rejects one, as R5 makes
a pair of two workers (log entry 66). -/
def roleFault (i : Ident) (c : Content) : Option Finding :=
  let w := positionOf c
  let live (r : Nat) : Bool := c.rails.any (fun x => x.rail == r && x.live)
  let local_ (r : RailCfg) : Bool := decide (64 * w ≤ r.rail ∧ r.rail < 64 * w + 64)
  if i.role = 0 then
    firstOf [badIf (i.duplex != c.duplex.isSome) 0x11 15,
      firstAt 0x11 9 c.rails (·.rail) (fun r => !local_ r && (r.live || r.kind != .remote)),
      firstBad 0x11 10 c.edges (fun e => !live e.src && !live e.dst)]
  else
    firstOf [firstAt 0x11 3 c.planes (·.1) (fun x => !x.2.phases.isEmpty), firstAt 0x11 5 c.slots (·.slot) (fun _ => true),
      firstAt 0x11 7 c.strings (·.string) (fun _ => true), firstAt 0x11 9 c.rails (·.rail) (fun r => r.live || r.kind != .remote),
      badIf c.link.isNone 0x11 14, badIf (c.duplex.isSome) 0x11 15]

/-- Whether a bound belongs to a field of Bench `n`. -/
def ofBench (n : Nat) (b : Bound) : Bool := b.key / 8 / 0x100 == 0x400 + n

/-- A BOUNDS entry that names no tunable field or leaves the field's stated range (code 12h, R125). -/
def boundBad (b : Bound) : Bool :=
  match (rowAt (b.key / 8 / 4 * 4)).bind (fun r => r.fields.find? (fun x => x.lo == b.key - 8 * (b.key / 8 / 4 * 4))) with
  | none => true
  | some x => (x.acc != .rw && x.acc != .rwl) || decide (b.hi < b.lo)
      || (match x.range with | some (lo, hi) => decide (b.lo < lo ∨ hi < b.hi) | none => false)

/-- A DEFAULTS entry that names no register, or a value outside its bound entry (code 12h); a value outside the stated range alone is held as a
write is (R125). -/
def defaultBad (c : Content) (x : Nat × Nat) : Bool :=
  match rowAt x.1 with
  | none => true
  | some r => r.fields.any (fun f =>
      let v := x.2 / 2 ^ f.lo % 2 ^ f.width
      let i : Int := if f.signed then toSigned f.width v else v
      let out (lo hi : Int) : Bool := decide (i < lo ∨ hi < i)
      (f.acc == .rw || f.acc == .rwl) && (
        (c.bounds ++ c.planes.flatMap (·.2.bounds)).any (fun b => b.key == 8 * x.1 + f.lo && out b.lo b.hi)))

/-- DEFAULTS and BOUNDS (code 12h). -/
def tuneFault (c : Content) : Option Finding :=
  firstOf [firstBad 0x12 17 c.bounds boundBad, firstAt 0x12 3 c.planes (·.1) (fun x => x.2.bounds.any (fun b => boundBad b || !ofBench x.1 b)),
    firstBad 0x12 16 c.defaults (defaultBad c)]

/-- The entries of a list of stores beyond its kind's count. -/
def beyond (n : Nat) (l : List Nat) : List Nat := l.filter (fun p => decide (n ≤ (l.filter (fun q => decide (q < p))).length))

/-- The store counts of the LEDGER, and the INDEX of its LANDING stores (R227, code 17h): the first store in excess. -/
def countFault (c : Content) : Option Finding :=
  let l := c.ledger
  let twin := l.landings.filter (fun x => l.landings.any (fun y => y.group == x.group && decide (y.pos < x.pos)))
  let exceeds := beyond 4 (l.caps.map (·.pos)) ++ beyond 4 l.stringPos ++ beyond 8 (l.holds.map (·.pos))
    ++ beyond 8 (l.landings.map (·.pos)) ++ beyond 8 (l.inputs.map (·.pos)) ++ twin.map (·.pos)
  (exceeds.min?).map (fun p => (0x17, 8, p))

/-- Every structural check of a full bitstream, in the order of the codes (R138, R152). A ring of more than 33 nodes or an UP ring of more than 17, which R36, R376 and R377 rule
out without a code, takes that of the other bindings (log entry 65). -/
def structFault (i : Ident) (c : Content) : Option Finding :=
  firstOf [allotFault c, rectFault c, ledgerFault c, firstAt 0x0B 9 c.rails (·.rail) (railBad c (i.role == 0) (positionOf c)),
    planesFault c c 0 (fun i => ((c.planes[i]?).map (·.1)).getD i) c.planes,
    badIf (c.link.any (fun l => decide (33 < l.nodes ∨ 17 < l.upNodes))) 0x0B 14, graphFault c, mapFault c, dowelFault c, roleFault i c, tuneFault c,
    firstAt 0x15 5 c.slots (·.slot) (fun s => decide (s.kerf < 10 ∨ 300 < s.kerf)), countFault c]

/-- What the loader finds in a full bitstream, step by step (R138). -/
def Dev.loadFault (d : Dev) (o : Otp) (c : Container) : Option Finding :=
  firstOf [(d.headFault o [1] c).map (fun e => (e, 0, 0)), dirFault true c, (sealFault o c).map (fun e => (e, 0, 0)),
    crcFault c, layoutFault c, structFault c.ident c.content]

/-- A plane with the bounds that a partial's BOUNDS section gives its Bench's fields (R129). -/
def withBounds (p : Plane) (l : List Bound) : Plane := { p with bounds := p.bounds ++ l }

/-- A plane of a partial whose tag is that of the Bench's active plane with another content (R131). -/
def Dev.tagTaken (d : Dev) (c : Content) (x : Nat × Plane) : Bool :=
  let p := withBounds x.2 (c.bounds.filter (ofBench x.1))
  let own := (d.bench x.1).active
  p.tag != 0 && p.tag == own.tag && p != own

/-- What the partial loader finds (R144): besides, the base, the sections, and the phases with every plane made active. Its planes stand in the
BENCH section one after the other, so that ENTRY is a plane's place there (R129, R152). -/
def Dev.partFault (d : Dev) (o : Otp) (c : Container) : Option Finding :=
  let x := c.content
  let ns := x.planes.map (·.1)
  let others := ((List.range 16).filter (fun n => !ns.contains n)).foldl (fun a n => a + (d.bench n).active.phases.length) 0
  let base := d.get F.FAB_RUN_ID_LO_ID + 2 ^ 32 * d.get F.FAB_RUN_ID_HI_ID
  firstOf [(d.headFault o [2] c).map (fun e => (e, 0, 0)), badIf (c.hdr.baseId != base) 0x13 0, dirFault false c,
    (c.sections.find? (fun s => s.id != 1 && s.id != 3 && s.id != 17)).map (fun s => (0x14, s.id, 0)),
    (sealFault o c).map (fun e => (e, 0, 0)), crcFault c,
    planesFault d.cfg d.cfg others id x.planes, firstBad 0x0C 3 x.planes (d.tagTaken x),
    firstBad 0x14 17 x.bounds (fun b => !ns.any (ofBench · b)), firstBad 0x12 17 x.bounds boundBad,
    firstBad 0x12 3 x.planes (fun y => y.2.bounds.any (fun b => boundBad b || !ofBench y.1 b))]

/-- FAB.LOAD_ERR of a failed load (R152). -/
def Dev.loadErr (d : Dev) (part : Bool) (e : Finding) : Dev :=
  d.set F.FAB_LOAD_ERR_CODE e.1 |>.set F.FAB_LOAD_ERR_SECTION e.2.1 |>.set F.FAB_LOAD_ERR_ENTRY e.2.2
    |>.setB F.FAB_LOAD_ERR_SRC part

/-! ### Commit (R138, R141) -/

/-- A phase as a plane's entry makes it: OFF. -/
def freshPhase (p : PlanePhase) : Phase := { pin := p.pin, chan := p.chan, safeZ := p.safeZ }

/-- BEN.n.CFG from the active plane. -/
def Dev.showPlane (d : Dev) (n : Nat) : Dev :=
  let p := (d.bench n).active
  d.setB (F.BEN_CFG_TOPO n) p.cm |>.set (F.BEN_CFG_UPDIV n) p.updiv |>.set (F.BEN_CFG_NPLANE n) p.phases.length
    |>.setB (F.BEN_CFG_NLREL n) p.nlrelZ |>.setB (F.BEN_CFG_STOPMODE n) p.coast |>.set (F.FAB_PLANE_ACTIVE_TAG n) p.tag

/-- Whether a field that DEFAULTS names is a rate bit that refuses the value, as it refuses a write (R82, R104). -/
def Dev.defaultRefused (d : Dev) (addr lo v : Nat) : Bool :=
  addr == 0x10008 && (lo == 2 || lo == 3) && d.rateRefused (lo - 2) (v != 0)

/-- One DEFAULTS pair written to its register (R124): every field but those that hold state of their own. A value outside the field's stated
range is held as a write's is (R125). -/
def Dev.defaultWrite (was : Dev) (x : Nat × Nat) : Dev :=
  match rowAt x.1 with
  | none => was
  | some r => r.fields.foldl (fun d f =>
      let v := x.2 / 2 ^ f.lo % 2 ^ f.width
      if was.defaultRefused x.1 f.lo v then d
      else if f.acc = .rw ∨ f.acc = .rwl then (d.storeTuned f x.1 v {}).1
      else if x.1 = 0x90000 ∨ x.1 / 0x10000 = 25 ∧ f.acc = .ro ∧ x.1 % 0x100 = 0 then d.set (f.at x.1) v
      else d) was

/-- The owner code of ADC.c.STATUS.KIND. -/
def ownerCode : Owner → Nat
  | .unassigned => 0
  | .bench _ => 1
  | .shr => 2
  | .eng => 3

/-- The read-only fields that show the structure (the "bitstream" entries of the field tables). -/
def Dev.showStructure (d : Dev) : Dev :=
  let c := d.cfg
  let d := Dev.each c.chans (fun x d =>
    d.setB (F.ADC_STATUS_RSEL x.chan) x.wide |>.set (F.ADC_STATUS_KIND x.chan) (ownerCode x.owner)
      |>.set (F.ADC_STATUS_BENCH x.chan) (match x.owner with | .bench n => n | _ => 0)) d
  let d := Dev.each (c.mons.filter (fun m => decide (m.input < 64))) (fun m d => d.setB (F.MON_WIN_FAST m.input) m.fast) d
  let d := Dev.each c.slots (fun s d =>
    d.setB (F.HSW_CFG_PRESENT s.slot) true |>.setB (F.HSW_CFG_SEQOWN s.slot) (c.rails.any (fun r => r.kind == .slot s.slot))
      |>.set (F.HSW_CFG_PRIO s.slot) s.prio |>.set (F.HSW_CFG_KERF s.slot) s.kerf |>.set (F.HSW_CFG_IGATE s.slot) s.igate) d
  let d := Dev.each c.rails (fun r d => d.set (F.SEQ_STATE_KIND r.rail) r.kind.code |>.set (F.SEQ_STATE_GROUP r.rail) r.group) d
  let d := Dev.each c.rects (fun r d => d.set (F.SHR_STATE_GROUP r.rect) (r.group.getD 4)) d
  let d := Dev.each c.ledger.landings (fun l d =>
    d.set (F.ENG_TLAND_TLAND l.group) l.tland |>.setB (F.ENG_TLAND_USED l.group) true |>.set (F.ENG_PFLOOR_VALUE l.group) l.pfloor) d
  let x := c.duplex.getD {}
  let d := if c.duplex.isSome then
      d.set F.DPX_CFG_ARBITER x.arbiter |>.set F.DPX_CFG_RESOLVE_T x.resolveT |>.set F.DPX_CFG_SIDE (d.get F.RST_STRAP_DPX_SIDE)
    else d
  match c.link with
  | some l => d.set F.LNK_CFG_ROLE l.role |>.set F.LNK_CFG_ADDR c.node |>.set F.LNK_CFG_NODES l.nodes |>.set F.LNK_CFG_INDEX l.index
  | none => d

/-- The sections of a container as they stand in configuration memory, each with its CRC-32 beside it (R130); PAD is skipped. -/
def storedSections (c : Container) : List StoredSection :=
  (c.sections.filter (fun s => s.id != 0xFF)).map (fun s => { id := s.id, bytes := c.bytesOf s, crc := s.crc })

/-- A full bitstream committed: every structure in place, DEFAULTS written, the fabric locked, FAB READY (R138, R141). -/
def Dev.commit (d : Dev) (c : Container) : Dev :=
  let d : Dev := { d with
    cfg := { c.content with runIdLo := c.hdr.buildId % 2 ^ 32 }, cfgMem := storedSections c, cfgBad := false }
  let d := Dev.each c.content.planes (fun x d => d.modBench x.1 (fun b =>
    { b with active := x.2, phases := x.2.phases.map freshPhase })) d
  let d := Dev.each (List.range 16) (fun n d => if d.hasBench n then d.showPlane n else d) d
  let d := d.showStructure.thmCommit
  let d := (Dev.each c.content.defaults (fun x d => d.defaultWrite x) d).thmSettle
  let d := Dev.each (List.range 16) (fun n d => if d.hasBench n then
    ((d.modBench n (fun b => { b with vtEff := d.vtNew n })).feedbackWin n).protectWin n else d) d
  let d := d.set F.FAB_RUN_ID_LO_ID (c.hdr.buildId % 2 ^ 32) |>.set F.FAB_RUN_ID_HI_ID (c.hdr.buildId / 2 ^ 32)
    |>.set F.FAB_VERSION_VERSION c.hdr.version |>.setB F.FAB_STATUS_LOADED true |>.setB F.FAB_STATUS_LOCKED true
    |>.setB F.FAB_STATUS_SCRUBBING true
  let d := Dev.each c.content.strings (fun x d => d.strStart x) d
  let d := match c.content.duplex with
    | some x => d.modDpx (fun y => { y with resolveEnd := some (d.loop + x.resolveT * ms) })
    | none => d
  d.readyOn 1

/-! ### Partial loads (R144) -/

/-- The sections of a partial from which the shadow plane of Bench `n` came, each with its CRC-32 beside it, in place of those of the plane that
it replaces (R130). -/
def storeShadow (n : Nat) (c : Container) (l : List StoredSection) : List StoredSection :=
  l.filter (fun s => !(s.bench == some n && s.shadow))
    ++ ((storedSections c).filter (fun s => s.id == 3 || s.id == 17)).map (fun s => { s with bench := some n, shadow := true })

/-- The planes of an accepted partial written as shadow planes (R144). -/
def Dev.shadowWrite (d : Dev) (c : Container) : Dev :=
  Dev.each c.content.planes (fun x d =>
    let p := withBounds x.2 (c.content.bounds.filter (ofBench x.1))
    let d : Dev := { d with cfgMem := storeShadow x.1 c d.cfgMem }
    (d.modBench x.1 (fun b => { b with shadow := p })).set (F.FAB_PLANE_SHADOW_TAG x.1) p.tag
      |>.setB (F.FAB_PLANE_SHADOW_VALID x.1) true) d

/-- The end of a partial load: its planes accepted with PDONE, or nothing changed and PFAIL (R144). -/
def Dev.partialEnd (d : Dev) (o : Otp) (c : Container) : Dev :=
  let d : Dev := { d with loading := 0 }
  let d := d.setB F.FAB_STATUS_PBUSY false |>.setB F.FAB_PLOAD_GO false
  match d.partFault o c with
  | none => (d.shadowWrite c).stick F.FAB_STATUS_PDONE 1
  | some e => (d.loadErr true e).stick F.FAB_STATUS_PFAIL 1

/-- The Drawer pages of a partial load. -/
def Dev.ploadPages (d : Dev) : List Nat := (List.range (d.get F.FAB_PLOAD_COUNT)).map (d.get F.FAB_PLOAD_PAGE + ·)

/-- A write of FAB.PLOAD with GO (R144): SEC and FAB must be READY (R117, R142) and the pages in DEVICE ownership and held by no
engine. `planes` are the Benches whose planes the container in the pages carries. -/
def Dev.partialGo (d : Dev) (page count planes : Nat) : Dev :=
  let a := 0x30014
  let w := page + 256 * count + 2 ^ 31
  if d.on F.FAB_STATUS_PBUSY then d.note 2 a w (d.plainWord a)
  else if !d.ready 1 || !d.ready 26 then d.goIgnored a w (2 ^ 31)
  else
    let d := d.plainWrite a (page + 256 * count)
    let l := d.ploadPages
    if count = 0 ∨ 16 < count ∨ 64 < page + count ∨ l.any (fun p => d.own p != ownDev || d.engineHolds p) then
      d.note 3 a w (d.plainWord a)
    else
      let d : Dev := { d.holdPages l true with loading := planes }
      d.setB F.FAB_PLOAD_GO true |>.setB F.FAB_STATUS_PBUSY true

/-- Whether the bytes of a container are those that stand in the Drawer from page `p` on. -/
def Dev.pagesHold (d : Dev) (p : Nat) (c : Container) : Bool := d.memBytes (drawerBase + 0x1000 * p) c.len == c.raw

/-- The end of the partial load that FAB.PLOAD started, with the container that its pages hold: the pages are let go. The container's length
is not compared with the pages that COUNT names (log entry 67). -/
def Dev.partialDone (d : Dev) (o : Otp) (c : Container) : Dev :=
  if d.on F.FAB_STATUS_PBUSY && d.pagesHold (d.get F.FAB_PLOAD_PAGE) c then (d.holdPages d.ploadPages false).partialEnd o c else d

/-! ### Plane swaps (R145 to R151) -/

/-- The state of Bench `n` in FAB.SWAP_STAT: 0 IDLE, 1 PENDING, 2 DONE, 3 REFUSED. -/
def Dev.swapState (d : Dev) (n : Nat) : Nat := d.get F.FAB_SWAP_STAT_STATE / 4 ^ n % 4

/-- FAB.SWAP_STAT of Bench `n` set. -/
def Dev.swapSet (d : Dev) (n v : Nat) : Dev :=
  let w := d.get F.FAB_SWAP_STAT_STATE
  d.set F.FAB_SWAP_STAT_STATE (w - w / 4 ^ n % 4 * 4 ^ n + v * 4 ^ n)

/-- Whether PRO holds Bench `n` by a force of an earlier tick: one of the swap tick itself lets the swap complete (R149). -/
def Dev.heldBefore (d : Dev) (n : Nat) : Bool := d.benchHeld n && (d.bench n).forcedAt != some d.loop

/-- Why a swap of Bench `n` is refused now (R148), as FAB.n.PLANE.REASON codes it; 0 where nothing refuses it. `held` says that PRO holds the
Bench. Where several reasons hold, the spec does not say which is shown: the model takes them in the order below (log entry 81). -/
def Dev.swapReason (d : Dev) (n : Nat) (held differs : Bool) : Nat :=
  if !d.ready 1 then 4
  else if !d.on (F.FAB_PLANE_SHADOW_VALID n) then 1
  else if held then 2
  else if d.isDuplex && differs then 3 else 0

/-- The SWAP record (R412). -/
def Dev.swapRecord (d : Dev) (n result old new : Nat) : Dev := d.record 8 0 d.tim ([n, result] ++ le 2 old ++ le 2 new ++ [0, 0])

/-- A swap refused (R148): the planes stay as they were. -/
def Dev.swapRefuse (d : Dev) (n r : Nat) : Dev :=
  ((d.swapSet n 3).set (F.FAB_PLANE_REASON n) r).swapRecord n 3 (d.get (F.FAB_PLANE_ACTIVE_TAG n)) (d.get (F.FAB_PLANE_SHADOW_TAG n))

/-- A swap of Bench `n` refused here, of which the partner of a duplex device hears (R151). -/
def Dev.swapTurnDown (d : Dev) (n r : Nat) : Dev := (d.swapRefuse n r).tell (.swap n r)

/-- One Bench named by a GO: PENDING, or REFUSED. That an accepted GO sets REASON back is the model's choice (log entry 81). -/
def Dev.swapName (d : Dev) (n : Nat) (differs : Bool) : Dev :=
  let r := d.swapReason n (d.benchHeld n) differs
  if r = 0 then (d.swapSet n 1).set (F.FAB_PLANE_REASON n) 0 else d.swapTurnDown n r

/-- A GO of FAB.SWAP as it is seen in LOOP (R145): `differs` are the Benches whose shadow tag the partner holds otherwise (R148). The
register bit clears itself. Without FAB READY every named Bench is refused. -/
def Dev.swapGo (d : Dev) (mask differs : Nat) : Dev :=
  let d := d.set F.FAB_SWAP_BENCH (mask % 0x10000)
  Dev.each (List.range 16) (fun n d => if mask.testBit n then d.swapName n (differs.testBit n) else d) d

/-- A GO of FAB.SWAP written on this device; the active's reaches its partner in the next frame, ahead of what this device finds (R151).
Before FAB READY it leaves the NOTE of R117 as well. -/
def Dev.swapWrite (d : Dev) (mask differs : Nat) : Dev :=
  let w := mask % 0x10000 + 2 ^ 31
  let d := if d.ready 1 then d else d.note 2 0x30018 w (mask % 0x10000)
  (d.tell (.write 0x30018 w)).swapGo mask differs

/-- Whether a pending swap of Bench `n` waits: its rail starts or stops, or its pre-start test runs (R148). -/
def Dev.swapWaits (d : Dev) (n : Nat) : Bool :=
  (match d.railOfBench n with
   | some r => d.rstate r.rail == .start || d.rstate r.rail == .stop
   | none => false)
  || d.get (F.BEN_STATUS_STATE n) == BState.prestart.code

/-- The phases of a Bench on a new plane (R145, R146, R149): those it keeps with what they hold, the added ones shed until they join. A phase
goes by its pin: one that the new plane pairs with another channel runs on, with no added edge (log entry 80). -/
def carryPhases (b : Bench) (run : Bool) (new : Plane) : List Phase :=
  new.phases.map (fun p =>
    match b.phases.find? (fun q => q.pin == p.pin) with
    | some q => { q with safeZ := p.safeZ, chan := p.chan }
    | none => if run then { freshPhase p with shed := true, cond := .z } else freshPhase p)

/-- The duty delivered last: the mean over the switching phases. -/
def Bench.lastDuty (b : Bench) : Rat := meanR (b.sw.map (·.duty))

/-- The output of the last voltage loop in the unit of the new plane: the current command, or from a VM plane the current that flows, in
amperes for a CM plane; the duty delivered last for a VM plane (R147, R164; log entry 63). -/
def Bench.lastOut (b : Bench) (new : Plane) : Rat :=
  if new.cm then (if b.active.cm then b.cmd else (b.sw.foldl (fun a p => a + p.mean) 0) / 1000) else b.lastDuty

/-- A phase that its Bench's new plane does not join: a switching one goes on until its next period start and is shed there (R149, R176). -/
def Phase.remove (p : Phase) : Phase :=
  if p.switching then { p with switching := false, joining := false, leaving := true } else p

/-- A Bench with its planes exchanged: the phase map, the phases to be added and those to be shed. The next update tick lies one update
period of the new plane after the last one (R145, R149, R150). -/
def Bench.exchange (b : Bench) (run : Bool) : Bench :=
  let new := b.shadow
  let kept (p : Phase) : Bool := b.phases.any (fun q => q.pin == p.pin)
  let ps := carryPhases b run new
  let sameRate := b.active.updiv == new.updiv
  { b with
    active := new, shadow := b.active, phases := ps
    epoch := if sameRate then b.epoch else b.updAt (b.kth - 1), kth := if sameRate then b.kth else 1
    adds := if run then (List.range ps.length).filter (fun i => ((ps[i]?).map (fun p => !kept p)).getD false) else []
    left := if run then b.left ++ (b.phases.filter (fun p => !ps.any (fun q => q.pin == p.pin))).map Phase.remove else [] }

/-- A phase of a running Bench set for a new plane: its own integrator such that its first duty is its last one (R147). -/
def Phase.settle (p : Phase) (pl : Plane) (y : Rat) (m : Nat) : Phase :=
  if !p.switching then { p with ic := 0, bal := 0 }
  else if pl.cm then { p with ic := p.duty - fx pl.kpc * (y / m - p.mean / 1000), bal := 0, bump := true }
  else { p with ic := 0, bal := p.duty - y, bump := true }

/-- The loops of a running Bench set for its new plane, `y` the last output: the filters as if the last error had been constant for ever,
the integrator at I = D - G0 x e, which the first computation leaves as it stands (R147; log entry 63). -/
def Bench.settle (b : Bench) (y : Rat) (kscale : Nat) : Bench :=
  let pl := b.active
  let m := max 1 b.sw.length
  ({ b with
    phases := b.phases.map (fun p => p.settle pl y m), y := y, cmd := y, dlim := none, dv := 0
    iv := y - fx pl.kp * ((kscale : Rat) / 256) * b.ePrev, bump := true } : Bench).interleave

/-- The exchange of the planes of Bench `n` (R145 to R147, R150): the loops and the slew rate of a running Bench are set with its fields held
to the new plane's bounds, and the dropped marks follow the new phase map (R146, R182). -/
def Dev.swapDo (d : Dev) (n : Nat) : Dev :=
  let run := d.updating n
  let old := d.get (F.FAB_PLANE_ACTIVE_TAG n)
  let new := d.get (F.FAB_PLANE_SHADOW_TAG n)
  let y := (d.bench n).lastOut (d.bench n).shadow
  let d := d.modBench n (fun b => b.exchange run)
  let d := if run then d.modBench n (fun b => { ((b.settle y (d.kscaleE n)).anchor d.loop) with slew := d.slewE n }) else d
  let d := (d.showPlane n).set (F.FAB_PLANE_ACTIVE_TAG n) new |>.set (F.FAB_PLANE_SHADOW_TAG n) old
  let d := d.set (F.BEN_PHDROP_DROP n) ((d.bench n).phaseMask (·.dropped))
  let d := (d.swapSet n 2).swapRecord n 2 old new
  let d : Dev := { d with cfgMem := d.cfgMem.map (fun s => if s.bench == some n then { s with shadow := !s.shadow } else s) }
  let d := ((d.showPhases n).retarget n).protectWin n
  d.feedbackWin n

/-- Whether a Bench stands at an update boundary: the tick after an update has delivered its duty commands, or, where no updates run, any tick
(R145; log entry 64). -/
def Dev.atBoundary (d : Dev) (n : Nat) : Bool := !d.updating n || (d.bench n).updTick.map (· + 1) == some d.loop

/-- A pending Bench at its update boundary: it waits out a transition of its rail, then swaps or is refused (R145, R148). The partner of a
duplex device hears which (R151). -/
def Dev.benchSwap (d : Dev) (n : Nat) (differs : Bool) : Dev :=
  if d.swapState n ≠ 1 || d.swapWaits n || !d.atBoundary n then d
  else
    let r := d.swapReason n (d.heldBefore n) differs
    if r ≠ 0 then d.swapTurnDown n r else (d.swapDo n).tell (.swap n 0)

/-- What the partner did with its swap of Bench `n`: it is done here in the same update, or refused here as it was there (R151). -/
def Dev.partnerSwap (d : Dev) (n reason : Nat) : Dev :=
  if d.swapState n ≠ 1 then d
  else if reason ≠ 0 then d.swapRefuse n reason
  else
    let r := d.swapReason n (d.heldBefore n) false
    if r ≠ 0 then d.swapTurnDown n r else d.swapDo n

/-! ### The scrub (R143) -/

/-- One finding of a scrub pass. -/
def Dev.scrubFind (d : Dev) : ScrubFinding → Dev
  | .corrected => d.inc F.FAB_SCRUB_CORRECTED
  | .shadow n => (d.setB (F.FAB_PLANE_SHADOW_VALID n) false).raise 649
  | .other => ({ d with cfgBad := true } : Dev).raise 619

/-- What the scrub finds of the sections in configuration memory that no longer fit the CRC-32 kept beside them (R130): of a shadow plane, or of
anything else. -/
def Dev.crcStale (d : Dev) : List ScrubFinding :=
  (d.cfgMem.filter (fun s => crc32 s.bytes != s.crc)).map (fun s => match s.bench with
    | some n => if s.shadow then .shadow n else .other
    | none => .other)

/-- A scrub pass over all of configuration memory: what its ECC finds, and each section's CRC recomputed. -/
def Dev.scrub (d : Dev) (l : List ScrubFinding) : Dev :=
  if d.on F.FAB_STATUS_SCRUBBING then
    (Dev.each (l ++ d.crcStale) (fun x d => d.scrubFind x) d).incMod F.FAB_SCRUB_PASSES
  else d

/-! ### Dowels (R134 to R136) -/

/-- The Dowel entry of a number. -/
def Dev.dowelCfg (d : Dev) (k : Nat) : Option DowelCfg := d.cfg.dowels.find? (fun x => x.dowel == k)

/-- What the fabric holds of Dowel `k`. -/
def Dev.dowel (d : Dev) (k : Nat) : DowelSt := (d.dowels.find? (fun x => x.dowel == k)).getD { dowel := k }

/-- A Dowel's entry put into a list ordered by number. -/
def putDowel (x : DowelSt) : List DowelSt → List DowelSt
  | [] => [x]
  | y :: t => if x.dowel < y.dowel then x :: y :: t else if x.dowel = y.dowel then x :: t else y :: putDowel x t

/-- Dowel `k` changed. -/
def Dev.modDowel (d : Dev) (k : Nat) (f : DowelSt → DowelSt) : Dev :=
  { d with dowels := putDowel { f (d.dowel k) with dowel := k } d.dowels }

/-- The present level of a signal of the catalogue (R134). -/
def Dev.signal (d : Dev) : Signal → Bool
  | .low => false
  | .below i => if i < 64 then d.on (F.MON_WIN_BELOW i) else d.on (F.MON_HVM_RESULT_BELOW (i - 64))
  | .above i => if i < 64 then d.on (F.MON_WIN_ABOVE i) else d.on (F.MON_HVM_RESULT_ABOVE (i - 64))
  | .railGood r => d.rstate r == .good
  | .slotGood n => (d.slot n).state == .good
  | .ready k => d.ready k
  | .sticky s => d.sticky s
  | .seatA n => d.on (F.HSW_STATUS_SEATA n)
  | .seatB n => d.on (F.HSW_STATUS_SEATB n)
  | .strobeUs => decide (d.tim % us = 0)
  | .strobeMs => decide (d.tim % ms = 0)
  | .strobeS => decide (d.tim % sec = 0)
  | .dowel k => d.dowelOut k

/-- A Dowel's logic output: the bit of its table that its inputs select, the first input least significant. -/
def Dev.dowelLogic (d : Dev) (c : DowelCfg) : Bool :=
  c.table.testBit (maskOf 4 (fun i => ((c.inputs[i]?).map d.signal).getD false))

/-- A Dowel's preset: 24 bits (R134). -/
def dowelCount (c : DowelCfg) : Nat := c.preset % 2 ^ 24

/-- The window of a Dowel's timer in ticks (R134, R136). -/
def dowelWindow (c : DowelCfg) : Nat := dowelCount c * (match c.unit with | 0 => 1 | 1 => us | _ => ms)

/-- What a Dowel's output feeds at an edge (R135): its marker record, and on a rise its Clamp and its fault sources. -/
def Dev.dowelEdge (d : Dev) (c : DowelCfg) (v : Bool) : Dev :=
  let k := c.dowel
  let d := if c.marker then d.record 7 0 d.tim (le 2 k ++ [0, 0] ++ le 4 (d.get (F.FAB_DOWEL_OUT_OUT (k / 32)))) else d
  if !v then d
  else
    let d := if c.clamp then d.clampOwn 3 d.tim else d
    d.raiseAll ((d.cfg.faults.filter (fun e => e.used && decide (656 ≤ e.src ∧ e.src < 704) && e.dowel == k)).map (·.src))

/-- A Dowel's output set; an edge reaches what it feeds. -/
def Dev.dowelSet (d : Dev) (c : DowelCfg) (v : Bool) : Dev :=
  if d.dowelOut c.dowel == v then d
  else (d.setBit (F.FAB_DOWEL_OUT_OUT (c.dowel / 32)) (c.dowel % 32) v).dowelEdge c v

/-- A Dowel's timer has run its window (R136): what that does to its output. -/
def Dev.dowelDone (d : Dev) (c : DowelCfg) : Dev :=
  let d := d.modDowel c.dowel (fun y => { y with deadline := none })
  match c.mode with
  | .onDelay => d.dowelSet c true
  | .offDelay => d.dowelSet c false
  | .pulse => d.dowelSet c false
  | _ => d

/-- What a Dowel's logic output does to its timer and its output (R134, R136). -/
def Dev.dowelLevel (d : Dev) (c : DowelCfg) (v : Bool) (x : DowelSt) : Dev :=
  let rise := v && !x.logic
  let fall := !v && x.logic
  let run (d : Dev) : Dev := d.modDowel c.dowel (fun y => { y with deadline := some (d.loop + dowelWindow c) })
  let rest (d : Dev) : Dev := d.modDowel c.dowel (fun y => { y with deadline := none })
  match c.mode with
  | .none => d.dowelSet c v
  | .onDelay => if !v then (rest d).dowelSet c false else if rise then (run d).dowelSet c false else d
  | .offDelay => if v then (rest d).dowelSet c true else if fall then (run d).dowelSet c true else d
  | .pulse => if rise && (x.deadline.isNone || due x.deadline d.loop) then (run d).dowelSet c true else d
  | .edgeCount =>
    if rise then
      let d := d.modDowel c.dowel (fun y => { y with edges := y.edges + 1 })
      if dowelCount c ≤ x.edges + 1 then d.dowelSet c true else d
    else d

/-- A Dowel stepped with its logic output. A delay whose window ends in the tick in which the logic output turns back has run it whole: its
output follows the window in this tick and the logic output in the next (R136). -/
def Dev.dowelStep (d : Dev) (c : DowelCfg) (v : Bool) : Dev :=
  let x := d.dowel c.dowel
  let d := d.modDowel c.dowel (fun y => { y with logic := v })
  if due x.deadline d.loop && v != x.logic && (c.mode == .onDelay || c.mode == .offDelay) then d.dowelDone c
  else d.dowelLevel c v x

/-- Every Dowel stepped once, on the outputs as they stood before the tick (R134). -/
def Dev.dowelTick (d : Dev) : Dev :=
  if !d.ready 1 then d
  else
    let l := d.cfg.dowels.map (fun c => (c, d.dowelLogic c))
    Dev.each l (fun x d => d.dowelStep x.1 x.2) d

/-- The timer of Dowel `k` completes its window (R136). -/
def Dev.dowelExpiry (d : Dev) (k : Nat) : Dev :=
  match d.dowelCfg k with
  | none => d
  | some c => if due (d.dowel k).deadline d.loop then d.dowelDone c else d

end Sys2Proof.Machine
end

