-- ==== Sys2Proof/Machine/LoopBus.lean ====
section
/-! DEFINITION. Which block, clock and instance an address names; and a word written to a register of a LOOP block with the
behaviour its chapter gives it (R7 to R12, R115 to R117, R363, R504). -/

namespace Sys2Proof.Machine

/-! ### What an address names (R502, R504) -/

/-- The region of an address (R502). -/
def regionOf (a : Nat) : Nat := a / 0x10000

/-- The READY bit of the block in a region; none for GLB and RST. -/
def readyOf (k : Nat) : Option Nat := if k = 1 then some 0 else if 3 ≤ k ∧ k ≤ 28 then some (k - 2) else none

/-- Whether a region's registers live in LOOP: those of LNK sit in SYS (R25, spec/17_igkulink_hierarchy.md). -/
def loopRegion (k : Nat) : Bool := decide (4 ≤ k ∧ k ≤ 19 ∧ k ≠ 17)

/-- Whether an access waits for a clock that is stopped (R92, R96, R504, R505). -/
def Dev.hangs (d : Dev) (a : Nat) : Bool :=
  let k := regionOf a
  (loopRegion k && !d.loopClk) || (a == 0x160100 && !d.on F.CLK_PRESENT_HOST)
    || (k == 26 && !d.on F.CLK_PRESENT_PD) || (a == 0x154000 && !d.nvRuns 0) || (a == 0x154004 && !d.nvRuns 1)

/-- Whether the bitstream configures the instance that an address names; a register of another reads 0 and ignores writes (R504). -/
def Dev.configured (d : Dev) (a : Nat) : Bool :=
  let o := a % 0x8000
  match regionOf a with
  | 4 => d.hasBench (o / 0x100)
  | 5 => d.cfg.pins.any (fun x => x.pin == o / 0x10 && x.owner != .unassigned)
  | 6 => d.cfg.chans.any (fun x => x.chan == o / 0x10 && x.owner != .unassigned)
  | 7 => if o < 0x400 then (d.monCfg (o / 0x10)).isSome else (d.monCfg (64 + o % 0x20 / 4)).isSome
  | 8 => decide (o < 0x100) || d.cfg.rects.any (fun x => x.rect == (o - 0x100) / 0x10)
  | 9 => decide (o < 0x100) || d.hasBench ((o - 0x100) / 4)
  | 10 =>
    if o < 0x100 then true
    else if o < 0x200 then d.cfg.ledger.landings.any (fun l => l.group == (o - 0x100) / 0x10)
    else decide ((o - 0x200) / 8 < d.cfg.ledger.caps.length)
  | 11 => decide (0x100 ≤ o) || (d.strCfg (o / 0x40)).isSome
  | 12 => decide (o < 0x1000) || (d.railCfg ((o - 0x1000) / 4)).isSome
  | 13 => decide (0x400 ≤ o) || d.hasSlot (o / 0x40)
  | 15 => decide (0x100 ≤ o ∨ o < 0x20) || (d.thermCfg (o / 0x10)).isSome
  | 16 => d.isDuplex
  | 17 =>
    if 0x100 ≤ o then decide ((o - 0x100) / 4 < d.linkCfg.nodes)
    else decide (o < 0x40) || d.usedPorts.contains ((o - 0x40) / 8)
  | _ => true

/-- The enable, start and GO bits of a register (R117). DPX.CTRL has none: HANDOVER, TAKE and REJOIN act in states in which DPX is not READY
(R355). -/
def goMask (a : Nat) : Nat :=
  match regionOf a with
  | 1 => if a = 0x10008 then 3 else 0
  | 3 => if a = 0x30014 ∨ a = 0x30018 then 2 ^ 31 else 0
  | 4 => if a % 0x100 = 0 then 3 else 0
  | 8 => if a = 0x80000 then 3 else 0
  | 9 => if a = 0x90000 then 7 else 0
  | 10 => if a = 0xA0000 then 3 else 0
  | 12 => if a = 0xC0004 then 0xFFFFFFFF else 0
  | 13 => if a < 0xD0400 ∧ a % 0x40 = 0 then 1 else 0
  | 17 => if a = 0x110014 then 1 else 0
  | 19 => if a = 0x130000 then 0x0B else 0
  | 20 =>
    if a = 0x140000 then 3 else if a = 0x140018 ∨ a = 0x140028 then 2 ^ 31 else if a = 0x140020 ∨ a = 0x140024 then 1 else 0
  | 21 => if a = 0x150000 then 4 else 0
  | 22 => if a = 0x160000 then 0x80 else 0
  | 24 => if a = 0x180000 then 1 else if 0x180100 ≤ a ∧ a % 0x20 = 0xC then 3 else 0
  | 25 => if a % 0x100 = 0 then 0x1001 else if a % 0x100 = 8 then 2 ^ 31 else 0
  | 26 => if a = 0x1A0000 then 0xF else 0
  | 27 => if a = 0x1B0000 then 0x17 else 0
  | 28 => if a = 0x1C0020 then 2 ^ 31 else 0
  | _ => 0

/-- Whether a write of `w` to an address sets an enable, start or GO bit of a block that is not READY (R117). -/
def Dev.goBlocked (d : Dev) (a w : Nat) : Bool :=
  match readyOf (regionOf a) with
  | some k => !d.ready k && (w &&& goMask a) != 0
  | none => false

/-! ### Writes with behaviour, block by block -/

/-- BEN.n at an offset (R163, R167, R168, R172, R182, R194). A write of NLBAND reaches the feedback pair with the next update (R170). -/
def Dev.benBus (d : Dev) (n off w : Nat) : Dev :=
  match off with
  | 0x04 => d.vsetWrite n w
  | 0x08 => d.marginWrite n w
  | 0x0C => d.slewWrite n w
  | 0x10 => d.periodWrite n w
  | 0x18 => (d.benWrite n off w).showThrottle
  | 0x50 => d.phdropClear n w
  | 0x70 => d.ovuvWrite n off w
  | 0x7C => d.ovuvWrite n off w
  | _ => d.benWrite n off w

/-- MON: the window pair of an input that a Bench owns is written by the Bench alone, so another write leaves it as it stands (R170, R184,
R194). -/
def Dev.monBus (d : Dev) (a w : Nat) : Dev :=
  let d' := d.plainWrite a w
  let i := (a - 0x70000) / 0x10
  if a < 0x70400 && (d.benchOfInput i).isSome then d'.setWin i (d.get (F.MON_WIN_LO i)) (d.get (F.MON_WIN_HI i)) else d'

/-- BAT.s.CTRL (R300, R308, R311, R313). -/
def Dev.batBus (d : Dev) (a w : Nat) : Dev :=
  let s := (a - 0xB0000) / 0x40
  if a % 0x40 = 0 ∧ s < 4 then
    if (d.strCfg s).isNone then d else
    let d := d.plainWrite a (d.wordWith (F.BAT_CTRL_REST s) (d.get (F.BAT_CTRL_REST s)) % 2 + w / 4 % 4 * 4)
    let d := d.restRequest s (w.testBit 0)
    let d := if w.testBit 1 then d.newStringWrite s else d
    d.showPerm s
  else d.plainWrite a w

/-- SEQ (R257, R261, R269, R273). -/
def Dev.seqBus (d : Dev) (a w : Nat) : Dev :=
  if a = 0xC0004 then d.seqReq (w % 0x10000) (w / 0x10000)
  else if 0xC0104 ≤ a ∧ a < 0xC0180 ∧ a % 8 = 4 then d.seqMargin ((a - 0xC0104) / 8) w
  else if 0xC1000 ≤ a then
    let d := d.plainWrite a (clr w 0x40)
    if w.testBit 6 then d.failmarkClear ((a - 0xC1000) / 4) else d
  else d.plainWrite a w

/-- HSW.n.CTRL (R277, R278, R291). A slot that SEQ owns ignores EN, and any write of its CTRL leaves a NOTE for that. -/
def Dev.hswBus (d : Dev) (a w : Nat) : Dev :=
  if a < 0xD0400 ∧ a % 0x40 = 0 then
    let n := (a - 0xD0000) / 0x40
    let was := d.on (F.HSW_CTRL_EN n)
    let owned := d.seqOwned n
    let d := d.plainWrite a (if owned then clr w 5 + was.toNat else clr w 4)
    let d := if owned then d.note 2 a w (d.plainWord a) else d
    let w := if owned then clr w 1 + was.toNat else w
    let d := if w.testBit 0 && !was then d.slotEnable n else if !w.testBit 0 && was then d.slotDisable n else d
    if w.testBit 2 then d.unlock n else d
  else if a < 0xD0400 ∧ a % 0x40 = 0x18 then (d.plainWrite a w).tripOver ((a - 0xD0000) / 0x40)
  else d.plainWrite a w

/-- PRO (R329 to R334, R338). -/
def Dev.proBus (d : Dev) (a w : Nat) : Dev :=
  if 0xE0100 ≤ a ∧ a < 0xE0160 then d.stickyClear ((a - 0xE0100) / 4) w
  else if 0xE0200 ≤ a ∧ a < 0xE0260 then d.ackWrite ((a - 0xE0200) / 4) w
  else if a = 0xE0010 then d.fwRaise false w
  else if a = 0xE0014 then d.fwRaise true w
  else d.plainWrite a w

/-- THM.n.LIM1 and LIM2 (R342). -/
def Dev.thmBus (d : Dev) (a w : Nat) : Dev :=
  if a < 0xF0060 ∧ a % 0x10 = 4 then d.thmLimWrite ((a - 0xF0000) / 0x10) 0 w
  else if a < 0xF0060 ∧ a % 0x10 = 8 then d.thmLimWrite ((a - 0xF0000) / 0x10) 1 w
  else d.plainWrite a w

/-- DPX.CTRL (R355, R370). -/
def Dev.dpxBus (d : Dev) (w : Nat) : Dev :=
  let d := if w.testBit 0 then d.handover else d
  let d := if w.testBit 1 then d.dpxTake else d
  if w.testBit 2 then d.dpxRejoin else d

/-- SNP.CTRL: a write that leaves KEEP 0 ends HELD where EVR has copied the set (R401, R404, R405). -/
def Dev.snpBus (d : Dev) (w : Nat) : Dev :=
  let d := d.plainWrite 0x130000 (clr w 3)
  let d := if d.snap.copied && !d.on F.SNP_CTRL_KEEP then d.setB F.SNP_STATUS_HELD false else d
  let d := if w.testBit 1 then d.snpRearm else d
  if w.testBit 0 then d.snpFire else d

/-- A word written to a register of a LOOP block. -/
def Dev.loopWrite (d : Dev) (a w : Nat) : Dev :=
  if (rowAt a).isNone || !d.configured a then d
  else if d.goBlocked a w then d.goIgnored a w (goMask a)
  else
    match regionOf a with
    | 4 => d.benBus ((a - 0x40000) / 0x100) (a % 0x100) w
    | 7 => d.monBus a w
    | 8 => if a = 0x80004 then d.shrVbusWrite w else d.plainWrite a w
    | 9 => if a = 0x90030 then d.capForce w else d.plainWrite a w
    | 11 => d.batBus a w
    | 12 => d.seqBus a w
    | 13 => d.hswBus a w
    | 14 => d.proBus a w
    | 15 => d.thmBus a w
    | 16 => if a = 0x100000 then d.dpxBus w else d.plainWrite a w
    | 17 => if a = 0x110014 then d.tunnelGo w else d.plainWrite a w
    | 19 => if a = 0x130000 then d.snpBus w else d.plainWrite a w
    | _ => d.plainWrite a w

/-- Whether the device is in STANDBY, SYNC or SPLIT (R363). -/
def Dev.standsBy (d : Dev) : Bool :=
  d.isDuplex && (d.dpxState == dpxStandby || d.dpxState == dpxSync || d.dpxState == dpxSplit)

/-- Whether a SYS write acts on each device of a pair for itself: DPX's registers (log entry 30), and PRO.k.ACK on one that stands by (R363). -/
def Dev.ownWrite (d : Dev) (a : Nat) : Bool :=
  !d.isDuplex || regionOf a == 16 || (d.standsBy && decide (0xE0200 ≤ a ∧ a < 0xE0260))

/-- A SYS write into LOOP: on a duplex device that stands by it is ignored, counted and noted, but for DPX and PRO.k.ACK (R363); on another
duplex device it waits for its use tick (R359). -/
def Dev.sysLoopWrite (d : Dev) (a w : Nat) : Dev :=
  if d.ownWrite a then d.loopWrite a w
  else if d.standsBy then (d.inc F.DPX_COUNTS_REFUSED).note 2 a w (d.plainWord a)
  else d.pairPut (.write a w)

end Sys2Proof.Machine
end

