-- ==== Sys2Proof/Machine/Service.lean ====
section
/-! DEFINITION. The Type-C service port: attach, contracts, role swaps, the fast role swap, error recovery, and the USB function's
readiness (spec/21_service_port.md). -/

namespace Sys2Proof.Machine

/-- The port states of CPD.STATUS.STATE. -/
def ccNone : Nat := 0

/-- ATTACHED_SNK. -/
def ccSink : Nat := 1

/-- ATTACHED_SRC. -/
def ccSource : Nat := 2

/-- PR_SWAP. -/
def ccPrSwap : Nat := 3

/-- FR_SWAP. -/
def ccFrSwap : Nat := 4

/-- ERROR_RECOVERY. -/
def ccError : Nat := 6

/-- PD messages and signals that the device sends, numbered by the model (log entry 32). -/
def pdSourceCaps : Nat := 1
def pdSinkCaps : Nat := 2
def pdRequest : Nat := 5
def pdAccept : Nat := 6
def pdReject : Nat := 7
def pdPsRdy : Nat := 9
def pdDrSwap : Nat := 12
def pdHardReset : Nat := 14
def pdNotSupported : Nat := 15
def pdFrsSignal : Nat := 16

/-- What CPD holds, changed. -/
def Dev.modCpd (d : Dev) (f : Cpd → Cpd) : Dev := { d with cpd := f d.cpd }

/-- The port's state. -/
def Dev.ccState (d : Dev) : Nat := d.get F.CPD_STATUS_STATE

/-- A message sent on the active CC line. -/
def Dev.pdSend (d : Dev) (msg : Nat) (bytes : List Nat) : Dev := { d with out := d.out ++ [.pd msg bytes] }

/-- The Rp condition of R469: SRCEN, a feed good, VHK at 4.85 V or above. -/
def Dev.rpReady (d : Dev) : Bool := d.on F.CPD_CTRL_SRCEN && (d.sup.a || d.sup.b) && !d.sup.vhkLow

/-- USBEN, which reads 1 in service mode (R478). -/
def Dev.usbEn (d : Dev) : Bool := d.service || d.on F.CPD_CTRL_USBEN

/-- Whether the D+ pull-up is connected (R476); a warm reset releases it (R105). -/
def Dev.usbOn (d : Dev) : Bool := d.ready 0 && d.usbEn && d.on F.CPD_STATUS_UFP && !d.rst.sys

/-- FRSARM and USBCFG brought up to what they stand on (R474, R476). -/
def Dev.showCpd (d : Dev) : Dev :=
  let arm := d.ccState == ccSource && d.on F.CPD_CTRL_FRSEN && d.cpd.frsCurrent != 0
  let d := d.setB F.CPD_STATUS_FRSARM arm
  if d.usbOn then d else (d.setB F.CPD_STATUS_USBCFG false).modCpd (fun c => { c with reply := none })

/-- The contract void, and whatever was being negotiated with it. -/
def Dev.ccVoid (d : Dev) : Dev :=
  (d.modCpd (fun c => { c with want := none, changing := false, drOpen := false, first := false })).setB
    F.CPD_STATUS_CONTRACT false |>.set F.CPD_CONTRACT_VOLT 0 |>.set F.CPD_CONTRACT_CURR 0

/-- The draw limit from VBUS_S in milliamperes (R67, R470): nothing while a feed is good or the device sources VBUS_S, else 450 mA, with an
explicit contract the contracted current. -/
def Dev.vbusDraw (d : Dev) : Nat :=
  if d.sup.a || d.sup.b || !d.sup.s || d.on F.CPD_STATUS_VBUSSRC then 0
  else if d.on F.CPD_STATUS_CONTRACT then 10 * d.get F.CPD_CONTRACT_CURR
  else 450

/-- The device's one source object: 5 V at 1.5 A (R468, R472). -/
def srcObject : List Nat := le 2 2500 ++ le 2 150

/-- The port in a power and data role: as source it applies vSafe5V and offers its object (R472). -/
def Dev.ccRole (d : Dev) (src ufp : Bool) : Dev :=
  let d := (d.ccVoid.modCpd (fun c => { c with source := src })).set F.CPD_STATUS_STATE (if src then ccSource else ccSink)
  let d := d.setB F.CPD_STATUS_UFP ufp |>.setB F.CPD_STATUS_VBUSSRC src
  (if src then d.pdSend pdSourceCaps srcObject else d).showCpd

/-- No partner: no role, no contract, no source drive. -/
def Dev.ccLeave (d : Dev) (st : Nat) : Dev :=
  let d := (d.ccVoid.modCpd (fun c => { c with source := false, attachSrc := false, frsCurrent := 0 })).set F.CPD_STATUS_STATE st
  (d.setB F.CPD_STATUS_UFP false |>.setB F.CPD_STATUS_VBUSSRC false |>.set F.CPD_STATUS_RPADV 0).showCpd

/-- A partner attaches; the role follows the termination presented (R469). `rp` is the partner's Rp as RPADV codes it, `cc2` the line.
The partner of a port whose CPD is not READY sees the dead-battery Rd alone. -/
def Dev.ccAttach (d : Dev) (rp : Nat) (cc2 : Bool) : Dev :=
  if !d.ready 24 || d.ccState ≠ ccNone then d
  else
    let src := d.rpReady
    let d := (d.inc F.CPD_COUNTS_ATTACH).setB F.CPD_STATUS_ORIENT cc2
    let d := d.set F.CPD_STATUS_RPADV (if src then 0 else rp)
    (d.modCpd (fun c => { c with attachSrc := src })).ccRole src (!src)

/-- Whether a contract voltage change, a PR_Swap or an FR_Swap is under way (R479). -/
def Dev.ccMoving (d : Dev) : Bool := d.cpd.changing || d.ccState == ccPrSwap || d.ccState == ccFrSwap

/-- The partner detaches (R479). In error recovery nothing is attached. -/
def Dev.ccDetach (d : Dev) : Dev :=
  if d.ccState = ccNone ∨ d.ccState = ccError then d
  else
    let d := if d.ccMoving then d.inc F.CPD_COUNTS_DETACHMID else d
    d.ccLeave ccNone

/-- The object that R471 requests of a list of Fixed objects (V16, 10 mA): the object, its current to 3 A, and a mismatch. Of several
that qualify, the lowest voltage; equal voltages, the first. -/
def Dev.choosePdo (d : Dev) (objs : List (Nat × Nat)) : Option (Nat × Nat × Bool) :=
  let vmax := d.effN F.CPD_SINKCFG_VMAX
  let pmin := d.get F.CPD_SINKCFG_PMIN
  let ok := objs.filter (fun o => decide (o.1 ≤ vmax ∧ 5000 * pmin ≤ o.1 * o.2))
  let best : Option (Nat × Nat) := ok.foldl (fun b o => match b with
    | some x => if o.1 < x.1 then some o else some x
    | none => some o) none
  match best with
  | some o => some (o.1, min o.2 300, false)
  | none => (objs.find? (fun o => o.1 == 2500)).map (fun o => (o.1, min o.2 300, true))

/-- A Source_Capabilities message: the device as sink requests one object (R471). -/
def Dev.sourceCaps (d : Dev) (objs : List (Nat × Nat)) : Dev :=
  if d.ccState ≠ ccSink then d
  else match d.choosePdo objs with
    | none => d
    | some (v, i, mis) =>
      (d.modCpd (fun c => { c with want := some (v, i), changing := false })).pdSend pdRequest (le 2 v ++ le 2 i ++ [mis.toNat])

/-- A Request at the source: within its one object it is accepted, and after the first contract DR_Swap goes out; another is rejected
(R472). `i` is the current asked for in 10 mA. -/
def Dev.pdRequest (d : Dev) (pos i : Nat) : Dev :=
  if d.ccState ≠ ccSource then d
  else if pos ≠ 1 ∨ 150 < i then d.pdSend pdReject []
  else
    let d := (d.pdSend pdAccept []).pdSend pdPsRdy []
    let d := d.setB F.CPD_STATUS_CONTRACT true |>.set F.CPD_CONTRACT_VOLT 2500 |>.set F.CPD_CONTRACT_CURR i
    if d.cpd.first || d.on F.CPD_STATUS_UFP then d
    else (d.modCpd (fun c => { c with first := true, drOpen := true })).pdSend pdDrSwap []

/-- Get_Source_Cap or Get_Sink_Cap answered (R471): 5 V at 0.9 A, and VMAX at PMIN / VMAX where VMAX is above 5 V. -/
def Dev.getCap (d : Dev) (sink : Bool) : Dev :=
  if d.ccState = ccNone ∨ d.ccState = ccError then d
  else if sink then
    let vmax := d.effN F.CPD_SINKCFG_VMAX
    let more := if 2500 < vmax then le 2 vmax ++ le 2 (d.get F.CPD_SINKCFG_PMIN * 5000 / vmax) else []
    d.pdSend pdSinkCaps (le 2 2500 ++ le 2 90 ++ more)
  else d.pdSend pdSourceCaps srcObject

/-- A PR_Swap: accepted, but rejected where it asks the device to source without the Rp condition (R479). -/
def Dev.prSwap (d : Dev) : Dev :=
  if d.ccState = ccSource then
    let d := (d.pdSend pdAccept []).setB F.CPD_STATUS_VBUSSRC false
    ((d.set F.CPD_STATUS_STATE ccPrSwap).pdSend pdPsRdy []).showCpd
  else if d.ccState = ccSink then
    if d.rpReady then ((d.pdSend pdAccept []).set F.CPD_STATUS_STATE ccPrSwap).showCpd else d.pdSend pdReject []
  else d

/-- A DR_Swap: to UFP accepted; one that would make the device DFP is rejected (R468). -/
def Dev.drSwap (d : Dev) : Dev :=
  if d.ccState ≠ ccSource ∧ d.ccState ≠ ccSink then d
  else if d.on F.CPD_STATUS_UFP then d.pdSend pdReject []
  else ((d.pdSend pdAccept []).setB F.CPD_STATUS_UFP true).showCpd

/-- A VDM or another message outside R468. -/
def Dev.pdUnsupported (d : Dev) : Dev := if d.ccState = ccNone ∨ d.ccState = ccError then d else d.pdSend pdNotSupported []

/-- What a hard reset leaves: the at-attach roles, but Rd and sink where the Rp condition does not hold (R479). -/
def Dev.hardReset (d : Dev) : Dev :=
  if d.ccState = ccNone ∨ d.ccState = ccError then d
  else
    let d := d.inc F.CPD_COUNTS_HARDRESET
    let src := d.cpd.attachSrc && d.rpReady
    d.ccRole src (!src)

/-- A write of CPD.CTRL.HARDRST: Hard_Reset is sent. -/
def Dev.sendHardReset (d : Dev) : Dev :=
  if d.ccState = ccNone ∨ d.ccState = ccError then d else (d.pdSend pdHardReset []).hardReset

/-- Error recovery: the source drive goes off, and both CC lines are open for 25 ms (R473). -/
def Dev.ccRecover (d : Dev) : Dev := (d.ccLeave ccError).modCpd (fun c => { c with openEnd := some (d.now + 25 * ms) })

/-- The partner's PS_RDY ends a PR_Swap: the device takes the other power role. It sources only while VHK is at 4.85 V or above (R68); as
a source it could not be, it goes to error recovery, as R473 has it for a source whose VHK falls. -/
def Dev.prSwapEnd (d : Dev) : Dev :=
  if d.cpd.source then d.ccRole false (d.on F.CPD_STATUS_UFP)
  else if d.rpReady then (d.ccRole true (d.on F.CPD_STATUS_UFP)).pdSend pdPsRdy []
  else d.ccRecover

/-- A message of the partner that answers one of ours, or completes a swap or a contract (R472, R474, R475). -/
def Dev.pdReply (d : Dev) : PdReply → Dev
  | .accept =>
    if d.cpd.drOpen then ((d.modCpd (fun c => { c with drOpen := false })).setB F.CPD_STATUS_UFP true).showCpd
    else if d.ccState = ccSink ∧ d.cpd.want.isSome then d.modCpd (fun c => { c with changing := true }) else d
  | .reject =>
    if d.cpd.drOpen then d.modCpd (fun c => { c with drOpen := false })
    else if d.ccState = ccSink then d.modCpd (fun c => { c with want := none, changing := false }) else d
  | .wait => d
  | .psRdy =>
    if d.ccState = ccPrSwap then d.prSwapEnd
    else if d.ccState = ccFrSwap then d.ccRole false (d.on F.CPD_STATUS_UFP)
    else match d.cpd.want with
      | some (v, i) =>
        if d.cpd.changing then
          (d.modCpd (fun c => { c with want := none, changing := false })).setB F.CPD_STATUS_CONTRACT true
            |>.set F.CPD_CONTRACT_VOLT v |>.set F.CPD_CONTRACT_CURR i
        else d
      | none => d
  | .sinkCaps n => (d.modCpd (fun c => { c with frsCurrent := n })).showCpd

/-- A Soft_Reset: accepted, and what was being negotiated is dropped; as source the device offers its object again. -/
def Dev.softReset (d : Dev) : Dev :=
  if d.ccState = ccNone ∨ d.ccState = ccError then d
  else
    let d := (d.modCpd (fun c => { c with want := none, changing := false, drOpen := false })).pdSend pdAccept []
    if d.ccState = ccSource then d.pdSend pdSourceCaps srcObject else d

/-- Both feeds below VTRIG, or VHK below 4.85 V (R475). With the swap not armed the source drive goes off and the port is UNATTACHED
(R479). -/
def Dev.frSwap (d : Dev) (vhk : Bool) : Dev :=
  let d := if vhk then { d with sup := { d.sup with vhkLow := true } } else d
  if d.ccState ≠ ccSource then d
  else if d.on F.CPD_STATUS_FRSARM then
    let d := (d.setB F.CPD_STATUS_VBUSSRC false).pdSend pdFrsSignal []
    let d := (d.ccVoid.set F.CPD_STATUS_STATE ccFrSwap).inc F.CPD_COUNTS_FRS
    d.showCpd.flushNow
  else d.ccLeave ccNone

/-- Source current above 1.75 A for 1 ms, or VHK below 4.85 V with no swap armed: error recovery (R473). -/
def Dev.overcurrent (d : Dev) (vhk : Bool) : Dev :=
  let d := if vhk then { d with sup := { d.sup with vhkLow := true } } else d
  if d.ccState ≠ ccSource ∨ (vhk ∧ d.on F.CPD_STATUS_FRSARM) then d
  else d.ccRecover

/-- CC1 and CC2 have been open for 25 ms: the terminations are presented again (R473). -/
def Dev.recoveryEnd (d : Dev) : Dev :=
  if d.ccState = ccError ∧ due d.cpd.openEnd d.now then
    (d.modCpd (fun c => { c with openEnd := none })).set F.CPD_STATUS_STATE ccNone
  else d

/-- RST.BLOCK of CPD: source drive off at once, Rd presented, contract void (R107, R479). -/
def Dev.blockCpd (d : Dev) : Dev :=
  ((d.ccLeave ccNone).modCpd (fun c => { c with openEnd := none })).readyDrop [24]

/-- The USB host configures the service function. -/
def Dev.usbConfigured (d : Dev) : Dev := if d.usbOn then d.setB F.CPD_STATUS_USBCFG true else d

/-- A write of CPD.CTRL (R12, R117, R478): in service mode USBEN cannot be changed. -/
def Dev.cpdCtrl (d : Dev) (w : Nat) : Dev :=
  let a := 0x1A0000
  let w := if d.service then clr w 1 + d.get F.CPD_CTRL_USBEN else w
  let go := if d.service then clr (goMask a) 1 else goMask a
  let hard := w.testBit 3
  if d.goBlocked a (w &&& go) then d.goIgnored a w go
  else
    let d := (d.plainWrite a (clr w 8)).showCpd
    if hard then d.sendHardReset else d

end Sys2Proof.Machine
end

