-- ==== Sys2Proof/Machine/Reset.lean ====
section
/-! DEFINITION. Supplies, clocks, the watchdog, and what a cold and a warm reset leave (spec/04_clocks_crossings.md,
spec/05_startup_reset.md). -/

namespace Sys2Proof.Machine

/-! ### What a reset keeps (R105, R121) -/

/-- The register file with every field reset but those whose keys are kept. -/
def regsReset (keep : Nat → Bool) (regs : List (Nat × Nat)) : List (Nat × Nat) :=
  (regs.filter (fun x => keep x.1)).foldl (fun m x => RegFile.write x.1 x.2 m) (resetRegs.filter (fun x => !keep x.1))

/-- The keys that a cold reset keeps: RST but for RST.WDT, and the live bits of CLK (R105). -/
def keepCold (key : Nat) : Bool :=
  let a := key / 8
  decide (0x20000 ≤ a ∧ a < 0x30000 ∧ ¬ (0x2000C ≤ a ∧ a < 0x20010)) || decide (0x10000 ≤ a ∧ a < 0x10004)
    || decide (8 * 0x1000C ≤ key ∧ key < 8 * 0x1000C + 4)

/-- The keys that a warm reset keeps: all but the SYS blocks, CLK.LOST, CLK.XSUM, FAB.PLOAD, FAB.SWAP and FAB.STATUS.PBUSY; of GLB the
identity and the READY bits, of WIN the ownership, of HST the HOST side (R105, R441), of EVR the count of clears that failed since the last
cold reset (R420). -/
def keepWarm (key : Nat) : Bool :=
  let a := key / 8
  match regionOf a with
  | 0 => decide (a < 8)
  | 1 => !(decide (0x10004 ≤ a ∧ a < 0x10008) || decide (0x10010 ≤ a ∧ a < 0x10014))
  | 3 => !(decide (0x30014 ≤ a ∧ a < 0x3001C) || key == 8 * 0x30000 + 2)
  | 20 => decide (8 * 0x140020 + 8 ≤ key ∧ key < 8 * 0x140020 + 12)
  | 22 => decide (0x160100 ≤ a)
  | 23 => decide (a < 0x170010) || decide (8 * 0x17001C + 8 ≤ key)
  | 24 => false
  | 25 => false
  | 27 => false
  | 28 => false
  | _ => true

/-- The parts of the device that no reset touches: time, the vault, what the storage ports hold, the levels of the pins, and the
counters of free values and of what has been given out. -/
def Dev.bare (d : Dev) : Dev :=
  { Dev.reset with
    now := d.now, loop := d.loop, free := d.free, out := d.out, killLow := d.killLow, lines := d.lines
    vault := { bytes := d.vault.bytes }
    evr := { stored := d.evr.stored, retired := d.evr.retired, cleared := d.evr.cleared }
    upd := { slots := d.upd.slots, copies := d.upd.copies } }

/-- The device with no supply: power-on reset (R62, R105). -/
def Dev.powerOn (d : Dev) : Dev := if d.sup.a || d.sup.b || d.sup.s then d else d.bare

/-- A cold reset: every block on both dies but the SAFE supervisor, RST, the vault, whose writes go on, and the fuses; the Drawer is zeroed (R105, R441).
SAFE goes back to its fixed values, and every restart window begins anew, so that a shutdown's cause stands through it (R346, R351). `stop` is
the end of a hold that runs by time. -/
def Dev.coldReset (d : Dev) (stop : Option Nat) : Dev :=
  ({ d.bare with
    regs := regsReset keepCold d.regs
    vault := { bytes := d.vault.bytes, queue := d.vault.queue }
    sup := d.sup, safeThm := { asserted := d.safeThm.asserted, run := d.safeThm.run }, safeLine := d.safeThm.asserted
    sensors := d.sensors.map (fun x => { shut := x.shut, byFix := x.byFix })
    mem := Memory.forget drawerBase (drawerBase + 0x40000) d.mem
    rst := { cold := true, coldEnd := stop, porst := d.rst.porst } } : Dev)
  |>.setB F.THM_STATUS_SAFELINE d.safeThm.asserted |>.set F.THM_STATUS_SHUTACT (d.get F.THM_STATUS_SHUTACT)

/-! ### The warm reset -/

/-- The page being written put back into the record area, its records marked REWRITTEN (R121, R415). -/
def Dev.restage (d : Dev) : Dev :=
  d.modEvr (fun e => { e with
    staged := e.page.map (fun r => { r with flags := r.flags ||| 8 }) ++ e.staged, page := [], pageBusy := false, pageNow := false
    scanned := false, reading := false, nonce := [], nonceEnd := none, clearing := false })

/-- Shadow planes that a partial load was writing lose their validity (R149). -/
def Dev.stopPartial (d : Dev) : Dev :=
  let m := d.loading
  let d := Dev.each (List.range 16) (fun n d => if m.testBit n then d.setB (F.FAB_PLANE_SHADOW_VALID n) false else d) d
  { d with loading := 0 }

/-- A write that hung carried out, in a block outside SYS (R92, R93). -/
def Dev.hungWrite (d : Dev) (h : Hung) : Dev :=
  if loopRegion (regionOf h.addr) then d.sysLoopWrite h.addr h.word
  else if h.addr = 0x1A0000 then d.cpdCtrl h.word
  else if regionOf h.addr = 21 then d.note 2 h.addr h.word 0
  else d.plainWrite h.addr h.word

/-- A write that hung, at the reset: carried out, or not at all; a free value tells which (R93). -/
def Dev.hungOne (d : Dev) (h : Hung) : Dev :=
  let go := Config.hungWrite d.free
  let d : Dev := { d with free := d.free + 1 }
  if go then d.hungWrite h else d

/-- The register write of another domain that a port waits for. -/
def Dev.portHung (d : Dev) (m : Master) (p : ReqPort) : Option Hung :=
  match p.pend with
  | some r =>
    let k := regionOf r.addr
    if r.cmd == 0x12 && (d.hangs r.addr || loopRegion k || k == 26) then some ⟨m, r.addr, r.word⟩ else none
  | none => none

/-- Whether the host waits for a WRWIN whose bytes are not in the Drawer yet (R451). -/
def Dev.burstOpen (d : Dev) : Bool := (d.hst.pend.map (fun r => r.cmd == 0x22)).getD false

/-- Every write that hung, at the reset: that of the core, of the ports and of the DMA channels (R92 to R95). -/
def Dev.hungEnd (d : Dev) : Dev :=
  let l := d.hung.toList ++ (d.portHung .host d.hst).toList ++ (d.portHung .usb d.usb).toList ++ (d.portHung .twt d.tgt).toList
    ++ d.dmaHeld.map (·.2)
  Dev.each l (fun h d => d.hungOne h) { d with hung := none, dmaHeld := [] }

/-- The pages that the device owned are FREE (R441). -/
def Dev.freePages (d : Dev) : Dev :=
  Dev.each (List.range 64) (fun p d => if d.own p = ownDev then d.setOwn p ownFree else d) d

/-- Every two-wire bus released and cleared (R453, R467). What SDA reads then no command brings; every bus is taken as free: the model's
choice (log entry 53). -/
def Dev.busesReset (d : Dev) : Dev := Dev.each (List.range 4) (fun x d => d.busReset x .high) d

/-- UPD at a warm reset: the container being received restarts from block 0, the drain of a handover stops (R495, R499). -/
def Upd.warm (u : Upd) : Upd :=
  { u with rx := u.rx.map (fun r => { r with blocks := 0, whole := none }), drainEnd := none }

/-- The keys that a boot from the start keeps: all but the registers of the blocks that the bitstream builds, and of those the ones that
do not come from it: PRO's, THM's and TIM's. -/
def keepBoot (key : Nat) : Bool :=
  let k := regionOf (key / 8)
  !(decide (4 ≤ k ∧ k ≤ 13) || k == 16 || k == 17 || k == 19)

/-- The fabric cleared: configuration memory and everything it built are as at a cold reset, every gate sunk, and the boot ROM starts the
whole boot again (R114, R139). -/
def Dev.clearFabric (d : Dev) : Dev :=
  let z := Dev.reset
  let d := d.readyDrop [1]
  let d : Dev := { d with
    regs := regsReset keepBoot d.regs, cfg := {}, cfgMem := [], rails := [], dowels := [], benches := z.benches, chans := z.chans, mons := z.mons
    groups := z.groups, lastRep := z.lastRep, slots := z.slots, rects := z.rects, cap := {}, eng := {}, strs := z.strs, dpx := {}
    link := {}, snap := {} }
  d.setB F.FAB_STATUS_LOADED false |>.setB F.FAB_STATUS_LOCKED false |>.setB F.FAB_STATUS_SCRUBBING false

/-- The SYS domain reset (R105, R121). The SYS ends of the FIFOs to the links, the storage ports and the host resynchronise (R97, R399). A warm reset before the firmware runs, or without a fabric, is a cold boot (R114). `stop` is the
end of a hold that runs by time; without one the hold ends when the SYS PLL has relocked. -/
def Dev.sysReset (d : Dev) (stop : Option Nat) : Dev :=
  if d.rst.cold then d
  else
    let again := d.rst.rom || !d.ready 1
    let burst := d.burstOpen
    let d := (d.hungEnd).stopPartial
    let d := d.restage
    let d : Dev := { d with
      regs := regsReset keepWarm d.regs, wbuf := [], zeroing := [], fwCross := (List.range 64).foldl (fun v j => v.setIfInBounds j {}) d.fwCross
      hst := {}, tgt := {}, usb := {}, target := {}, upd := d.upd.warm
      rst := { d.rst with
        sys := true, sysEnd := stop, rom := true, tries := 0, fwOk := false, hostEnd := none, wdtEnd := none, wdtLeft := none
        halted := false, stopped := false } }
    let d := (Dev.each [0, 1, 2, 4, 5] (fun f d => d.fifoResync f) d).fifoReset 6
    let d := ((d.freePages).stick F.HST_HSTICKY_RESET 1).when burst (fun d => d.stick F.HST_HSTICKY_WDROP 1)
    let d := d.setB F.CPD_STATUS_USBCFG false
    let d := ({ d with link := { d.link with tunEnd := none } } : Dev).setB F.LNK_TUN_CTRL_GO false |>.set F.LNK_TUN_CTRL_STATUS 0
    let d := (d.readyDrop [26, 22, 21, 23]).busesReset
    if again then d.clearFabric else d

/-! ### Reset sources (R105, R108) -/

/-- PORST_N low (R105). -/
def Dev.porstLow (d : Dev) : Dev :=
  let d := d.stick F.RST_CAUSE_PORST 1
  let d := d.coldReset none
  { d with rst := { d.rst with porst := true } }

/-- RST.CTRL: a keyed write with COLD raises a cold reset, one with WARM alone a warm reset; a wrong key is ignored (R105). -/
def Dev.rstCtrl (d : Dev) (w : Nat) : Dev :=
  if w / 0x10000 ≠ 0x5E7B then d
  else if w.testBit 1 then (d.stick F.RST_CAUSE_SWCOLD 1).coldReset (some (d.now + ms))
  else if w.testBit 0 then (d.stick F.RST_CAUSE_SWWARM 1).sysReset (some (d.now + 10 * us))
  else d

/-- The watchdog started or serviced: its period runs from now (R108). -/
def Dev.wdtStart (d : Dev) : Dev :=
  { d with rst := { d.rst with wdtEnd := some (d.now + d.get F.RST_WDT_PERIOD * ms), wdtLeft := none } }

/-- A write of RST.WDT_SVC: the key services the watchdog, any other value counts as an expiry (R108). -/
def Dev.wdtService (d : Dev) (w : Nat) : Dev :=
  if w % 0x10000 = 0x6C3A then
    if d.rst.wdtLeft.isSome then { d with rst := { d.rst with wdtLeft := some (d.get F.RST_WDT_PERIOD * ms) } } else d.wdtStart
  else (d.stick F.RST_CAUSE_WDKEY 1).sysReset (some (d.now + 10 * us))

/-- The watchdog's period runs out unserviced (R108). While the boot ROM runs it services the watchdog itself, also where a debugger
without DBG_FREEZE or an ECC error has stopped the core meanwhile: the model's choice (log entry 52). -/
def Dev.wdtExpiry (d : Dev) : Dev :=
  if d.rst.cold || d.rst.sys || d.rst.rom || !due d.rst.wdtEnd d.now then d
  else (d.stick F.RST_CAUSE_WDT 1).sysReset (some (d.now + 10 * us))

/-- The watchdog's count paused while the core is halted and DBG_FREEZE is 1, and running on when either ends (R109). -/
def Dev.wdtFreeze (d : Dev) : Dev :=
  let r := d.rst
  if r.halted && d.on F.RST_WDT_DBG_FREEZE then
    match r.wdtEnd with
    | some e => { d with rst := { r with wdtLeft := some (e - d.now), wdtEnd := none } }
    | none => d
  else
    match r.wdtLeft with
    | some n => { d with rst := { r with wdtLeft := none, wdtEnd := some (d.now + n) } }
    | none => d

/-- The JTAG debugger halts the core or lets it go: with DBG_FREEZE the watchdog's count stands still (R109). -/
def Dev.coreHalt (d : Dev) (halt : Bool) : Dev := ({ d with rst := { d.rst with halted := halt } } : Dev).wdtFreeze

/-- An uncorrectable error in core memory: COREECC, and the core stops, so that the watchdog runs out (R30, R328). -/
def Dev.coreMemEcc (d : Dev) : Dev := ({ d with rst := { d.rst with stopped := true } } : Dev).raise coreEcc

/-! ### Supplies (R61, R62, R67) -/

/-- CPD.STATUS.SVCPWR brought up to date. -/
def Dev.showSupply (d : Dev) : Dev := d.setB F.CPD_STATUS_SVCPWR d.svcPower

/-- A feed rises through its feed-good threshold (R61). The other feed, lost while neither held, is then lost while this one holds (R317). `vhk` says whether VHK stands at 4.85 V or above by then (R65, R68); a feed that
is good already may be reported again when VHK has come back, which no row of the table tells by itself (log entry 57). -/
def Dev.feedGood (d : Dev) (b vhk : Bool) : Dev :=
  let fresh := if b then !d.sup.b else !d.sup.a
  let d := ({ d with
    sup := if b then { d.sup with b := true, lostB := false, vhkLow := !vhk }
      else { d.sup with a := true, lostA := false, vhkLow := !vhk } } : Dev).showSupply
  if !fresh then d else if b then (if d.sup.lostA then d.raise 617 else d) else if d.sup.lostB then d.raise 618 else d

/-- A feed falls through its feed-lost threshold: a fault where the other feed holds (R61). Without a good feed HST is not READY (R115,
R119), and without VBUS_S too the device is in power-on reset (R62). -/
def Dev.feedLost (d : Dev) (b : Bool) : Dev :=
  let d : Dev := { d with
    sup := if b then { d.sup with b := false, lostB := d.sup.b || d.sup.lostB } else { d.sup with a := false, lostA := d.sup.a || d.sup.lostA } }
  let d := d.showSupply
  if !(d.sup.a || d.sup.b) then (if d.sup.s then d.readyDrop [20] else d.powerOn)
  else if b then d.raise 618 else d.raise 617

/-- VBUS_S rises or falls (R67). With the last supply gone the device is in power-on reset (R62). -/
def Dev.vbusS (d : Dev) (on : Bool) : Dev := (({ d with sup := { d.sup with s := on } } : Dev).showSupply).powerOn

/-! ### Clocks (R24, R86, R87, R106) -/

/-- The PRESENT bit of clock `k`, as CLK.PRESENT numbers them. -/
def presentFld (k : Nat) : Fld := ⟨0x10000, k, 1⟩

/-- A presence bit as its detector finds it; a fall is recorded in CLK.LOST (R87). -/
def Dev.setPresent (d : Dev) (k : Nat) (v : Bool) : Dev :=
  let fell := d.on (presentFld k) && !v
  let d := d.setB (presentFld k) v
  if fell then d.stick F.CLK_LOST_LOST (2 ^ k) else d

/-- The LOOP blocks' READY bits. -/
def loopReady : List Nat := [2, 3, 4, 5, 6, 7, 8, 9, 10, 11, 12, 13, 14, 15, 16, 17]

/-- The LOOP clock found stopped: HALT by the power-side die, every gate sunk (R24, R106). -/
def Dev.loopStop (d : Dev) : Dev :=
  if !d.on F.CLK_PRESENT_LOOP then d
  else
    let d := d.setPresent 0 false
    let d := ({ d with asyncLow := true } : Dev).showSafeLine
    let d := (Dev.each (List.range 16) (fun n d => d.modSlot n (fun s => s.sinkAt d.loop)) d).laneStop
    d.readyDrop (0 :: loopReady)

/-- The clock whose return carries out the access that hangs. -/
def clockOf (a : Nat) : Nat :=
  match regionOf a with
  | 21 => if a = 0x154000 then 3 else 4
  | 22 => 2
  | 26 => 10
  | _ => 0

/-- A word of channel `c` that hung carried out, and its four bytes counted; a channel whose GO has been written 0 meanwhile stops with it
(R92, R94, R446). -/
def Dev.dmaHeldDone (d : Dev) (c : Nat) (h : Hung) : Dev :=
  let d := (d.hungWrite h).set (F.DMA_STATUS_REMAIN c) (d.get (F.DMA_STATUS_REMAIN c) - 4)
  if d.on (F.DMA_CTRL_GO c) then d else (d.dmaIdle c).setB (F.DMA_STATUS_STOPPED c) false

/-- Whether the clock `k` of CLK.PRESENT runs: present, and its PLL, where it has one, in lock. -/
def Dev.clockRuns (d : Dev) (k : Nat) : Bool :=
  if k = 0 then d.loopClk else if k = 3 ∨ k = 4 then d.nvRuns (k - 3) else d.on (presentFld k)

/-- The writes that hung for a clock are carried out when the clock runs again (R92). -/
def Dev.hungDone (d : Dev) (k : Nat) : Dev :=
  if !d.clockRuns k then d else
  let d := match d.hung with
    | some h => if clockOf h.addr = k then ({ d with hung := none } : Dev).hungWrite h else d
    | none => d
  let l := d.dmaHeld.filter (fun x => clockOf x.2.addr == k)
  Dev.each l (fun x d => d.dmaHeldDone x.1 x.2) { d with dmaHeld := d.dmaHeld.filter (fun x => clockOf x.2.addr != k) }

/-- The LOOP clock returns after a detected stop. PRO's state has stood through it, so that PRO is READY in the first tick where a fabric
stands, and every condition that then holds is raised, LOOPCLK by its own detector among them (R24, R106, R317, R321); LOOP reads what the
power-side die has done meanwhile (R23, R295). -/
def Dev.loopReturn (d : Dev) : Dev :=
  if d.on F.CLK_PRESENT_LOOP then d
  else
    let d := (d.setPresent 0 true).showSafeLine
    let d := if d.ready 1 && !d.svcPower then (d.readyOn 12).raisePresent else d
    (d.linesRead.refRead).hungDone 0

/-- The SYS PLL loses lock: its clock is gated off and a warm reset holds until it relocks (R86, R105). -/
def Dev.sysUnlock (d : Dev) : Dev :=
  let d := d.setB F.CLK_PLL_SYS_LOCK false |>.stick F.CLK_PLL_SYS_UNLOCK 1 |>.stick F.RST_CAUSE_SYSPLL 1
  let d := (d.sysReset none).setB F.CLK_PRESENT_SYS false
  d.readyDrop [0]

/-- A PLL locks or loses lock, which gates its clock off (R86): `Dev.loopClk` and `Dev.nvRuns` then read false, and the detector finds
the stop if it lasts. -/
def Dev.pllLock (d : Dev) (pll : Nat) (locked : Bool) : Dev :=
  match pll with
  | 0 =>
    if locked then
      ((d.setB F.CLK_PLL_LOOP_LOCK true).when (d.on F.CLK_PRESENT_LOOP && !d.rst.cold) (fun d => d.linesRead.refRead)).hungDone 0
    else (d.setB F.CLK_PLL_LOOP_LOCK false |>.stick F.CLK_PLL_LOOP_UNLOCK 1).readyDrop [0]
  | 1 => if locked then (d.setB F.CLK_PLL_SYS_LOCK true).setB F.CLK_PRESENT_SYS true else d.sysUnlock
  | 2 => if locked then (d.setB F.CLK_PLL_NVA_LOCK true).hungDone 3 else d.setB F.CLK_PLL_NVA_LOCK false |>.stick F.CLK_PLL_NVA_UNLOCK 1
  | _ => if locked then (d.setB F.CLK_PLL_NVB_LOCK true).hungDone 4 else d.setB F.CLK_PLL_NVB_LOCK false |>.stick F.CLK_PLL_NVB_UNLOCK 1

/-- A storage port's clock stops: its READY falls (R96). -/
def Dev.nvFall (d : Dev) (p : Nat) : Dev := ((d.setPresent (3 + p) false).setTrained p false).readyDrop [19]

/-- The clock of storage port `p` stops once EN is 0 and no transfer is outstanding (R96). -/
def Dev.nvStop (d : Dev) (p : Nat) : Dev :=
  let en := if p = 0 then d.on F.CLK_CTRL_NVA_EN else d.on F.CLK_CTRL_NVB_EN
  if en || (d.evr.pageBusy && d.pagePorts.testBit p) || (d.evr.reading && d.trained p) then d else d.nvFall p

/-- REFCLK is lost, and with it the lock of every PLL that has it: LOOP, SYS and the storage ports stop (R85, R86). -/
def Dev.refLost (d : Dev) : Dev :=
  let lost (f : Fld) (k : Nat) (d : Dev) : Dev := if d.on f then d.pllLock k false else d
  (d.setPresent 12 false) |> lost F.CLK_PLL_LOOP_LOCK 0 |> lost F.CLK_PLL_SYS_LOCK 1 |> lost F.CLK_PLL_NVA_LOCK 2
    |> lost F.CLK_PLL_NVB_LOCK 3

/-- A clock's presence changes (R87). -/
def Dev.presence (d : Dev) (k : Nat) (v : Bool) : Dev :=
  if k = 9 ∨ 13 ≤ k then d
  else if k = 0 then (if v then d.loopReturn else d.loopStop)
  else if k = 12 ∧ v = false then d.refLost
  else if v then (d.setPresent k true).hungDone k
  else if k = 3 ∨ k = 4 then d.nvFall (k - 3)
  else if 5 ≤ k ∧ k ≤ 7 then (d.setPresent k false).portFall (k - 5)
  else if k = 10 then (d.setPresent k false).readyDrop [24]
  else d.setPresent k false

/-- A write of a rate bit of CLK.CTRL: 133 MHz is refused at 3.3 V, and a rate changes only while the port's EN is 0 (R104). -/
def Dev.nvRate (d : Dev) (p : Nat) (v : Bool) : Dev :=
  if d.rateRefused p v || d.on F.CLK_CTRL_LOCK then d
  else d.setB (if p = 0 then F.CLK_CTRL_NVA_RATE else F.CLK_CTRL_NVB_RATE) v

/-! ### Block resets and crossings (R97 to R99, R107) -/


/-- The READY bit of the block that owns a FIFO. -/
def fifoBlock (f : Nat) : Nat := if f ≤ 2 then 15 else if f = 3 then 14 else if f ≤ 5 then 19 else 20

/-- The clock of a FIFO's far side, as CLK.PRESENT numbers them. -/
def fifoClock (f : Nat) : Nat := if f ≤ 3 then 5 + f else if f ≤ 5 then f - 1 else 2

/-- The resynchronisation handshake completes: the words in flight are counted in DROP, and the FIFO is READY (R97, R99). While the far
side's clock is stopped it waits (R98). -/
def Dev.fifoDone (d : Dev) (f n : Nat) : Dev :=
  if d.fifoOk f || !d.on (presentFld (fifoClock f)) then d
  else
    let d := d.modFifo f (fun x => { ready := true, drop := min 65535 (x.drop + n) })
    if n = 0 then d else d.xsum (fifoBlock f)

/-- RST.BLOCK of a storage port. -/
def Dev.blockNv (d : Dev) (p : Nat) : Dev := ((d.setTrained p false).fifoReset (4 + p)).readyDrop [19]

/-- RST.BLOCK of an Igkulink port. -/
def Dev.blockLink (d : Dev) (p : Nat) : Dev := ((d.portReset p).fifoReset p).readyDrop [15]

/-- RST.BLOCK of a two-wire bus (R467). -/
def Dev.blockTw (d : Dev) (x : Nat) (sda : Sda) : Dev := (d.busReset x sda).readyDrop [23]

/-- RST.BLOCK of the host target: the pending request is withdrawn (R441), a write in another domain carried out or not (R93). -/
def Dev.blockHost (d : Dev) : Dev :=
  let d := Dev.each (d.portHung .host d.hst).toList (fun h d => d.hungOne h) d
  ((({ d with hst := {} } : Dev).fifoReset 6).stick F.HST_HSTICKY_RESET 1 |>.setB F.HST_STATUS_PENDING false
    |>.setB F.HST_STATUS_HELD false).readyDrop [20]

end Sys2Proof.Machine
end

