-- ==== Sys2Proof/Machine/Update.lean ====
section
/-! DEFINITION. UPD: the relay of packages, staging, activation, the handover between core memory banks, trials and their fall-back
(spec/22_update_security.md). -/

namespace Sys2Proof.Machine

/-- What UPD holds changed. -/
def Dev.modUpd (d : Dev) (f : Upd → Upd) : Dev := { d with upd := f d.upd }

/-- UPD's states. -/
def updIdle : Nat := 0

/-- RECEIVING. -/
def updReceiving : Nat := 1

/-- FORWARDING. -/
def updForwarding : Nat := 2

/-- STAGED. -/
def updStaged : Nat := 3

/-- ACTIVATING. -/
def updActivating : Nat := 4

/-- TRIAL. -/
def updTrial : Nat := 5

/-- FALLBACK. -/
def updFallback : Nat := 6

/-- The package ID that UPD.PKGID shows. -/
def Upd.pkg (u : Upd) : Nat := (u.manifest.map (·.pkg)).getD 0

/-- Whether a package is being activated, is on trial or falls back: a second package then waits in the relay area (R499). -/
def Upd.busy (u : Upd) : Bool := u.st == updActivating || u.st == updTrial || u.st == updFallback

/-- UPD's registers brought up to what it holds, while it is READY. The slots are shown from the boot record. -/
def Dev.showUpd (d : Dev) : Dev :=
  if !d.ready 25 then d
  else
    let u := d.upd
    d.set F.UPD_STATUS_STATE u.st |>.setB F.UPD_STATUS_TFW u.tfw |>.setB F.UPD_STATUS_TPART u.tpart
      |>.setB F.UPD_STATUS_TFULL u.tfull |>.set F.UPD_STATUS_CODE u.code |>.set F.UPD_PKGID_PKGID u.pkg
      |>.set F.UPD_RELAY_FORWARDED u.forwarded |>.set F.UPD_RELAY_PENDING u.fwd.isSome.toNat
      |>.set F.UPD_RELAY_FAILNODE u.failNode |>.set F.UPD_SLOTS_ACTIVE u.boot.active |>.set F.UPD_SLOTS_STATE0 (u.boot.state0 % 8)
      |>.set F.UPD_SLOTS_STATE1 (u.boot.state1 % 8) |>.set F.UPD_SLOTS_TRIALBOOT u.boot.trialBoot

/-- UPD moved and its registers shown. -/
def Dev.updSet (d : Dev) (f : Upd → Upd) : Dev := (d.modUpd f).showUpd

/-- An outcome in UPD.STATUS.CODE. -/
def Dev.updCode (d : Dev) (c : Nat) : Dev := d.updSet (fun u => { u with code := c })

/-- An outcome with the NOTE that the chapter gives it. -/
def Dev.updRefuse (d : Dev) (c : Nat) : Dev := (d.updCode c).note 3 0x1B0000 0 c

/-! ### The boot record and the slots (R487, R488) -/

/-- The slot that is not ACTIVE. -/
def Upd.other (u : Upd) : Nat := 1 - u.boot.active

/-- An image slot. -/
def Upd.slot (u : Upd) (i : Nat) : ImgSlot := u.slots[i]?.getD {}

/-- An image slot changed. -/
def Upd.modSlot (u : Upd) (i : Nat) (f : ImgSlot → ImgSlot) : Upd := { u with slots := u.slots.setIfInBounds i (f (u.slot i)) }

/-- The state of a slot in the boot record: 0 EMPTY, 1 STAGED, 2 TRIAL, 3 CONFIRMED, 4 FAILED. -/
def BootRec.state (b : BootRec) (i : Nat) : Nat := if i = 0 then b.state0 else b.state1

/-- A boot record with a slot in a state. -/
def BootRec.put (b : BootRec) (i st : Nat) : BootRec := if i = 0 then { b with state0 := st } else { b with state1 := st }

/-- A boot record with a slot's package. -/
def BootRec.putPkg (b : BootRec) (i pkg : Nat) : BootRec := if i = 0 then { b with pkg0 := pkg } else { b with pkg1 := pkg }

/-- A container put into a slot by its kind. -/
def ImgSlot.put (s : ImgSlot) (c : Container) : ImgSlot :=
  match c.hdr.kind with
  | 1 => { s with full := some c }
  | 2 => { s with part := some c }
  | 3 => { s with fw := some c }
  | 5 => { s with man := some c }
  | _ => s

/-- The containers of a slot. -/
def ImgSlot.all (s : ImgSlot) : List Container := [s.fw, s.full, s.part, s.man].filterMap id

/-! ### Relay (R490 to R492) -/

/-- Whether a field of a target address names the device: its own value, or all ones. -/
def fieldFits (own t ones : Nat) : Bool := own == t || t == ones

/-- Whether an entry's target address names this device; the side bit is ignored (R490). -/
def Dev.applies (d : Dev) (t : Nat) : Bool :=
  let a := d.node
  fieldFits (a / 4096) (t / 4096 % 16) 15 && fieldFits (a / 256 % 16) (t / 256 % 16) 15
    && fieldFits (a / 16 % 16) (t / 16 % 16) 15 && fieldFits (a % 8) (t % 8) 7

/-- The ports that a container is forwarded on (R492): on a whole ring EAST until the last node, on a broken one away from the manager up
to the break; a rack or zone manager also along its UP ring. -/
def Dev.relayPorts (d : Dev) : List Nat :=
  match d.cfg.link with
  | none => []
  | some l =>
    let i := l.index
    let upOk (p : Nat) : Bool := d.port p == portUp
    let ring :=
      if d.ringClosed then (if i + 1 < l.nodes then [0] else [])
      else
        (if i = 0 ∨ i < d.get F.LNK_RING_EASTEND then [0] else []) ++
          (if i = 0 ∨ d.get F.LNK_RING_WESTEND < i then [1] else [])
    ring.filter upOk ++ (if (l.role = 1 ∨ l.role = 2) ∧ i = 0 then [2].filter upOk else [])

/-- The bytes of an IMAGE frame's head (R491). -/
def imageBytes (pkg index block flags code : Nat) : List Nat := le 4 pkg ++ le 2 index ++ le 2 block ++ [flags, code, 0, 0]

/-- The address of the node that the transmitter of port `p` reaches: the neighbour's by its last LINKSTAT, on a one-way UP ring the next
node's (R377, log entry 90). -/
def Dev.nextHop (d : Dev) (p : Nat) : Nat := if p = 2 then d.linkCfg.upNext else d.get (F.LNK_STATUS_NEIGH p)

/-- An IMAGE frame sent to the next node on each of some ports: its head, and the container's bytes that it carries (R491). -/
def Dev.imageSend (d : Dev) (ports : List Nat) (index block flags code : Nat) (data : List Nat) : Dev :=
  Dev.each ports (fun p d =>
    d.sendFrom d.node (d.nextHop p) [p] 0x31 (.image (imageBytes d.upd.pkg index block flags code) data)) d

/-- The bytes of a container that a frame carries (R491). -/
def imageBlockSize : Nat := 224

/-- The blocks of a container: block, bytes, whether it is the last. -/
def imageBlocks (l : List Nat) : List (Nat × List Nat × Bool) :=
  let n := (l.length + imageBlockSize - 1) / imageBlockSize
  (List.range n).map (fun k => (k, cut l (k * imageBlockSize) (min imageBlockSize (l.length - k * imageBlockSize)), k + 1 == n))

/-- The container sent to the next hops that have not answered, with a deadline of 1 s (R491, R492). -/
def Dev.relaySend (d : Dev) : Dev :=
  match d.upd.fwd with
  | none => d
  | some r =>
    let d := d.modUpd (fun u => { u with ackEnd := some (d.now + sec) })
    Dev.each (imageBlocks ((r.whole.map (·.raw)).getD []))
      (fun b d => d.imageSend d.upd.hops r.index b.1 b.2.2.toNat 0 b.2.1) d

/-- The ports on which a node acknowledges a container (R491, R492): towards the manager; the last node of a whole ring also into the
manager's WEST port, and a manager up its UP ring. -/
def Dev.ackPorts (d : Dev) : List Nat :=
  match d.cfg.link with
  | none => []
  | some c =>
    if c.role ≠ 0 ∧ c.index = 0 then [2]
    else d.managerPort c :: (if d.ringClosed && c.index + 1 == c.nodes then [0] else [])

/-- A container forwarded to every next hop: the next may come. -/
def Dev.relayDone (d : Dev) : Dev :=
  d.updSet (fun u => { u with
    fwd := none, hops := [], tries := 0, ackEnd := none, forwarded := min 255 (u.forwarded + 1)
    done := match u.fwd with | some r => u.done ++ [r.index] | none => u.done
    st := if u.st = updForwarding then updReceiving else u.st })

/-- The ring index of the first node that two breaks cut off from the manager (R492). -/
def Dev.cutOff (d : Dev) : Option Nat :=
  match d.cfg.link with
  | none => none
  | some l =>
    let e := d.get F.LNK_RING_EASTEND
    let w := d.get F.LNK_RING_WESTEND
    if l.role = 1 && !d.ringClosed && decide (e + 1 < (if w = 0 then l.nodes else w)) then some (e + 1) else none

/-- A verified container sent on; one without a next hop is done (R491). A manager whose ring is cut waits 1 s for the first node that it does
not reach (R492). -/
def Dev.relay (d : Dev) (r : Relay) : Dev :=
  let hops := d.relayPorts
  let d := d.modUpd (fun u => { u with cutEnd := d.cutOff.map (fun _ => d.now + sec) })
  if hops.isEmpty then
    d.updSet (fun u => { u with done := u.done ++ [r.index] })
  else
    (d.updSet (fun u => { u with
      fwd := some r, hops := hops, tries := 0, st := if u.busy then u.st else updForwarding })).relaySend

/-- The index of the container that comes next: 0 the manifest, then the entries in order. -/
def Upd.nextIndex (u : Upd) : Nat := if u.manifest.isNone then 0 else u.done.length

/-- Whether a container has begun to be received. -/
def Relay.begun (r : Relay) : Bool := decide (0 < r.blocks) || r.whole.isSome

/-- A write of UPD.CTRL.INGEST: a container is taken from the Drawer ring, page by page (R490). A GO while a container is being received, and
one with an empty ring or a ring beyond page 63, is refused. -/
def Dev.ingest (d : Dev) (c : Container) : Dev :=
  let a := 0x1B0000
  let n := d.get F.UPD_INGEST_COUNT
  if !d.ready 25 then d.note 2 a 1 (d.plainWord a)
  else if d.upd.rx.any (·.begun) || d.upd.fwd.isSome || n == 0 || decide (64 < d.get F.UPD_INGEST_PAGE + n) then d.note 3 a 1 (d.plainWord a)
  else
    let i := if c.hdr.kind = 5 then 0 else d.upd.nextIndex
    (d.updSet (fun u => { u with
      rx := some { index := i, whole := some c }, got := [], st := if u.busy then u.st else updReceiving })).setB
      F.UPD_CTRL_INGEST true

/-- One page of the container being ingested taken, once it is DEVICE, in container order through the ring, and freed. -/
def Dev.ingestTake (d : Dev) : Dev :=
  match d.upd.rx with
  | none => d
  | some r =>
    let p := d.get F.UPD_INGEST_PAGE + r.blocks % max 1 (d.get F.UPD_INGEST_COUNT)
    if d.on F.UPD_CTRL_INGEST && r.whole.any (fun c => decide (d.upd.got.length < c.len)) && d.own p == ownDev && !d.engineHolds p then
      let bytes := d.memBytes (drawerBase + 0x1000 * p) 0x1000
      (d.setOwn p ownFree).modUpd (fun u => { u with rx := some { r with blocks := r.blocks + 1 }, got := u.got ++ bytes })
    else d

/-- Whether a container can be verified: one that is ingested once the pages taken hold it whole. -/
def Dev.rxWhole (d : Dev) (c : Container) : Bool :=
  !d.on F.UPD_CTRL_INGEST || (decide (c.len ≤ d.upd.got.length) && c.raw == d.upd.got.take c.raw.length)

/-- An IMAGE frame brings a block of a container into the relay area; the last brings the whole (R491). Blocks come in order. -/
def Dev.imageBlock (d : Dev) (index block : Nat) (whole : Option Container) : Dev :=
  if !d.ready 25 || d.upd.fwd.isSome || d.upd.rx.any (·.whole.isSome) || !d.linkOpen then d
  else
    let r := match d.upd.rx with
      | some r => if r.index = index then r else { index := index }
      | none => { index := index }
    if r.blocks ≠ block then d
    else d.updSet (fun u => { u with
      rx := some { r with blocks := block + 1, whole := whole }, st := if u.busy then u.st else updReceiving })

/-- The manifest entry of a container's index. -/
def Upd.entry (u : Upd) (i : Nat) : Option ManifestEntry := u.manifest.bind (fun m => if i = 0 then none else m.entries[i - 1]?)

/-- What a received container fails with (R484, R491): the codes of SEC, then 20h for a digest, a kind or a length that its entry does
not name. The manifest itself is container 0. -/
def Dev.rxFault (d : Dev) (o : Otp) (r : Relay) (c : Container) : Option Nat :=
  if r.index = 0 then
    match d.secFault o [5] c with
    | some e => some e
    | none => if c.manifest.isNone then some 0x20 else none
  else
    match d.upd.entry r.index with
    | none => some 0x20
    | some m =>
      match d.secFault o [1, 2, 3, 4] c with
      | some e => some e
      | none => if m.digest = c.digest ∧ m.kind = c.hdr.kind ∧ m.length = c.len then none else some 0x20

/-- A container that applies to the device stored in the slot that is not ACTIVE, whose STATE becomes EMPTY (R491). The manifest, which comes
first, finds the slot erased. -/
def Dev.store (d : Dev) (c : Container) : Dev :=
  d.modUpd (fun u =>
    let i := u.other
    let fresh := u.boot.state i != 0
    let u := if fresh || c.hdr.kind == 5 then u.modSlot i (fun _ => {}) else u
    let u := u.modSlot i (fun s => s.put c)
    if fresh then u.writeBoot (u.boot.put i 0) else u)

/-- A revocation that has verified takes effect, or is refused with code 28h and a NOTE (R486). -/
def Dev.revoke (d : Dev) (o : Otp) (c : Container) : Dev × Otp :=
  match o.revokes c with
  | some o' => (d.showOtp o', o')
  | none => (d.updRefuse 0x28, o)

/-- The indices of the package's containers that apply to the device. -/
def Dev.mine (d : Dev) : List Nat :=
  match d.upd.manifest with
  | none => []
  | some m => (List.range m.entries.length).filterMap (fun i =>
      match m.entries[i]? with
      | some e => if d.applies e.target then some (i + 1) else none
      | none => none)

/-- A verified manifest opens its package; while a trial runs a second package waits in the relay area (R499). The manifest goes into the
slot of a device that the package names a container for (log entry 77). -/
def Dev.openPackage (d : Dev) (c : Container) : Dev :=
  if d.upd.busy then
    let d := d.modUpd (fun u => { u with manifest := c.manifest, done := [], forwarded := 0, failNode := 0, held := [] })
    d.when (!d.mine.isEmpty) (fun d => d.modUpd (fun u => { u with held := [c] }))
  else
    let d := d.modUpd (fun u => { u with
      manifest := c.manifest, done := [], forwarded := 0, failNode := 0, code := 0, tfw := false, tpart := false, tfull := false })
    d.when (!d.mine.isEmpty) (fun d => d.store c)

/-- The container received is verified: NAKed with its code, or ACKed, kept where it applies, and forwarded (R491). `stored` says
whether the storage ports took it (code 21h). -/
def Dev.verified (d : Dev) (o : Otp) (stored : Bool) : Dev × Otp :=
  match d.upd.rx with
  | none => (d, o)
  | some r =>
    match r.whole with
    | none => (d, o)
    | some c =>
      if !d.rxWhole c then (d, o)
      else
      let ports := if d.on F.UPD_CTRL_INGEST then [] else d.ackPorts
      let d := (d.modUpd (fun u => { u with rx := none, got := [] })).setB F.UPD_CTRL_INGEST false
      let bad := match d.rxFault o r c with
        | some e => some e
        | none => if stored then none else some 0x21
      match bad with
      | some e => ((d.imageSend ports r.index 0 4 e []).updCode e, o)
      | none =>
        let d := d.imageSend ports r.index 0 2 0 []
        let mine := r.index != 0 && ((d.upd.entry r.index).map (fun m => d.applies m.target)).getD false
        let (d, o) := if mine && c.hdr.kind == 4 then d.revoke o c else (d, o)
        let d := if r.index = 0 then d.openPackage c
          else if !mine || c.hdr.kind == 4 then d
          else if d.upd.busy then d.modUpd (fun u => { u with held := u.held ++ [c] })
          else d.store c
        (d.relay r, o)

/-- One failed attempt at the next hops: sent again, or after the third the relay stops and FAILNODE names the hop (R491). -/
def Dev.relayFail (d : Dev) (port code : Nat) : Dev :=
  let node := d.get (F.LNK_STATUS_NEIGH port)
  let d := d.modUpd (fun u => { u with tries := u.tries + 1, code := if code = 0 then u.code else code })
  if 3 ≤ d.upd.tries then
    d.updSet (fun u => { u with
      fwd := none, hops := [], ackEnd := none, failNode := node, st := if u.st = updForwarding then updIdle else u.st })
  else (d.showUpd).relaySend

/-- A next hop answers: its ACK ends its part, its NAK is a failure (R491). -/
def Dev.imageAck (d : Dev) (port : Nat) (ok : Bool) (code : Nat) : Dev :=
  if d.upd.fwd.isNone || !d.upd.hops.contains port || !d.fifoOk port then d
  else if ok then
    let d := d.modUpd (fun u => { u with hops := u.hops.filter (· != port) })
    if d.upd.hops.isEmpty then d.relayDone else d
  else d.relayFail port code

/-- FAILNODE names the first node that two breaks cut off, by the address that it last gave of itself (R492). -/
def Dev.cutNamed (d : Dev) : Dev :=
  match d.cutOff with
  | some i =>
    let a := ((d.link.nodes.find? (fun n => n.index == i)).map (·.addr)).getD everyNode
    d.updSet (fun u => { u with failNode := a, cutEnd := none })
  | none => d.modUpd (fun u => { u with cutEnd := none })

/-- No answer within 1 s: FAILNODE names the first hop that is silent, and the attempt has failed; or the first node cut off (R492). -/
def Dev.relayTimeout (d : Dev) : Dev :=
  let d := if due d.upd.cutEnd d.now then d.cutNamed else d
  if due d.upd.ackEnd d.now then
    let p := d.upd.hops.headD 0
    (d.modUpd (fun u => { u with failNode := d.get (F.LNK_STATUS_NEIGH p) })).relayFail p 0
  else d

/-! ### Staging (R493) -/

/-- Whether the package holds a kind for the device. -/
def Dev.holdsKind (d : Dev) (k : Nat) : Bool := d.mine.any (fun i => ((d.upd.entry i).map (fun e => e.kind == k)).getD false)

/-- The base address of a core memory bank (R500). -/
def bankBase (b : Nat) : Nat := 0x10000000 + 0x10000 * b

/-- The bank that is not running. -/
def Dev.otherBank (d : Dev) : Nat := 1 - d.get F.RST_BOOT_BANK

/-- The staged package loaded where it will run: its firmware into the other bank, its partial into the shadow planes. -/
def Dev.stageLoad (d : Dev) (o : Otp) : Dev :=
  let s := d.upd.slot d.upd.other
  let d := if d.holdsKind 3 then
      match s.fw with
      | some c => (d.memWrite (bankBase d.otherBank) c.image).modUpd (fun u => { u with bankHeld := true })
      | none => d
    else d
  if d.holdsKind 2 then
    match s.part with
    | some c => d.partialEnd o c
    | none => d
  else d

/-- UPD after a package is over: IDLE, or with a second package that waited in the relay area, which is now stored (R499). -/
def Dev.packageOver (d : Dev) : Dev :=
  let l := d.upd.held
  let d := d.modUpd (fun u => { u with
    st := if l.isEmpty then updIdle else updReceiving, manifest := if l.isEmpty then none else u.manifest, held := []
    trialEnd := none, tfw := false, tpart := false, tfull := false, swaps := 0, reverts := 0, bankHeld := false, revertAt := none })
  (Dev.each l (fun c d => d.store c) d).showUpd

/-! ### Activation (R494) -/

/-- Why an activation is refused; 0 where it is not. -/
def Dev.actRefusal (d : Dev) : Nat :=
  let e := d.get F.ENG_STATUS_STATE
  if d.hasEng && (e == 4 || e == 5 || e == 6) then 0x23
  else if d.upd.st = updTrial then 0x22
  else if d.holdsKind 3 && decide (d.get F.RST_WDT_PERIOD < 10) then 0x25
  else 0

/-- The Benches of the package's partial. -/
def Dev.partBenches (d : Dev) : Nat :=
  match (d.upd.slot d.upd.other).part with
  | some c => maskOf 16 (fun n => c.content.planes.any (fun x => x.1 == n))
  | none => 0

/-- The trial begins: its window is [s, s + W), with W of the manifest stored with the images on trial (R496). -/
def Dev.trialStart (d : Dev) : Dev :=
  let m := (((d.upd.slot d.upd.other).man.bind (·.manifest)).map (·.window)).getD 0
  let w := if m = 0 then d.effN F.UPD_WINDOW_WINDOW else m
  d.updSet (fun u => { u with st := updTrial, trialEnd := some (d.now + w * sec) })

/-- Whether every Bench that the partial names has left PENDING. -/
def Dev.swapsOver (d : Dev) : Bool := (List.range 16).all (fun n => !d.partBenches.testBit n || d.swapState n != 1)

/-- The last named Bench has swapped: a partial without firmware goes on trial from that tick (R496). One whose every Bench was refused
changes nothing, and stays STAGED. -/
def Dev.swapWatch (d : Dev) : Dev :=
  if d.upd.st = updActivating && d.upd.tpart && d.swapsOver then
    let m := maskOf 16 (fun n => d.partBenches.testBit n && d.swapState n == 2)
    let d := d.modUpd (fun u => { u with swaps := m })
    if d.upd.tfw then d
    else if m = 0 then d.updSet (fun u => { u with st := updStaged, tpart := false })
    else d.trialStart
  else d

/-- A staged package activated by what it holds for the device (R494). A refusal leaves it STAGED; an ON_STORE one is retried each
minute. -/
def Dev.activate (d : Dev) : Dev :=
  if d.upd.st ≠ updStaged ∧ d.upd.st ≠ updTrial then d.note 3 0x1B0000 2 d.upd.st
  else
    let r := d.actRefusal
    let once := match d.upd.manifest with | some m => m.onCommand | none => true
    if r ≠ 0 then
      (d.updRefuse r).modUpd (fun u => { u with retryAt := if once then none else some (d.now + 60 * sec) })
    else
      let d := d.modUpd (fun u => { u with retryAt := none })
      if d.holdsKind 1 then
        let d := d.updSet (fun u => {
          u.writeBoot { u.boot.put u.other 2 with trialBoot := 0 } with tfull := true, st := updActivating })
        if d.on F.UPD_CTRL_ACTCOLD then (d.stick F.RST_CAUSE_SWCOLD 1).coldReset (some (d.now + ms)) else d
      else
        let fw := d.holdsKind 3
        let part := d.holdsKind 2
        if !fw && !part then d.packageOver
        else
          let d := d.updSet (fun u => { u with st := updActivating, tfw := fw, tpart := part })
          if part && d.drives then (d.swapWrite d.partBenches 0).swapWatch else d

/-- Every applicable container is stored and every forwarded one acknowledged: the package is STAGED, and ON_STORE activates (R493). A
device that the package names no container for keeps its slot as it is (log entry 77). -/
def Dev.packageStaged (d : Dev) (o : Otp) : Dev :=
  match d.upd.manifest with
  | none => d
  | some m =>
    let u := d.upd
    if !d.ready 25 || u.fwd.isSome || u.rx.isSome || u.busy || u.st == updStaged
        || !(List.range (m.entries.length + 1)).all (fun i => u.done.contains i) then d
    else
      let i := u.other
      let run := u.slot u.boot.active
      let slot (d : Dev) : Dev := d.modUpd (fun u =>
        let u := if (u.slot i).fw.isNone then u.modSlot i (fun s => { s with fw := run.fw }) else u
        u.writeBoot ((u.boot.put i 1).putPkg i m.pkg))
      let d := (d.when (!d.mine.isEmpty) slot).modUpd (fun u => { u with st := updStaged })
      let d := (d.stageLoad o).showUpd
      if m.onCommand then d else d.activate

/-- A write of UPD.CTRL.ACTIVATE: on a manager it is also sent down its rings (R493). -/
def Dev.activateWrite (d : Dev) : Dev :=
  if !d.ready 25 then d.note 2 0x1B0000 2 0
  else
    let d := if d.cfg.link.isSome ∧ d.linkCfg.role ≠ 0 then
        d.sendOn (d.sendPorts 0x31) 0x31 (.image (imageBytes d.upd.pkg 0 0 8 0) []) else d
    d.activate

/-- An IMAGE frame with ACTIVATE (R493). -/
def Dev.activateFrame (d : Dev) (pkg : Nat) : Dev :=
  if d.ready 25 && d.upd.st == updStaged && d.upd.pkg == pkg then d.activate else d

/-- A refused ON_STORE activation retried (R494). -/
def Dev.activateRetry (d : Dev) : Dev :=
  if due d.upd.retryAt d.now && d.upd.st == updStaged then d.activate else d

/-! ### The handover (R495) -/

/-- The core stops fetching and drains. -/
def Dev.drainStart (d : Dev) (back : Bool) : Dev :=
  d.modUpd (fun u => { u with drainEnd := some (d.now + 4900 * us), back := back })

/-- A write of UPD.CTRL with HANDOVER: HOPAGE and HOVALID are stored, and the core drains. It is refused where no firmware is being
activated, and below a watchdog period of 10 ms with code 25h (R110, R495). -/
def Dev.handoverGo (d : Dev) (page : Nat) (valid : Bool) : Dev :=
  let a := 0x1B0000
  let w := 4 + 256 * page + 2 ^ 14 * valid.toNat
  let d := d.set F.UPD_CTRL_HOPAGE page |>.setB F.UPD_CTRL_HOVALID valid
  if !d.ready 25 then d.note 2 a w (d.plainWord a)
  else if d.get F.RST_WDT_PERIOD < 10 then d.updRefuse 0x25
  else if d.upd.st = updActivating ∧ d.upd.tfw ∧ d.upd.drainEnd.isNone ∧ d.upd.holdEnd.isNone then
    (d.setB F.UPD_CTRL_HANDOVER true).drainStart false
  else d.note 3 a w (d.plainWord a)

/-- The drain ends before 4,900 microseconds: the core's release is set 11 microseconds on (R495). An access that hangs does not let it end. -/
def Dev.drainDone (d : Dev) : Dev :=
  match d.upd.drainEnd with
  | none => d
  | some e =>
    if e ≤ d.now || d.hung.isSome then d
    else
      let old := d.get F.RST_BOOT_BANK
      (d.drainAll 4).modUpd (fun u => { u with
        drainEnd := none, holdEnd := some (d.now + 11 * us), oldBank := if u.back then u.oldBank else old })

/-- One microsecond after the drain the core is in reset, and RST.BOOT.BANK changes (R495). -/
def Dev.bankTick (d : Dev) : Dev :=
  match d.upd.holdEnd with
  | some e => if e ≤ d.now + 10 * us then d.set F.RST_BOOT_BANK (if d.upd.back then d.upd.oldBank else 1 - d.upd.oldBank) else d
  | none => d

/-- The fall-back has ended once the old firmware runs and every swapped Bench has reverted. -/
def Dev.fallbackEnd (d : Dev) : Dev :=
  if d.upd.st = updFallback ∧ d.upd.reverts = 0 ∧ ¬ d.upd.tfw then d.packageOver else d

/-- The core is released at the base of the new bank: a firmware trial begins, or the fall-back's handover is over (R495, R496). -/
def Dev.handoverRelease (d : Dev) : Dev :=
  if !due d.upd.holdEnd d.now then d
  else
    let d := (d.bankTick.modUpd (fun u => { u with holdEnd := none })).setB F.UPD_CTRL_HANDOVER false
    if d.upd.back then (d.modUpd (fun u => { u with back := false, tfw := false })).fallbackEnd
    else d.trialStart

/-- A drain still running at 4,900 microseconds: the bank is not changed, code 24h, and the package stays STAGED (R495). -/
def Dev.drainTimeout (d : Dev) : Dev :=
  if !due d.upd.drainEnd d.now then d
  else (d.updSet (fun u => { u with
    drainEnd := none, code := 0x24, st := if u.back then u.st else updStaged, handoverDue := u.back })).setB F.UPD_CTRL_HANDOVER false

/-! ### Trials (R496 to R498) -/

/-- The bank that a trial or a staged package protects against writes (R493, R497). -/
def Dev.bankLocked (d : Dev) (a : Nat) : Bool :=
  d.upd.bankHeld && decide (bankBase d.otherBank ≤ a ∧ a < bankBase d.otherBank + 0x10000)

/-- The confirmation of a trial: the boot record, the floors, the end of the old bank's protection (R497). -/
def Dev.confirm (d : Dev) (o : Otp) (m : Master) (key : Nat) : Dev × Otp :=
  if m != .core then (d.note 2 0x1B0014 key 0, o)
  else if key % 0x10000 = 0x7C15 ∧ d.upd.st = updTrial ∧ ¬ due d.upd.trialEnd d.now then
    let i := d.upd.other
    let o := o.raise (d.upd.slot i).all
    let d := d.modUpd (fun u => u.writeBoot { u.boot.put i 3 with active := i, trialBoot := 0 })
    ((d.packageOver).showOtp o, o)
  else (d, o)

/-- Whether a fall-back handover waits for ENG (R499). -/
def Dev.engBusy (d : Dev) : Bool :=
  let e := d.get F.ENG_STATUS_STATE
  d.hasEng && (e == 4 || e == 5 || e == 6)

/-- Whether a fall-back handover has to wait: for ENG (R499), or for a watchdog period of at least 10 ms, below which UPD begins none
(R110; that it waits, as for ENG, is the model's choice, log entry 55). -/
def Dev.handWaits (d : Dev) : Bool := d.engBusy || decide (d.get F.RST_WDT_PERIOD < 10)

/-- The handover back to the old bank, with HOVALID 0, once nothing keeps it waiting (R498, R499). -/
def Dev.handBack (d : Dev) : Dev :=
  if d.handWaits then d.modUpd (fun u => { u with handoverDue := true })
  else
    let d := d.setB F.UPD_CTRL_HOVALID false
    (d.modUpd (fun u => { u with handoverDue := false })).drainStart true

/-- The Benches that a fall-back still has to swap back: a swapped Bench that has reverted leaves the mask. -/
def Dev.revertWatch (d : Dev) : Dev :=
  if d.upd.st = updFallback then
    let m := maskOf 16 (fun n => d.upd.reverts.testBit n && d.swapState n != 2)
    (d.modUpd (fun u => { u with reverts := m })).fallbackEnd
  else d

/-- A second swap of the Benches still to revert, repeated every 100 ms until each has (R498); in a pair the active's GO acts on both
(R151, R499). -/
def Dev.revertGo (d : Dev) : Dev :=
  if d.upd.reverts = 0 then d
  else
    let m := maskOf 16 (fun n => d.upd.reverts.testBit n && d.swapState n != 1)
    ((d.modUpd (fun u => { u with revertAt := some (d.now + 100 * ms) })).when d.drives (fun d => d.swapWrite m 0)).revertWatch

/-- A trial has failed (R498): code 26h, the slot FAILED, a NOTE, and the fall-back by kind. -/
def Dev.trialFail (d : Dev) : Dev :=
  let d := d.updSet (fun u => { u.writeBoot (u.boot.put u.other 4) with
    st := updFallback, code := 0x26, trialEnd := none, reverts := if u.tpart then u.swaps else 0 })
  let d := d.note 3 0x1B0008 0 0x26
  if d.upd.tfull then
    let d := d.packageOver
    if d.on F.UPD_CTRL_ACTCOLD then (d.stick F.RST_CAUSE_SWCOLD 1).coldReset (some (d.now + ms)) else d
  else
    let d := d.revertGo
    if d.upd.tfw then d.handBack else d.fallbackEnd

/-- The confirm window ends unconfirmed. -/
def Dev.windowExpiry (d : Dev) : Dev := if d.upd.st = updTrial ∧ due d.upd.trialEnd d.now then d.trialFail else d

/-- The Benches that refused to revert asked again (R498); a fall-back handover that waited for ENG is made once ENG lets it. -/
def Dev.revertRetry (d : Dev) : Dev :=
  let d := if due d.upd.revertAt d.now then d.revertGo else d
  if d.upd.handoverDue && !d.handWaits then d.handBack else d

/-- A warm reset during a firmware trial: the trial has failed, and the old bank runs again (R498). One that falls between the change of
the bank and the core's release ends the handover as a drain that does not end: the old bank, code 24h, the package STAGED (log entry
77). -/
def Dev.warmTrial (d : Dev) : Dev :=
  if d.upd.holdEnd.isSome ∧ ¬ d.upd.back then
    (d.set F.RST_BOOT_BANK d.upd.oldBank).modUpd (fun u => { u with holdEnd := none, st := updStaged, code := 0x24 })
  else if (d.upd.st = updTrial ∨ d.upd.st = updFallback) ∧ d.upd.tfw then
    let fresh := d.upd.st == updTrial
    let d := (d.set F.RST_BOOT_BANK d.upd.oldBank).modUpd (fun u => { u.writeBoot (u.boot.put u.other 4) with
      st := updFallback, code := 0x26, trialEnd := none, tfw := false
      reverts := if u.tpart then u.swaps else 0, bankHeld := false, holdEnd := none, back := false, handoverDue := false })
    ((Dev.when fresh (fun d => d.note 3 0x1B0008 0 0x26) d).revertGo).fallbackEnd
  else d

/-- A staged package discarded (R499). -/
def Dev.abort (d : Dev) : Dev :=
  if !d.ready 25 then d.note 2 0x1B0000 16 0
  else if d.upd.st ≠ updStaged then d.note 3 0x1B0000 16 d.upd.st
  else
    let d := Dev.each (List.range 16) (fun n d =>
      if d.holdsKind 2 && d.partBenches.testBit n then d.setB (F.FAB_PLANE_SHADOW_VALID n) false else d) d
    let own := !d.mine.isEmpty
    d.updSet (fun u =>
      let u := if own then u.writeBoot (u.boot.put u.other 0) else u
      { u with st := updIdle, bankHeld := false, manifest := none, retryAt := none })

end Sys2Proof.Machine
end

