-- ==== Sys2Proof/Machine/Boot.lean ====
section
/-! DEFINITION. The release of reset, the boot ROM, and the READY bits as they set (spec/05_startup_reset.md, R489 of
spec/22_update_security.md). -/

namespace Sys2Proof.Machine

/-! ### Release (R43, R111, R112, R122) -/

/-- RST.STRAP sampled: BOOTSEL, DPX_SIDE and the bank levels, P, H, N, T, G from bit 0. -/
def Dev.sampleStraps (d : Dev) (bootsel : Nat) (side : Bool) (io : Nat) : Dev :=
  d.set F.RST_STRAP_BOOTSEL (bootsel % 4) |>.setB F.RST_STRAP_DPX_SIDE side |>.setB F.RST_STRAP_IO_P (io.testBit 0)
    |>.setB F.RST_STRAP_IO_H (io.testBit 1) |>.setB F.RST_STRAP_IO_N (io.testBit 2) |>.setB F.RST_STRAP_IO_T (io.testBit 3)
    |>.setB F.RST_STRAP_IO_G (io.testBit 4)

/-- The deadline of a host boot, where BOOTSEL selects one (R140). -/
def Dev.hostDeadline (d : Dev) : Option Nat := if d.get F.RST_STRAP_BOOTSEL = 1 then some (d.now + 10 * sec) else none

/-- The boot ROM begins: service mode by `service`, or for want of VDDIO_G with code 07h (R111, R112, R122). At a warm release that finds the
fabric standing, IO_G at 0 gives service mode and leaves the fabric and FAB READY as they are, where R112 has FAB READY 0 in service mode: the
model's choice (DESIGN CHOICE, log entry 56). -/
def Dev.romStart (d : Dev) (service : Bool) (host : Option Nat) : Dev :=
  let g := d.on F.RST_STRAP_IO_G
  let d := (d.setB F.RST_BOOT_SERVICE (service || !g)).set F.RST_BOOT_CODE (if g then 0 else 7)
  ({ d with rst := { d.rst with rom := true, tries := 0, fwOk := false, bankBad := false, hostEnd := host, stream := 0, streamed := [] } } : Dev).wdtStart

/-- A whole boot begins (R111, R114): into core memory bank A, in service mode by strap or where a cold reset was left on service power
alone (R112, R120). -/
def Dev.bootStart (d : Dev) : Dev :=
  ((d.set F.RST_BOOT_BANK 0).set F.RST_BOOT_SLOT 0).romStart (d.rst.bySupply || d.get F.RST_STRAP_BOOTSEL == 3) d.hostDeadline

/-- The DEFAULTS of the SYS blocks written again after a warm reset, while the bitstream is kept (R121, R124). -/
def Dev.sysDefaults (d : Dev) : Dev :=
  if d.ready 1 then
    Dev.each (d.cfg.defaults.filter (fun x => decide (20 ≤ regionOf x.1) && regionOf x.1 != 21 && regionOf x.1 != 26))
      (fun x d => d.defaultWrite x) d
  else d

/-- The cold hold ends. -/
def Dev.coldRelease (d : Dev) (bootsel : Nat) (side : Bool) (io : Nat) : Dev :=
  let r := d.rst
  let held := match r.coldEnd with | some e => decide (d.now < e) | none => false
  if held || !(d.sup.a || d.sup.b || d.sup.s) then d
  else
    let d : Dev := { d with rst := { r with cold := false, porst := false, coldEnd := none, bySupply := d.svcPower, firstTick := d.tim } }
    (((d.sampleStraps bootsel side io).showSupply).bootStart).when d.loopClk Dev.linesRead

/-- The SYS hold ends: a warm boot, whose first act is to check the image in core memory whatever BOOTSEL reads, or a whole boot where no
fabric stands (R114). The SYS PLL must have relocked. -/
def Dev.warmRelease (d : Dev) (bootsel : Nat) (side : Bool) (io : Nat) : Dev :=
  let r := d.rst
  let held := match r.sysEnd with | some e => decide (d.now < e) | none => !d.on F.CLK_PLL_SYS_LOCK
  if held then d
  else
    let d : Dev := { d with rst := { r with sys := false, sysEnd := none, firstTick := d.tim } }
    let d := (d.sampleStraps bootsel side io).warmTrial
    if d.ready 1 then d.sysDefaults.romStart false none else d.bootStart

/-- A reset hold ends (R43). -/
def Dev.release (d : Dev) (bootsel : Nat) (side : Bool) (io : Nat) : Dev :=
  if d.rst.cold then d.coldRelease bootsel side io else if d.rst.sys then d.warmRelease bootsel side io else d

/-! ### The boot ROM (R111 to R114, R489) -/

/-- The slot that the boot record names for BOOTSEL; a slot on trial gets one cold boot and fails at the second (R489, R498). -/
def Dev.chooseSlot (d : Dev) : Dev :=
  let b := d.upd.boot
  let other := d.upd.other
  if !d.rst.rom || d.ready 1 then d
  else if d.get F.RST_STRAP_BOOTSEL = 2 then d.set F.RST_BOOT_SLOT (if b.state other = 0 then b.active else other)
  else if b.state other = 2 then
    if b.trialBoot = 0 then
      (d.modUpd (fun u => u.writeBoot { u.boot with trialBoot := 1 })).set F.RST_BOOT_SLOT other
    else
      let d := d.updSet (fun u => { u.writeBoot (u.boot.put other 4) with code := 0x26 })
      (d.note 3 0x1B0008 0 0x26).set F.RST_BOOT_SLOT b.active
  else d.set F.RST_BOOT_SLOT b.active

/-- A boot that fails: the other slot once, then service mode with the failure's code (R113). A warm boot whose reload fails enters service
mode with the fabric and its outputs as they stand: R113 and R112 have them off there, R105 lets only a cold reset turn power off, and the
model takes the latter (log entry 56). -/
def Dev.bootFail (d : Dev) (code : Nat) : Dev :=
  if d.rst.tries = 0 ∧ d.get F.RST_STRAP_BOOTSEL ≠ 1 then
    ({ d with rst := { d.rst with tries := 1, fwOk := false } } : Dev).set F.RST_BOOT_SLOT (1 - d.get F.RST_BOOT_SLOT)
  else
    (({ d with rst := { d.rst with fwOk := false } } : Dev).setB F.RST_BOOT_SERVICE true).set F.RST_BOOT_CODE code

/-- RST.BOOT.CODE of a firmware image that fails: the tag, the device or family, else the signature. -/
def bootCode (e : Nat) : Nat := if e = 6 then 2 else if e = 3 then 3 else 1

/-- Pages that the boot ROM has used given free (R442). -/
def Dev.romFree (d : Dev) (l : List Nat) : Dev := Dev.each l (fun p d => if d.own p = ownDev then d.setOwn p ownFree else d) d

/-- Whether a firmware image is what the host has put into the Drawer, in pages that are all DEVICE: the image's length stands in its header
(R442). -/
def Dev.hostFirmware (d : Dev) (c : Container) : Bool :=
  (List.range (min 16 ((c.hdr.length + 4095) / 4096))).all (fun p => d.own p == ownDev)
    && d.memBytes drawerBase (min 0x10000 c.len) == c.raw.take 0x10000

/-- Whether a container is the one whose pages the loader has taken from the Drawer so far (R140). -/
def Dev.hostStream (d : Dev) (c : Container) : Bool := (c.raw.take d.rst.streamed.length).isPrefixOf d.rst.streamed

/-- The pages of a host's bitstream that the loader needs before its checks end: all of a full container, one of which the header already
fails (R138, R140). -/
def Dev.hostPages (d : Dev) (o : Otp) (c : Container) : Nat := if (d.headFault o [1] c).isSome then 1 else 64

/-- Whether the boot ROM may load: reset released, and not in service mode. -/
def Dev.romRuns (d : Dev) : Bool := d.rst.rom && !d.rst.cold && !d.rst.sys && !d.service

/-- A firmware image read: accepted into its bank, or failed (R113, R114). The spec names bank A for a cold boot only; a warm reload is written
to the bank that RST.BOOT.BANK shows: the model's choice (DESIGN CHOICE, log entry 56). -/
def Dev.fwTake (d : Dev) (o : Otp) (c : Option Container) : Dev :=
  let e := match c with
    | some c => d.secFault o [3] c
    | none => some 1
  match e, c with
  | some e, _ => d.bootFail (bootCode e)
  | none, some c =>
    let d := d.memWrite (bankBase (d.get F.RST_BOOT_BANK)) c.image
    let d := if d.get F.RST_STRAP_BOOTSEL = 1 then d.romFree (List.range 16) else d
    { d with rst := { d.rst with fwOk := true } }
  | none, none => d

/-- The slot from which a warm boot reloads (R111, R114): as BOOTSEL says, but while a full bitstream is on trial the slot it runs from,
since a reload is no cold boot (log entry 56). -/
def Dev.reloadSlot (d : Dev) : Nat :=
  let b := d.upd.boot
  let other := d.upd.other
  if d.upd.tfull then d.get F.RST_BOOT_SLOT
  else if d.get F.RST_STRAP_BOOTSEL = 2 ∧ b.state other ≠ 0 then other
  else b.active

/-- A warm boot finds that the image in the core memory bank does not verify: the ROM reloads as BOOTSEL says (R114). -/
def Dev.bankFail (d : Dev) : Dev :=
  let d := d.setB F.RST_BOOT_SERVICE (d.get F.RST_STRAP_BOOTSEL == 3) |>.set F.RST_BOOT_SLOT d.reloadSlot
  { d with rst := { d.rst with bankBad := true, hostEnd := d.hostDeadline } }

/-- The boot ROM finishes reading a firmware image: on a warm boot the one in core memory first, and only where it does not verify one
from the source that BOOTSEL selects (R111, R114). The boot record is read before a slot of the storage ports. Without a trained storage
port an NVS boot fails with code 04h. -/
def Dev.firmwareLoad (d : Dev) (o : Otp) (i : Image) : Dev :=
  let host := d.get F.RST_STRAP_BOOTSEL == 1
  if !d.romRuns || d.rst.fwOk then d
  else match i with
    | .inBank ok =>
      if !d.ready 1 || d.rst.bankBad then d else if ok then { d with rst := { d.rst with fwOk := true } } else d.bankFail
    | .given c =>
      if !d.ready 26 || (d.ready 1 && !d.rst.bankBad) then d
      else if host then (if d.hostFirmware c then d.fwTake o (some c) else d)
      else if ¬ (d.trained 0 ∨ d.trained 1) then (d.bootFail 4).bootFail 4
      else if d.ready 25 then d.fwTake o (some c) else d
    | .stored =>
      if !d.ready 26 || (d.ready 1 && !d.rst.bankBad) || host then d
      else if ¬ (d.trained 0 ∨ d.trained 1) then (d.bootFail 4).bootFail 4
      else if d.ready 25 then d.fwTake o (d.upd.slot (d.get F.RST_BOOT_SLOT)).fw else d

/-- One page of the bitstream of a host boot taken, in container order through pages 16 to 63 as a ring, and given free (R140, R442). -/
def Dev.streamTake (d : Dev) : Dev :=
  let p := 16 + d.rst.stream % 48
  if d.romRuns && d.rst.fwOk && d.ready 26 && !d.ready 1 && d.get F.RST_STRAP_BOOTSEL == 1 && decide (d.rst.stream < 64)
      && d.own p == ownDev then
    let bytes := d.memBytes (drawerBase + 0x1000 * p) 0x1000
    let d := d.romFree [p]
    { d with rst := { d.rst with stream := d.rst.stream + 1, streamed := d.rst.streamed ++ bytes } }
  else d

/-- The loader ends its steps over a full bitstream: commit, or LOAD_ERR and the boot fails with code 05h (R138, R139). A host's bitstream
has by then come whole through the Drawer, page by page, and is what the pages held (R140). -/
def Dev.bitstreamLoad (d : Dev) (o : Otp) (i : Image) : Dev :=
  let host := d.get F.RST_STRAP_BOOTSEL == 1
  let c := match i with
    | .given c => some c
    | .stored => (d.upd.slot (d.get F.RST_BOOT_SLOT)).full
    | .inBank _ => none
  if !d.romRuns || !d.rst.fwOk || !d.ready 26 || d.ready 1 || (i == .stored && host)
      || (host && c.any (fun c => decide (d.rst.stream < d.hostPages o c) || !d.hostStream c)) then d
  else
    let e : Option Finding := match c with
      | some c => d.loadFault o c
      | none => some (1, 0, 0)
    match e, c with
    | some e, _ => (d.loadErr false e).bootFail 5
    | none, some c => d.commit c
    | none, none => d

/-- The boot ROM services the watchdog once more and passes control to the firmware (R108). A slot on trial begins its window (R496). -/
def Dev.handoff (d : Dev) : Dev :=
  if d.romRuns && d.rst.fwOk && d.ready 1 then
    let i := d.get F.RST_BOOT_SLOT
    let d := ({ d with rst := { d.rst with rom := false, hostEnd := none } } : Dev).wdtStart.set F.RST_BOOT_CODE 0
    if d.upd.boot.state i = 2 ∧ i = d.upd.other ∧ d.upd.st ≠ updTrial then
      (d.modUpd (fun u => { u with tfull := true, manifest := ((u.slot i).man).bind (·.manifest) })).trialStart
    else d
  else d

/-- A host boot with no complete image within 10 s (R140, R442). -/
def Dev.hostBootEnd (d : Dev) : Dev :=
  if d.romRuns && due d.rst.hostEnd d.now && !(d.rst.fwOk && d.ready 1) then
    (d.setB F.RST_BOOT_SERVICE true).set F.RST_BOOT_CODE 6
  else d

/-! ### READY_SET (R115, R119) -/

/-- The bits that can set on service power alone (R119). -/
def svcReady : List Nat := [0, 24, 26, 19, 22, 21, 18, 25]

/-- Whether the bitstream configures function `k`; an absent one keeps its bit at 0 (R115). -/
def Dev.present? (d : Dev) (k : Nat) : Bool :=
  match k with
  | 6 => d.hasShr
  | 7 => d.hasCap
  | 8 => d.hasEng
  | 9 => !d.cfg.strings.isEmpty
  | 14 => d.isDuplex
  | 15 => d.cfg.link.isSome
  | _ => true

/-- What a bit needs of its own, as far as the state shows it (R115); the command says that the rest is in place. -/
def Dev.ownNeeds (d : Dev) (k : Nat) : Bool :=
  match k with
  | 0 => d.on F.CLK_PLL_LOOP_LOCK && d.on F.CLK_PLL_SYS_LOCK && d.on F.CLK_PRESENT_LOOP && d.on F.CLK_PRESENT_SYS
  | 1 => d.on F.FAB_STATUS_LOADED
  | 4 => d.cfg.chans.all (fun c => c.owner == .unassigned || (d.chan c.chan).seen)
  | 5 => d.cfg.mons.all (fun m => (d.mon m.input).valid)
  | 6 => d.cfg.rects.all (fun c => (d.rect c.rect).asked)
  | 8 => d.cfg.ledger.caps.all (fun c => (d.mon c.vsense).valid) && d.cfg.ledger.inputs.all (fun c => (d.mon c.input).valid)
    && d.cfg.ledger.strings.all (fun s => (d.str s).est || (d.str s).absent)
  | 13 => (d.sensor 0).seen && (d.sensor 1).seen
  | 9 => d.cfg.strings.all (fun c => (d.str c.string).est || (d.str c.string).absent)
  | 14 => d.fifoOk 3 && (d.dpxState == dpxStandby || d.dpxState == dpxActive || d.dpxState == dpxSolo)
  | 15 => d.usedPorts.any (fun p => d.port p == portUp && d.fifoOk p)
  | 16 =>
    if d.cfg.link.isNone then true
    else d.ready 15 && (if d.linkCfg.root then d.timSt.listenEnd.isNone else d.on F.TIM_STATUS_SYNC)
  | 18 => d.evr.scanned
  | 19 => (d.trained 0 && d.fifoOk 4) || (d.trained 1 && d.fifoOk 5)
  | 20 => (d.sup.a || d.sup.b) && d.fifoOk 6
  | 24 => d.on F.CLK_PRESENT_PD
  | _ => true

/-- HSW READY for one slot: its seating inputs are read, and an enable that has waited takes effect (R116, R277, R278). -/
def Dev.slotsReady (d : Dev) (n : Nat) : Dev :=
  let d := d.seatRead n
  let d := if !d.seqOwned n && d.on (F.HSW_CTRL_EN n) then d.slotEnable n else d
  d.slotOnward n

/-- What follows when bit `k` sets. -/
def Dev.readyHook (d : Dev) (o : Otp) (k : Nat) : Dev :=
  match k with
  | 0 => d.modTim (fun t => { t with counts := true })
  | 2 => Dev.each (List.range 16) (fun n d =>
      if (d.bench n).startHeld && d.get (F.BEN_STATUS_STATE n) == 0 then d.prestartEnter n else d) d
  | 6 => d.shrStart
  | 8 => d.modEng (fun e => { e with auditAt := d.loop + d.effN F.ENG_AUDITCFG_PERIOD * sec })
  | 10 => d.groupReqs (d.get F.SEQ_AUTO_ON) 0
  | 11 => Dev.each d.cfg.slots (fun s d => d.slotsReady s.slot) d
  | 12 => d.raisePresent
  | 15 => if d.linkCfg.root then d.modTim (fun t => { t with listenEnd := some (d.now + 10 * ms) }) else d
  | 16 => d.timReady
  | 18 => d.evrStart
  | 19 => d.nvsStart
  | 23 => Dev.each (List.range 4) (fun x d => d.showBus x) d
  | 25 => (d.chooseSlot).showUpd
  | 26 => d.showOtp o
  | _ => d

/-- A READY bit sets once everything it needs is in place (R115). -/
def Dev.readySet (d : Dev) (o : Otp) (k : Nat) : Dev :=
  if d.rst.cold || d.rst.sys || d.ready k || decide (27 ≤ k) then d
  else if !(d.needs k ++ needsOnce k).all d.ready || !d.present? k || !d.ownNeeds k || (d.svcPower && !svcReady.contains k) then d
  else (d.readyOn k).readyHook o k

end Sys2Proof.Machine
end

