-- ==== Sys2Proof/Machine/Bus.lean ====
section
/-! DEFINITION. The register space as the bus masters see it: what a read returns and does, what a word written to a register of any
block does, who may write what, and an access that hangs (R7 to R13, R88 to R95, R117, R433, R443, R478, R500 to R506). -/

namespace Sys2Proof.Machine

/-! ### What a read returns -/

/-- PWM.p.STATUS. -/
def Dev.wPwmStatus (d : Dev) (p : Nat) : Nat :=
  let owner := match d.cfg.pins.find? (fun x => x.pin == p) with
    | some x => (match x.owner with | .bench n => n | _ => 0)
    | none => 0
  match d.phaseOfPin p with
  | some (n, i) =>
    match (d.bench n).phases[i]? with
    | some ph => (d.pinCond p).code + 8 + 16 * n + 256 * i + 2 ^ 13 * ph.switching.toNat + 2 ^ 14 * ph.shed.toNat
        + 2 ^ 15 * ph.dropped.toNat + 2 ^ 16 * (ph.switching && ph.offset != ph.goal).toNat
    | none => (d.pinCond p).code + 16 * owner
  | none => (d.pinCond p).code + 16 * owner

/-- A figure of the phase on a pin. -/
def Dev.pinFigure (d : Dev) (p : Nat) (f : Phase → Nat) : Nat :=
  match d.phaseOfPin p with
  | some (n, i) => (((d.bench n).phases[i]?).map f).getD 0
  | none => 0

/-- HSW.n.TIMERS: what remains of the retry timer and of the cool-off window (R291, R292). -/
def Dev.wHswTimers (d : Dev) (n : Nat) : Nat :=
  let s := d.slot n
  min 0xFFFF ((left s.retryEnd d.loop + 10 * ms - 1) / (10 * ms)) + 2 ^ 16 * min 0xFFFF ((left s.coolEnd d.loop + ms - 1) / ms)

/-- PRO's registers, which are computed from the raised sources. -/
def Dev.proRead (d : Dev) (o : Nat) : Option Nat :=
  if o = 0 then some d.wProStatus
  else if o = 4 then some d.wProUnack
  else if o = 8 then some d.wProForced
  else if o = 0xC then some d.wProLines
  else if o = 0x1C then some d.wProInfo
  else if o = 0x20 then some (((d.entryRaw (d.get F.PRO_SEL_SOURCE)).map (·.tag)).getD 0)
  else if 0x100 ≤ o ∧ o < 0x160 then some (d.wSticky ((o - 0x100) / 4))
  else if 0x200 ≤ o ∧ o < 0x260 then some (d.wAck ((o - 0x200) / 4))
  else if 0x300 ≤ o ∧ o < 0x360 then some (d.wEsc ((o - 0x300) / 4))
  else if 0x400 ≤ o ∧ o < 0x460 then some (d.wCause ((o - 0x400) / 4))
  else none

/-- Whether the SYS domain runs: no reset is held and its clock is present (R85, R105). -/
def Dev.sysRuns (d : Dev) : Bool := !d.rst.cold && !d.rst.sys && d.on F.CLK_PRESENT_SYS

/-- Whether an access of a master reaches the interconnect: SYS runs, and for the core that it runs. -/
def Dev.masterRuns (d : Dev) (m : Master) : Bool := d.sysRuns && (m != .core || d.coreRuns)

/-- Whether the two-wire target acknowledges: enabled, TWB READY, on the device that drives the shelf (R463). -/
def Dev.tgtOn (d : Dev) : Bool := d.sysRuns && d.ready 23 && d.on (F.TWB_CFG_TGT_EN 0) && d.drives

/-- Whether the device asserts TWA_ALERT_N (R463). -/
def Dev.tgtAlert (d : Dev) : Bool := d.tgtOn && d.on (F.TWB_CFG_ALERT_EN 0) && d.alertLevel && !d.target.answered

/-- Whether DMA channel 7 moves a page for EVR (R415, R443). What its descriptor holds meanwhile the spec does not give (log entry 76). -/
def Dev.evrMoves (d : Dev) : Bool := d.evr.pageBusy && !d.on F.EVR_STATUS_STALLED

/-- The registers whose words are computed when they are read; none for the others. -/
def Dev.viewRead (d : Dev) (a : Nat) : Option Nat :=
  let o := a % 0x10000
  match regionOf a with
  | 4 =>
    let n := o / 0x100
    match o % 0x100 with
    | 0x38 => some (d.wVref n)
    | 0x54 => some (d.wBenHeld n)
    | 0x80 => some (d.wSpcause n)
    | _ => none
  | 5 =>
    let p := o / 0x10
    match o % 0x10 with
    | 0 => some (d.wPwmStatus p)
    | 4 => some (d.pinFigure p (·.offset))
    | 8 => some (d.pinFigure p (·.on))
    | _ => none
  | 13 => if o < 0x400 ∧ o % 0x40 = 0x28 then some (d.wHswTimers (o / 0x40)) else none
  | 14 => d.proRead o
  | 15 => if o = 0x104 then some d.wRestLeft else none
  | 17 => if 0x100 ≤ o ∧ o < 0x184 then some (d.plainWord a + 2 ^ 24 * d.wNodeAge ((o - 0x100) / 4)) else none
  | 18 => if o = 0 then some (d.tim % 2 ^ 32) else none
  | 21 => if 0x2000 ≤ o ∧ o < 0x4000 then some (if d.ready 19 then d.vaultWord (o - 0x2000) else 0) else none
  | 22 => if o = 0xC then some d.wIrqStat else none
  | 24 =>
    if o = 4 then some (d.plainWord a + 2 ^ 15 * d.evrMoves.toNat)
    else if o = 0x1F0 then some (d.evrMoves.toNat + 32 * (d.evr.pageBusy && d.on F.EVR_STATUS_STALLED).toNat) else none
  | 25 => if o = 0x10 then some (d.plainWord a + 4 * d.tgtAlert.toNat) else none
  | 26 =>
    if o = 0 then some (clr (d.plainWord a) 1 + d.usbEn.toNat)
    else if o = 4 then some (d.showCpd.plainWord a) else none
  | 27 => if o = 0x10 then some (d.plainWord a + 2 ^ 16 * min 0xFFFF (left d.upd.trialEnd d.now / sec)) else none
  | _ => none

/-- The word at a register address (R9, R503, R504). -/
def Dev.readWord (d : Dev) (a : Nat) : Nat :=
  if 0x8000 ≤ a % 0x10000 then
    let s := a - 0x8000
    if d.hasCopy s && d.configured s then d.snWord s else 0
  else if !d.configured a then 0
  else match d.viewRead a with
    | some w => w % 2 ^ 32
    | none => d.plainWord a % 2 ^ 32

/-- The _HI register that a read of a _LO register latches, and the word it takes. -/
def Dev.latchOf (d : Dev) (a : Nat) : Option (Fld × Nat) :=
  match a with
  | 0xA001C => some (F.ENG_EAVAIL_HI_VALUE, d.eng.availHi)
  | 0xA0024 => some (F.ENG_EBAT_HI_VALUE, d.eng.batHi)
  | 0xA0044 => some (F.ENG_TWARN_HI_TICK, d.eng.warnHi)
  | 0x100014 => some (F.DPX_SWTICK_HI_TICK, d.dpx.swHi)
  | 0x120000 => some (F.TIM_NOW_HI_TICK, d.tim / 2 ^ 32)
  | 0x130008 => some (F.SNP_REF_HI_TICK, d.snap.refHi)
  | 0x130010 => some (F.SNP_LATCH_HI_TICK, d.snap.latHi)
  | _ =>
    if 0xB0000 ≤ a ∧ a < 0xB0100 ∧ a % 0x40 = 0x18 then
      let s := (a - 0xB0000) / 0x40
      some (F.BAT_EBAT_HI_VALUE s, ((d.strs[s]?).map (·.ebat)).getD 0 / 2 ^ 32)
    else none

/-- A register read with what it does besides: a _LO register latches its _HI register, EVR.NONCE0 draws a nonce (R420), and a storage
port's data port leaves a NOTE (R505). -/
def Dev.busRead (d : Dev) (a : Nat) : Dev × Nat :=
  if a = 0x154000 ∨ a = 0x154004 then (d.note 2 a 0 0, 0)
  else if a = 0x140060 ∧ d.ready 18 ∧ d.ready 26 then
    let d := d.nonceRead
    (d, d.readWord a)
  else
    let w := d.readWord a
    match d.latchOf a with
    | some (f, v) => if d.configured a then (d.set f v, w) else (d, w)
    | none => (d, w)

/-! ### What a write does, block by block -/

/-- CLK.CTRL (R12, R96, R104, R117): the rates are judged on the EN bits as they stand before the write; an enable is ignored before CLK
READY, locked or not. -/
def Dev.clkCtrl (d : Dev) (w : Nat) : Dev :=
  let a := 0x10008
  let d := (d.nvRate 0 (w.testBit 2)).nvRate 1 (w.testBit 3)
  let w := if d.on F.CLK_CTRL_LOCK then w else clr w 12 + 4 * d.get F.CLK_CTRL_NVA_RATE + 8 * d.get F.CLK_CTRL_NVB_RATE
  if d.goBlocked a w then d.goIgnored a w 3 else d.plainWrite a w

/-- RST.BLOCK (R107). A two-wire bus reset this way is found free; the command of its own says what SDA reads. -/
def Dev.rstBlock (d : Dev) (w : Nat) : Dev :=
  let d := Dev.each (List.range 2) (fun p d => if w.testBit p then d.blockNv p else d) d
  let d := Dev.each (List.range 3) (fun p d => if w.testBit (2 + p) then d.blockLink p else d) d
  let d := Dev.each (List.range 4) (fun x d => if w.testBit (5 + x) then d.blockTw x .high else d) d
  let d := if w.testBit 9 then d.blockHost else d
  if w.testBit 10 then d.blockCpd else d

/-- RST: CTRL, BLOCK, WDT and WDT_SVC (R105, R107 to R109); `debug` is the OTP's DEBUG fuse, without which DBG_FREEZE is not set. A
write of PERIOD leaves the running period as it is and holds from the next service on: the model's choice (log entry 52). -/
def Dev.rstBus (d : Dev) (debug : Bool) (a w : Nat) : Dev :=
  match a % 0x10000 with
  | 4 => d.rstCtrl w
  | 8 => d.rstBlock w
  | 0xC => (d.plainWrite a (if debug then w else clr w 0x400)).wdtFreeze
  | 0x10 => d.wdtService w
  | _ => d.plainWrite a w

/-- FAB: PLOAD and SWAP (R144, R145). What a GO's container carries comes with the commands of their own (log entry 33); which planes it
rewrites, should a reset stop it, is a free value here (R149). -/
def Dev.fabBus (d : Dev) (a w : Nat) : Dev :=
  if a = 0x30014 ∧ w.testBit 31 then
    ({ d with free := d.free + 1 } : Dev).partialGo (w % 64) (w / 256 % 32) (Config.loadPlanes d.free).toNat
  else if a = 0x30018 ∧ w.testBit 31 then d.swapWrite (w % 0x10000) 0
  else d.plainWrite a w

/-- EVR (R412, R415, R419, R420). -/
def Dev.evrBus (d : Dev) (m : Master) (a w : Nat) : Dev :=
  let o := a % 0x10000
  if o = 0 then
    if d.ready 18 then
      let d := d.plainWrite a (clr w 2)
      if w.testBit 1 then d.evrFlushNow else d
    else d.goIgnored a w 3
  else if o = 0x18 then d.readGo w
  else if o = 0x20 then d.clearGo m w
  else if o = 0x28 then d.fwRecord w
  else if 0x80 ≤ o ∧ o < 0xA0 then d.set (F.EVR_CLR_MAC_WORD ((o - 0x80) / 4)) w
  else if d.goBlocked a w then d.goIgnored a w (goMask a)
  else d.plainWrite a w

/-- NVS: the vault's words and the storage ports' data ports (R424, R505). -/
def Dev.nvsBus (d : Dev) (a w : Nat) : Dev :=
  let o := a % 0x10000
  if 0x2000 ≤ o ∧ o < 0x4000 then d.vaultUser ((o - 0x2000) / 4) w
  else if o = 0x4000 ∨ o = 0x4004 then d.note 2 a w 0
  else if d.ready 19 then d.plainWrite a w else d.goIgnored a w (goMask a)

/-- Whether a master counts as the host: the host port, the service port and the two-wire target (R478). -/
def Master.hostSide : Master → Bool
  | .host => true
  | .usb => true
  | .twt => true
  | _ => false

/-- HST.ACL0 or ACL1 written: a bit outside the bitstream's bound is held at 0, with a NOTE of kind 01h (R32, R125, R433). -/
def Dev.aclWrite (d : Dev) (f : Fld) (w : Nat) : Dev :=
  match d.boundOf f with
  | none => d.plainWrite f.addr w
  | some b =>
    let v := w &&& b.hi.toNat
    let d := d.plainWrite f.addr v
    if v = w || d.locked f.addr then d else d.note 1 f.addr w (d.plainWord f.addr)

/-- HST: the doorbells by side, the access list held to its bound, an enable ignored before HST READY (R117, R433, R434). -/
def Dev.hstBus (d : Dev) (m : Master) (a w : Nat) : Dev :=
  match a % 0x10000 with
  | 0x14 => d.bellWrite m.hostSide false w
  | 0x18 => d.bellWrite m.hostSide true w
  | 4 => d.aclWrite F.HST_ACL0_WR w
  | 8 => d.aclWrite F.HST_ACL1_WR w
  | _ => if d.goBlocked a w then d.goIgnored a w (goMask a) else d.plainWrite a w

/-- A channel's CTRL (R444, R446, R450). In one write RESUME goes before GO. -/
def Dev.dmaCtrl (d : Dev) (c w : Nat) : Dev :=
  let a := (F.DMA_CTRL_GO c).addr
  let d := d.plainWrite a (clr w 3 + d.get (F.DMA_CTRL_GO c))
  if w.testBit 1 then d.dmaResume c
  else if w.testBit 0 then d.dmaGo c
  else d.dmaStop c

/-- DMA (R117, R443, R444, R450): channel 7 belongs to EVR; the descriptor of a busy channel is not written. -/
def Dev.dmaBus (d : Dev) (a w : Nat) : Dev :=
  let o := a % 0x10000
  if d.goBlocked a w then d.goIgnored a w (goMask a)
  else if o = 0 then (if w.testBit 0 then d.dmaClear else d)
  else if 0x1E0 ≤ o ∧ o < 0x200 then d.note 2 a w (d.plainWord a)
  else if 0x100 ≤ o ∧ o < 0x1E0 then
    let c := (o - 0x100) / 0x20
    if o % 0x20 = 0xC then d.dmaCtrl c w
    else if o % 0x20 < 0xC ∧ d.on (F.DMA_STATUS_BUSY c) then d
    else d.plainWrite a w
  else d.plainWrite a w

/-- TWB (R454, R459). -/
def Dev.twbBus (d : Dev) (a w : Nat) : Dev :=
  if d.goBlocked a w then d.goIgnored a w (goMask a)
  else if a % 0x100 = 8 then
    let d := d.plainWrite a (clr w (2 ^ 31))
    if w.testBit 31 then d.twbGo (a / 0x100 % 0x100) else d
  else d.plainWrite a w

/-- UPD.CTRL (R493, R495, R499). INGEST through a register write waits for the container, which its own command brings. -/
def Dev.updCtrl (d : Dev) (w : Nat) : Dev :=
  let a := 0x1B0000
  if d.goBlocked a w then d.goIgnored a w (goMask a)
  else
    let d := d.plainWrite a (clr w 0x17)
    let d := if w.testBit 1 then d.activateWrite else d
    let d := if w.testBit 2 then d.handoverGo (w / 256 % 64) (w.testBit 14) else d
    if w.testBit 4 then d.abort else d

/-- SEC.PROGDATA: written by the debug port in service mode while PROVLOCK is not blown (R483). -/
def Dev.progDataWrite (d : Dev) (o : Otp) (m : Master) (k w : Nat) : Dev :=
  if m == .debug && d.service && !o.provLock then d.set (F.SEC_PROGDATA_DATA k) w else d

/-- A word written to a register of any block, by a master that may write it and whose access does not hang. -/
def Dev.busWrite (d : Dev) (o : Otp) (m : Master) (a w : Nat) : Dev × Otp :=
  let k := regionOf a
  if loopRegion k then (d.sysLoopWrite a w, o)
  else match k with
  | 1 => (if a = 0x10008 then d.clkCtrl w else d.plainWrite a w, o)
  | 2 => (d.rstBus o.debug a w, o)
  | 3 => (d.fabBus a w, o)
  | 17 => (d.loopWrite a w, o)
  | 20 => (d.evrBus m a w, o)
  | 21 => (d.nvsBus a w, o)
  | 22 => (d.hstBus m a w, o)
  | 23 => (if a = 0x170010 then d.winXfer m.hostSide w else d.plainWrite a w, o)
  | 24 => (d.dmaBus a w, o)
  | 25 => (d.twbBus a w, o)
  | 26 => (if a = 0x1A0000 then d.cpdCtrl w else d.plainWrite a w, o)
  | 27 => if a = 0x1B0000 then (d.updCtrl w, o) else if a = 0x1B0014 then d.confirm o m w else (d.plainWrite a w, o)
  | 28 =>
    if a = 0x1C0020 ∧ w.testBit 31 then d.secProg o m w
    else if 0x1C0040 ≤ a ∧ a < 0x1C00B0 then (d.progDataWrite o m ((a - 0x1C0040) / 4) w, o)
    else (d.plainWrite a w, o)
  | _ => (d.plainWrite a w, o)

/-! ### Who may write, and what hangs -/

/-- The regions that the service port may write in service mode (R478). -/
def serviceRegions : List Nat := [2, 20, 21, 23, 24, 26, 27]

/-- Whether the access list permits a region (R433). -/
def Dev.aclOk (d : Dev) (k : Nat) : Bool :=
  if k < 32 then d.bit F.HST_ACL0_WR k else decide (k < 64) && d.bit F.HST_ACL1_WR (k - 32)

/-- Whether an address of the register space names no register: one that the index does not list, or one of an instance that the bitstream
leaves unconfigured (R503, R504). -/
def Dev.noReg (d : Dev) (a : Nat) : Bool :=
  decide (a < 0x400000) && (!d.configured a || (rowAt a).isNone && !(decide (0x8000 ≤ a % 0x10000) && d.hasCopy (a - 0x8000)))

/-- Whether a master may write an address (R433, R465, R478, R501). A write to what is no register is no error for any master: it is
ignored (R504). -/
def Dev.mayWrite (d : Dev) (m : Master) (a : Nat) : Bool :=
  d.noReg a || match m with
  | .usb => if d.service then serviceRegions.contains (regionOf a) else d.aclOk (regionOf a)
  | .host => d.aclOk (regionOf a)
  | .twt => d.aclOk (regionOf a)
  | _ => decide (a < 0x400000)

/-- A register address as every master means it: the low two bits are ignored (R7, R433). -/
def wordAddr (a : Nat) : Nat := a / 4 * 4

/-- A state with its device and its fuses replaced. -/
def State.put (s : State) (x : Dev × Otp) : State := { s with dev := x.1, otp := x.2 }

/-- A register write by a master (R10, R30, R92, R433): none of a core that is stopped; refused with a NOTE where the master may not write, waiting where it hangs. -/
def State.regWrite (s : State) (m : Master) (a w : Nat) : State :=
  let a := wordAddr a
  let d := s.dev
  if !d.masterRuns m then s
  else if !d.mayWrite m a then s.onDev (fun d => d.noteDenied a w)
  else if d.hangs a then (if d.hung.isSome then s else s.onDev (fun d => { d with hung := some ⟨m, a, w⟩ }))
  else s.put (d.busWrite s.otp m a w)

end Sys2Proof.Machine
end

