-- ==== Sys2Proof/Machine/Transfer.lean ====
section
/-! DEFINITION. What DMA moves (R443 to R450), and the transactions of the three ports that carry register and Drawer requests: the
octal-SPI host, the service port and the two-wire target (R426 to R437, R463 to R466, R476 to R478). -/

namespace Sys2Proof.Machine

/-! ### DMA (R443 to R450) -/

/-- Whether a read or a write by DMA at a SYS bus address is a bus error (R448, R500). -/
def Dev.dmaBad (d : Dev) (a : Nat) (wr : Bool) : Bool :=
  !dmaTarget a wr || (match pageOf a with
    | some p => d.own p != ownDev
    | none => false)

/-- The word that DMA reads at a SYS bus address. What the capture ring's bytes are is a free value (log entry 8). -/
def Dev.dmaRead (d : Dev) (a : Nat) : Dev × Nat :=
  if a < 0x400000 then d.busRead a
  else if 0x30000000 ≤ a then
    let w := fromLe ((List.range 4).map (fun k => (Config.ringByte (d.free + k)).toNat))
    ({ d with free := d.free + 4 }, w)
  else (d, fromLe (d.memBytes a 4))

/-- A word that DMA writes to a memory: ignored in a bank that holds a staged image (R493). -/
def Dev.dmaStore (d : Dev) (a w : Nat) : Dev :=
  if d.bankLocked a then d.note 2 0x1B0008 w a else d.memWrite a (le 4 w)

/-- A word that DMA writes. -/
def State.dmaWrite (s : State) (a w : Nat) : State :=
  if a < 0x400000 then s.put (s.dev.busWrite s.otp .dma a w) else s.onDev (fun d => d.dmaStore a w)

/-- Where channel `c` reads and writes next. -/
def Dev.dmaAt (d : Dev) (c : Nat) : Nat × Nat :=
  let done := d.get (F.DMA_COUNT_BYTES c) - d.get (F.DMA_STATUS_REMAIN c)
  (d.get (F.DMA_SRC_ADDR c) + (if d.on (F.DMA_CTRL_SFIX c) then 0 else done),
   d.get (F.DMA_DST_ADDR c) + (if d.on (F.DMA_CTRL_DFIX c) then 0 else done))

/-- Whether channel `c` can move a word: busy, not waiting, bytes left. -/
def Dev.dmaMoves (d : Dev) (c : Nat) : Bool :=
  d.on (F.DMA_STATUS_BUSY c) && !d.on (F.DMA_STATUS_WAITOWN c) && d.get (F.DMA_STATUS_REMAIN c) != 0

/-- Whether channel `c` waits for a page before it writes there (R447). -/
def Dev.dmaWaits (d : Dev) (c a : Nat) : Bool :=
  d.on (F.DMA_CTRL_CIRC c) && d.on (F.DMA_CTRL_HANDOFF c) && (match pageOf a with
    | some p => d.own p != ownDev
    | none => false)

/-- The page of an address held by the engine that is about to write there. -/
def Dev.dmaHold (d : Dev) (a : Nat) : Dev :=
  match pageOf a with
  | some p => if d.engineHolds p then d else d.hold1 p true
  | none => d

/-- One word moved by channel `c` from an address to another, and its four bytes counted. -/
def State.dmaMove (s : State) (c src dst : Nat) : State :=
  let x := s.dev.dmaRead src
  (({ s with dev := x.1.dmaHold dst } : State).dmaWrite dst x.2).onDev
    (fun d => d.set (F.DMA_STATUS_REMAIN c) (d.get (F.DMA_STATUS_REMAIN c) - 4))

/-- A word of channel `c` whose write hangs: it has been read, and is held until the clock returns or a reset ends it (R92 to R94). -/
def State.dmaHang (s : State) (c src dst : Nat) : State :=
  if s.dev.dmaHeld.any (fun x => x.1 == c) then s
  else
    let x := s.dev.dmaRead src
    { s with dev := { x.1 with dmaHeld := x.1.dmaHeld ++ [(c, ⟨.dma, dst, x.2⟩)] } }

/-- One word moved by channel `c`, or its wait for a page, or the bus error that stops every channel. An access that hangs holds the
channel where it is (R94). -/
def State.dmaStep (s : State) (c : Nat) : State :=
  let d := s.dev
  let src := (d.dmaAt c).1
  let dst := (d.dmaAt c).2
  if !d.dmaMoves c then s
  else if d.dmaBad src false then s.onDev (fun d => d.dmaError src false)
  else if d.dmaWaits c dst then s.onDev (fun d => d.setB (F.DMA_STATUS_WAITOWN c) true)
  else if d.dmaBad dst true then s.onDev (fun d => d.dmaError dst true)
  else if decide (src < 0x400000) && d.hangs src then s
  else if decide (dst < 0x400000) && d.hangs dst then s.dmaHang c src dst
  else s.dmaMove c src dst

/-- At most `n` words moved by channel `c`. -/
def State.dmaRun (s : State) (c : Nat) : Nat → State
  | 0 => s
  | n + 1 => (s.dmaStep c).dmaRun c n

/-- The bytes after which HALF is reached: COUNT / 2, in whole words. -/
def Dev.dmaHalfAt (d : Dev) (c : Nat) : Nat := (d.get (F.DMA_COUNT_BYTES c) / 2 + 3) / 4 * 4

/-- The bytes that channel `c` has written in this pass. -/
def Dev.dmaDone (d : Dev) (c : Nat) : Nat := d.get (F.DMA_COUNT_BYTES c) - d.get (F.DMA_STATUS_REMAIN c)

/-- A channel that would next write a page it does not have waits for it (R447). -/
def Dev.dmaPark (d : Dev) (c : Nat) : Dev :=
  if d.dmaMoves c && d.dmaWaits c (d.dmaAt c).2 then d.setB (F.DMA_STATUS_WAITOWN c) true else d

/-- Channel `c` writes its first half: HALF, and under HANDOFF the first half's pages pass to HOST (R446, R447). -/
def State.dmaHalf (s : State) (c : Nat) : State :=
  let d := s.dev
  let goal := d.dmaHalfAt c
  if 7 ≤ c ∨ !d.on (F.DMA_STATUS_BUSY c) ∨ goal ≤ d.dmaDone c then s
  else
    let s := s.dmaRun c ((goal - d.dmaDone c) / 4)
    if s.dev.dmaDone c = goal ∧ s.dev.on (F.DMA_STATUS_BUSY c) then
      s.onDev (fun d => ((d.dmaHandoff c false).dmaEvent c (F.DMA_STATUS_HALF c)).dmaPark c)
    else s

/-- What follows a channel's last word: FULL, the second half's pages, and under CIRC the next pass (R446, R447). -/
def Dev.dmaFinish (d : Dev) (c : Nat) : Dev :=
  let d := (d.dmaHandoff c true).dmaEvent c (F.DMA_STATUS_FULL c)
  if d.on (F.DMA_CTRL_CIRC c) then (d.set (F.DMA_STATUS_REMAIN c) (d.get (F.DMA_COUNT_BYTES c))).dmaPark c else d.dmaIdle c

/-- Channel `c` writes the rest, once its first half is written (R446). -/
def State.dmaFull (s : State) (c : Nat) : State :=
  let d := s.dev
  if 7 ≤ c ∨ !d.on (F.DMA_STATUS_BUSY c) ∨ d.dmaDone c < d.dmaHalfAt c then s
  else
    let s := s.dmaRun c (d.get (F.DMA_STATUS_REMAIN c) / 4)
    if s.dev.get (F.DMA_STATUS_REMAIN c) = 0 ∧ s.dev.on (F.DMA_STATUS_BUSY c) then s.onDev (fun d => d.dmaFinish c) else s

/-- Channel `c` moves `n` words, with the HALF and FULL that they reach (R446). -/
def State.dmaProgress (s : State) (c n : Nat) : State :=
  let first := (s.dev.dmaHalfAt c - s.dev.dmaDone c) / 4
  let s := if 0 < first ∧ first ≤ n then (s.dmaHalf c).dmaRun c (n - first) else s.dmaRun c n
  if s.dev.get (F.DMA_STATUS_REMAIN c) = 0 then s.dmaFull c else s

/-- A bus error (R449): the words that each channel has moved by then, `progress`, are written, a channel whose last write is among them
completes with FULL (R451), and every other channel stops. -/
def State.dmaFail (s : State) (addr : Nat) (wr : Bool) (progress : List (Nat × Nat)) : State :=
  (progress.foldl (fun s x => s.dmaProgress x.1 x.2) s).onDev (fun d => if d.on F.DMA_GSTATUS_BUSERR then d else d.dmaError addr wr)

/-! ### Requests (R427 to R430) -/

/-- Status bits (R428). -/
def stBusy : Nat := 1

/-- DONE. -/
def stDone : Nat := 2

/-- DENIED. -/
def stDenied : Nat := 4

/-- DISCARD. -/
def stDiscard : Nat := 8

/-- The request that a command makes: its code, its address or arguments, its bytes. -/
def portReq : PortCmd → PortReq
  | .rdstat => { cmd := 0x05, addr := 0 }
  | .rdreg a => { cmd := 0x11, addr := wordAddr a }
  | .wrreg a w => { cmd := 0x12, addr := wordAddr a, word := w }
  | .rdwin o n => { cmd := 0x21, addr := wordAddr o, len := n }
  | .wrwin o b => { cmd := 0x22, addr := wordAddr o, bytes := b }
  | .xfer p f t => { cmd := 0x31, addr := p + 256 * f + 0x10000 * t }
  | .rdown => { cmd := 0x32, addr := 0 }
  | .unknown => { cmd := 0, addr := 0 }

/-- Whether a request reads, so that its result is held where it was answered BUSY (R429). -/
def PortReq.reads (r : PortReq) : Bool := r.cmd == 0x11 || r.cmd == 0x21 || r.cmd == 0x32

/-- How many bytes a request returns besides its status. -/
def PortReq.size (r : PortReq) : Nat :=
  if r.cmd = 0x11 then 4 else if r.cmd = 0x21 then r.len else if r.cmd = 0x31 then 1 else if r.cmd = 0x32 then 16 else 0

/-- The bytes of a read of the Drawer: inside its page while the host owns it, 0 beyond (R427, R437). -/
def Dev.winRead (d : Dev) (o n : Nat) : List Nat :=
  let m := min n (0x1000 - o % 0x1000)
  d.memBytes (drawerBase + o) m ++ List.replicate (n - m) 0

/-- The bytes of a write of the Drawer: whole words inside its page; what is discarded sets WDROP (R427). -/
def Dev.winWrite (d : Dev) (o : Nat) (b : List Nat) : Dev :=
  let m := min b.length (0x1000 - o % 0x1000) / 4 * 4
  let d := d.memWrite (drawerBase + o) (b.take m)
  if m < b.length then d.stick F.HST_HSTICKY_WDROP 1 else d

/-- Whether a request is refused: a register address outside the register space, a region not in the access list, a page that is not
HOST (R428, R433, R437, R501). -/
def Dev.reqDenied (d : Dev) (m : Master) (r : PortReq) : Bool :=
  match r.cmd with
  | 0x11 => decide (0x400000 ≤ r.addr)
  | 0x12 => !d.mayWrite m r.addr
  | 0x21 => decide (64 ≤ r.addr / 0x1000) || d.own (r.addr / 0x1000) != ownHost
  | 0x22 => decide (64 ≤ r.addr / 0x1000) || d.own (r.addr / 0x1000) != ownHost
  | _ => false

/-- Whether a request waits for a stopped clock: that of SYS, which carries every request, or that of its register's domain (R92). -/
def Dev.reqHangs (d : Dev) (r : PortReq) : Bool := !d.sysRuns || (r.cmd == 0x11 || r.cmd == 0x12) && d.hangs r.addr

/-- A request carried out: what it does, and the data it returns. -/
def State.reqDo (s : State) (m : Master) (r : PortReq) : State × List Nat :=
  match r.cmd with
  | 0x11 => let (d, w) := s.dev.busRead r.addr; ({ s with dev := d }, le 4 w)
  | 0x12 => (s.put (s.dev.busWrite s.otp m r.addr r.word), [])
  | 0x21 => (s, s.dev.winRead r.addr r.len)
  | 0x22 => (s.onDev (fun d => d.winWrite r.addr r.bytes), [])
  | 0x31 =>
    let (d, x) := s.dev.xfer true (r.addr % 64) (r.addr / 256 % 4) (r.addr / 0x10000 % 4) 0
    ({ s with dev := d }, [x])
  | 0x32 => (s, (List.range 4).flatMap (fun k => le 4 (s.dev.get (F.WIN_OWN_OWN k))))
  | _ => (s, [])

/-- The request slot of a port. -/
def Dev.slotOf (d : Dev) (m : Master) : ReqPort :=
  match m with
  | .host => d.hst
  | .usb => d.usb
  | _ => d.tgt

/-- The request slot of a port replaced; HST.STATUS shows the host's. -/
def Dev.setSlot (d : Dev) (m : Master) (p : ReqPort) : Dev :=
  match m with
  | .host =>
    let cmd := match p.pend, p.held with
      | some r, _ => r.cmd
      | none, some (r, _) => r.cmd
      | none, none => 0
    (({ d with hst := p } : Dev).setB F.HST_STATUS_PENDING p.pend.isSome).setB F.HST_STATUS_HELD p.held.isSome
      |>.set F.HST_STATUS_PCMD cmd
  | .usb => { d with usb := p }
  | _ => { d with tgt := p }

/-- The counters of HST. -/
def Dev.countHost (d : Dev) (m : Master) (st : Nat) : Dev :=
  if m == .host then
    let d := if st.testBit 0 then d.fwPulse 64 else d
    if st.testBit 2 then d.fwPulse 65 else d
  else d

/-- A transaction's request on a port's slot (R429, R430): its status bits 3:0 and its data. `inTime` says that a request that does not
hang ends within the transaction. -/
def State.request (s : State) (m : Master) (r : PortReq) (open_ inTime : Bool) : State × Nat × List Nat :=
  let p := s.dev.slotOf m
  let zero := List.replicate r.size 0
  if !open_ || p.pend.isSome then (s.onDev (fun d => d.countHost m stBusy), stBusy, zero)
  else match p.held.filter (fun h => h.1.cmd == r.cmd && h.1.addr == r.addr) with
    | some h => (s.onDev (fun d => d.setSlot m {}), stDone, (h.2 ++ zero).take r.size)
    | none =>
      let disc := if p.held.isSome then stDiscard else 0
      let s := s.onDev (fun d => d.setSlot m {})
      if s.dev.reqDenied m r then
        let s := s.onDev (fun d => if r.cmd = 0x21 ∨ r.cmd = 0x22 then d else d.noteDenied r.addr r.word)
        (s.onDev (fun d => d.countHost m stDenied), stDenied + disc, zero)
      else if s.dev.reqHangs r || !inTime then
        (s.onDev (fun d => (d.setSlot m { pend := some r }).countHost m stBusy), stBusy + disc, zero)
      else
        let (s, data) := s.reqDo m r
        (s, stDone + disc, data)

/-- What a request that was answered BUSY reads: an RDWIN reads on to the end of its page, since the transaction that collects the result
may take more bytes than the first (log entry 76). -/
def PortReq.whole (r : PortReq) : PortReq := if r.cmd = 0x21 then { r with len := 0x1000 - r.addr % 0x1000 } else r

/-- An outstanding request ends, once its clock runs: a read's result is held (R429). -/
def State.requestEnd (s : State) (m : Master) : State :=
  match (s.dev.slotOf m).pend with
  | none => s
  | some r =>
    if s.dev.reqHangs r then s
    else
      let s := s.onDev (fun d => d.setSlot m {})
      if s.dev.reqDenied m r then s
      else
        let (s, data) := s.reqDo m r.whole
        if r.reads then s.onDev (fun d => d.setSlot m { held := some (r, data) }) else s

/-! ### The host port (R426 to R430) -/

/-- The round trip of R91 to a register's domain, in picoseconds; `t` is the period of HSCK. No register of the index lies in the LINK, PEER
or RTC domain. -/
def Dev.roundTrip (d : Dev) (a t : Nat) : Nat :=
  let k := regionOf a
  let nv (rate : Fld) : Nat := if d.on rate then 52500 else 60000
  if k = 2 then 130000 else if k = 26 then 280000 else if loopRegion k then 45000
  else if a = 0x154000 then nv F.CLK_CTRL_NVA_RATE else if a = 0x154004 then nv F.CLK_CTRL_NVB_RATE
  else if a = 0x160100 then 3 * t + 30000 else 0

/-- Whether a request's internal time is no longer than the dummy period (R430); `t` is the HSCK period in picoseconds. -/
def Dev.inDummy (d : Dev) (r : PortReq) (t : Nat) : Bool :=
  let rt := if r.cmd = 0x11 ∨ r.cmd = 0x12 then d.roundTrip r.addr t else 0
  decide (6 * t + 10000 + rt ≤ d.get F.HST_CFG_DUMMY * t)

/-- The status byte with what every transaction shows (R428). -/
def Dev.statusByte (d : Dev) (st : Nat) : Nat :=
  st + 16 * d.get F.HST_HSTICKY_WDROP + 32 * d.hostIrq.toNat + 64 * d.get F.HST_HSTICKY_RESET

/-- An answer given out on a port: 0 the host port, 1 the two-wire target, 2 the service port, 3 the register tunnel. -/
def Dev.answer (d : Dev) (port : Nat) (bytes : List Nat) : Dev := { d with out := d.out ++ [.reply port bytes] }

/-- HST.H_LAST. -/
def Dev.hostLast (d : Dev) (r : PortReq) : Dev :=
  (d.set F.HST_H_LAST_CMD r.cmd).set F.HST_H_LAST_ADDR (r.addr % 0x1000000)

/-- HST.H_LAST after an unknown or cut-short command: the byte and the address that were seen are free values, since the row of the table
gives neither. -/
def Dev.hostStray (d : Dev) : Dev :=
  let x := (Config.strayCommand d.free).toNat
  { (d.set F.HST_H_LAST_CMD (x % 256)).set F.HST_H_LAST_ADDR (x / 256) with free := d.free + 1 }

/-- A transaction of the host (R427). HST answers nothing while the device is in a cold reset (R432) or has service power alone, where the
host group is high impedance; under a warm reset it is BUSY (R50). The status byte goes out ahead of the bytes that a WRWIN brings, so that it shows WDROP as it stood before them; an RDSTAT is
not counted among the transactions answered BUSY (log entry 76). -/
def State.hostTxn (s : State) (c : PortCmd) (t : Nat) : State :=
  let r := portReq c
  if s.dev.rst.cold || !(s.dev.sup.a || s.dev.sup.b) then s
  else match c with
  | .rdstat =>
    s.onDev (fun d =>
      let st := if d.hst.pend.isSome || !d.ready 20 then stBusy else 0
      (d.hostLast r).answer 0 [d.statusByte st])
  | .unknown => s.onDev (fun d => d.hostStray.fwPulse 66)
  | _ =>
    let s := s.onDev (fun d => d.hostLast r)
    let wdrop := s.dev.get F.HST_HSTICKY_WDROP
    let (s, st, data) := s.request .host r (s.dev.ready 20) (s.dev.inDummy r t)
    s.onDev (fun d => d.answer 0 ((d.statusByte st - 16 * d.get F.HST_HSTICKY_WDROP + 16 * wdrop) :: data))

/-! ### The service port (R476 to R478) -/

/-- A bulk OUT transfer with a command; the matching IN transfer collects its status and data. -/
def State.usbOut (s : State) (c : PortCmd) : State :=
  let on := s.dev.usbOn && s.dev.on F.CPD_STATUS_USBCFG
  if !on || !s.dev.sysRuns then s
  else match c with
  | .rdstat =>
    s.onDev (fun d => d.modCpd (fun x => { x with reply := some [d.statusByte (if d.usb.pend.isSome then stBusy else 0)] }))
  | .unknown => s
  | _ =>
    let (s, st, data) := s.request .usb (portReq c) true true
    s.onDev (fun d => d.modCpd (fun x => { x with reply := some (d.statusByte st :: data) }))

/-- A bulk IN transfer: the status byte and the data of the last command, once. -/
def Dev.usbIn (d : Dev) : Dev :=
  match d.cpd.reply with
  | some b => (d.modCpd (fun x => { x with reply := none })).answer 2 b
  | none => d

/-! ### The two-wire target (R463 to R466) -/

/-- What the target holds, changed. -/
def Dev.modTgt (d : Dev) (f : Target → Target) : Dev := { d with target := f d.target }

/-- An answer of the target, where it acknowledges. -/
def Dev.tgtAnswer (d : Dev) (b : List Nat) : Dev := if d.tgtOn then d.answer 1 b else d

/-- A protocol error or a wrong PEC (R464, R466). -/
def Dev.tgtError (d : Dev) : Dev := if d.tgtOn then d.inc (F.TWB_PROTO_ERR_COUNT 0) else d

/-- A Block Write to REG_ADDR. -/
def Dev.tgtSetAddr (d : Dev) (a : Nat) (pecOk : Bool) : Dev :=
  if !d.tgtOn then d else if pecOk then d.modTgt (fun t => { t with addr := a }) else d.tgtError

/-- A request of the target: its status is kept for REG_STAT. -/
def State.tgtRequest (s : State) (c : PortCmd) : State × List Nat :=
  let (s, st, data) := s.request .twt (portReq c) true true
  (s.onDev (fun d => d.modTgt (fun t => { t with stat := st })), st :: data)

/-- A Block Read of REG_DATA: status and four bytes. -/
def State.tgtRead (s : State) : State :=
  if s.dev.tgtOn then
    let (s, b) := s.tgtRequest (.rdreg s.dev.target.addr)
    s.onDev (fun d => d.answer 1 (b.length :: b))
  else s

/-- A Block Write of REG_DATA. -/
def State.tgtWrite (s : State) (w : Nat) (pecOk : Bool) : State :=
  if !s.dev.tgtOn then s
  else if pecOk then (s.tgtRequest (.wrreg s.dev.target.addr w)).1
  else s.onDev (·.tgtError)

/-- The target's outstanding request ends. -/
def State.tgtDone (s : State) : State :=
  if (s.dev.tgt.pend.isSome) then
    let s := s.requestEnd .twt
    if s.dev.tgt.pend.isSome then s else s.onDev (fun d => d.modTgt (fun t => { t with stat := stDone }))
  else s

/-- The Alert Response Address: the target answers with its address and releases the line. -/
def Dev.tgtRespond (d : Dev) : Dev :=
  if d.tgtAlert then (d.modTgt (fun t => { t with answered := true })).answer 1 [2 * d.get (F.TWB_CFG_TADDR 0)] else d

/-- SCL low for 25 ms: the target's logic is reset; a request under way in the device runs on (R466). -/
def Dev.tgtReset (d : Dev) : Dev :=
  ({ d with tgt := { pend := d.tgt.pend } } : Dev).modTgt (fun t => { t with addr := 0, stat := 0 })

/-! ### The register tunnel as its target (R397) -/

/-- A TUNNEL request is carried out and answered; a pair's request is taken by the device that drives. -/
def State.tunnelIn (s : State) (write : Bool) (a w : Nat) : State :=
  let a := wordAddr a
  if !s.dev.ready 15 || !s.dev.linkOpen || !s.dev.drives || s.dev.hangs a || !s.dev.sysRuns then s
  else if write then
    (s.regWrite .tunnel a w).onDev (fun d => d.tunnelAnswer 0)
  else if 0x400000 ≤ a then s.onDev (fun d => (d.noteDenied a 0).tunnelAnswer 0)
  else
    let (d, v) := s.dev.busRead a
    { s with dev := d.tunnelAnswer v }

end Sys2Proof.Machine
end

