-- ==== Sys2Proof/Machine/Tick.lean ====
section
/-! DEFINITION. What happens where no command waits: one LOOP tick (log entry 2). And the two conditions under which events reach
the blocks of LOOP and of SYS. -/

namespace Sys2Proof.Machine

/-- Whether the LOOP domain runs: no cold reset holds, and its clock runs (R24, R86, R105). -/
def Dev.loopRuns (d : Dev) : Bool := !d.rst.cold && d.loopClk

/-- What follows every event of LOOP: SEQ sees the Benches and slots, ENG the conditions of an input loss (R236, R237, R258). -/
def Dev.settle (d : Dev) : Dev := d.seqSettle.engTrack

/-- An event of the LOOP domain, and what follows it: nothing happens there in a cold reset or with its clock stopped. -/
def State.loopDo (f : Dev → Dev) (s : State) : State := s.onDev (Dev.when s.dev.loopRuns (fun d => (f d).settle))

/-- An event of the SYS domain: nothing happens there while it is held in reset. -/
def State.sysDo (f : Dev → Dev) (s : State) : State := s.onDev (Dev.when s.dev.sysRuns f)

/-- An event of the port controller, whose domain is held in a cold reset only. -/
def State.pdDo (f : Dev → Dev) (s : State) : State := s.onDev (Dev.when (!s.dev.rst.cold) f)

/-- A SYS event that may touch more than the device. -/
def State.whenSys (f : State → State) (s : State) : State := if s.dev.sysRuns then f s else s

/-- A SYS event that gives the device and the fuses anew. -/
def State.sysBoth (f : Dev → Dev × Otp) (s : State) : State := if s.dev.sysRuns then s.put (f s.dev) else s

/-- A write of 1 to the LOCK bit that governs an address, every other bit of its register kept (R12). An address under no LOCK bit has
none to write. -/
def State.lockSet (s : State) (addr : Nat) : State :=
  match lockOf addr with
  | some f => s.regWrite .core f.addr (s.dev.wordWith f 1)
  | none => s

/-- The word that hands the core over at an entry page: UPD.CTRL with HANDOVER, HOPAGE and HOVALID (R495). -/
def Dev.handoverWord (d : Dev) (page : Nat) (valid : Bool) : Nat :=
  clr (d.wordWith F.UPD_CTRL_HANDOVER 1) 0x7F00 + 256 * page + 2 ^ 14 * valid.toNat

/-- One item of the duplex partner consumed at its use tick (R358, R359). -/
def Dev.peerItem (d : Dev) : PeerItem → Dev
  | .write a w => if a = 0x30018 ∧ w.testBit 31 then d.swapGo (w % 0x10000) 0 else d.loopWrite a w
  | .swap n reason => d.partnerSwap n reason
  | .handover => d.handoverItem
  | .time t => d.setTime t
  | .trip n => d.partnerTrip n
  | .adc c code => d.adcResult c code
  | .mon i code => d.monResult i code
  | .hvm h v => d.hvmResult h v
  | .cmp x below above => d.cmpTake x below above
  | .shunt n code lanes => d.shuntResult n code lanes
  | .volt n vs vds enh => d.voltResult n vs vds enh
  | .therm n v => d.thmReading n v
  | .bat s uA dt v ta tb => d.batResult s uA dt v ta tb
  | .coarse s uA => d.coarse s uA
  | .seat n a b => d.seating n a b
  | .poll r answer => d.pollDone r answer
  | .regs l => d.takeRegs l
  | .planes l => d.takePlanes l
  | .sources l => d.takeSources l

/-- A value or a pin input that arrives in LOOP (R26, R359, R360, R365): taken at once by a simplex device. A duplex device puts what it sources into
its frames and takes it 32 ticks later; of the others' it takes its own converters' values, 32 ticks later too (R362), only out of lockstep. -/
def Dev.arrives (d : Dev) (i : PeerItem) : Dev :=
  if !d.isDuplex then d.peerItem i
  else
    let own := d.sourcesItem i
    let d := if own then d.tell i else d
    if own || !d.inLockstep then d.queueItem (d.loop + 32) i else d

/-- A temperature reading: the one that SAFE watches by itself is taken at once, whatever LOOP does; the others arrive as LOOP's inputs do (R349, R360). -/
def Dev.thmTake (d : Dev) (n : Nat) (v : Int) : Dev := if n = 1 then d.thmReading n v else d.arrives (.therm n v)

/-- The items whose use tick has come, in the order in which they arrived, each with what follows an event of LOOP. -/
def Dev.peerItems (d : Dev) : Dev :=
  let now := d.loop
  let l := d.dpx.items.filter (fun i => decide (i.1 ≤ now))
  Dev.each l (fun i d => (d.peerItem i.2).settle)
    (d.modDpx (fun x => { x with items := x.items.filter (fun i => !decide (i.1 ≤ now)) }))

/-- One tick of LOOP: its counter, what PRO judges against (R331), TIM's counter once CLK READY has set (R121), the lane tests, the Dowels and the rails that they form, the first failure
of the last tick, the partner's items, what ENG watches, the self-verdict and the digest. -/
def Dev.loopTick (d : Dev) : Dev :=
  let d := { d with loop := d.loop + 1, proStart := d.raised, proNow := [] }
  let d := (if d.timSt.counts then d.timTick else d).mirrorTick.clampTrips
  ((d.alertTick.laneTick.kerfTick.dowelTick.condSettle.firstFailPut).nlBound.dpxTick.peerItems).auditTick.engTrack.killCheck.showSelf.digTick

/-- One tick of SYS: a buffered core write drains, a recorder page that is wanted is begun, the loader takes a page of a host's bitstream, UPD one
of a container, and a handover changes the bank (R140, R415, R439, R490, R495). -/
def Dev.sysTick (d : Dev) : Dev := d.drainOne.pageTry.streamTake.ingestTake.bankTick

/-- A SYS cycle is two ticks; with a new one the hardware sets of the last no longer meet a clear (R11, R85). That cycles begin at even
ticks is the model's choice (log entry 2). -/
def Dev.nextCycle (d : Dev) : Dev := if d.now % 2 = 0 then { d with fresh := [], freshSrc := [] } else d

/-- One tick of 5 ns (R16): what was given out in the last one is taken, each domain that runs takes its step, and the ports send. -/
def Dev.tick (d : Dev) : Dev :=
  let d := ({ d with now := d.now + 1, out := [] } : Dev).nextCycle
  let d := if d.loopRuns then d.loopTick else d
  let d := if d.sysRuns then d.sysTick else d
  if d.rst.cold then d else d.txTick

/-- The state after a tick on an empty queue. -/
def State.tick (s : State) : State := s.onDev Dev.tick

end Sys2Proof.Machine
end

