-- ==== Sys2Proof/Machine/EventBattery.lean ====
section
/-! DEFINITION. The meanings of the commands of the battery strings: one definition for each row, over the shared operations. -/

namespace Sys2Proof.Machine

/-- A coulomb-counter result arrives, and BAT updates the charge, the uncertainty, the limits and the permissions (R298). -/
def execBatResult (n : Fin 4) (uA : Int) (dt : Nat) (v : Nat) (ta : Nat) (tb : Nat)
    (s : State) : Host.Outcome State Fault Refusal :=
  .next (s.loopDo (fun d => d.arrives (.bat n uA dt v ta tb)))

/-- Rest for TREST re-anchors s_c to OCV and resets the reference age (R300). -/
def execRestReference (n : Fin 4) (s : State) : Host.Outcome State Fault Refusal :=
  .next (s.loopDo (fun d => d.restReference n))

/-- Full conditions for 10 min anchor s_c at 1.0 (R300). -/
def execFullReference (n : Fin 4) (s : State) : Host.Outcome State Fault Refusal :=
  .next (s.loopDo (fun d => d.fullReference n))

/-- Steady load for 10 min allows an IR-corrected reference (R300). -/
def execIrReference (n : Fin 4) (s : State) : Host.Outcome State Fault Refusal :=
  .next (s.loopDo (fun d => d.irReference n))

/-- 7 days without a rest reference set REF_STALE and raise REFSTALE (R301). -/
def execRefStaleExpiry (n : Fin 4) (s : State) : Host.Outcome State Fault Refusal :=
  .next (s.loopDo (fun d => d.refStale n))

/-- A write of BAT.n.CTRL.REST asks for a rest by forbidding charge (R302). -/
def execRestRequest (n : Fin 4) (v : Bool) (s : State) : Host.Outcome State Fault Refusal :=
  .next (s.regWrite .core (F.BAT_CTRL_REST n).addr (s.dev.wordWith (F.BAT_CTRL_REST n) v.toNat))

/-- A rest request standing for 2 hours ends and the permission byte is restored (R302). -/
def execRestRequestTimeout (n : Fin 4) (s : State) : Host.Outcome State Fault Refusal :=
  .next (s.loopDo (fun d => d.restTimeout n))

/-- Every 1 s, the permission byte is written again to the string unit (R307). -/
def execPermissionRepeat (n : Fin 4) (s : State) : Host.Outcome State Fault Refusal :=
  .next (s.loopDo (fun d => d.permRepeat n))

/-- Charge current above IREST for 10 s while forbidden raises CHGFORBID (R307). -/
def execChgforbidExpiry (n : Fin 4) (s : State) : Host.Outcome State Fault Refusal :=
  .next (s.loopDo (fun d => d.chgForbid n))

/-- Both thermistors inside the narrowed range for 60 s permit charge again (R306). -/
def execChargeRepermit (n : Fin 4) (s : State) : Host.Outcome State Fault Refusal :=
  .next (s.loopDo (fun d => d.chargeRepermit n))

/-- BVnn below 10 % of VFLOOR for 10 ms marks the string absent (R311). -/
def execStringAbsent (n : Fin 4) (s : State) : Host.Outcome State Fault Refusal :=
  .next (s.loopDo (fun d => d.strAbsent n))

/-- BVnn above the level for 10 ms marks the string present again (R311). -/
def execStringPresent (n : Fin 4) (s : State) : Host.Outcome State Fault Refusal :=
  .next (s.loopDo (fun d => d.strPresent n))

/-- A write of NEWSTRING declares a new string and starts a first estimate (R312). -/
def execNewstringWrite (n : Fin 4) (s : State) : Host.Outcome State Fault Refusal :=
  .next (s.regWrite .core (F.BAT_CTRL_NEWSTRING n).addr (s.dev.wordWith (F.BAT_CTRL_NEWSTRING n) 1))

/-- After 100 ms of results, the first estimate of a string is made (R312). -/
def execFirstEstimate (n : Fin 4) (s : State) : Host.Outcome State Fault Refusal :=
  .next (s.loopDo (fun d => d.firstEstimate n))

/-- Every 250 us, the coulomb converter's coarse check finds the current at or above ISLOW and returns the converter to 250 us
results (R298). -/
def execCoarseMagnitudeCheck (n : Fin 4) (uA : Int) (s : State) : Host.Outcome State Fault Refusal :=
  .next (s.loopDo (fun d => d.arrives (.coarse n uA)))

end Sys2Proof.Machine
end

