-- ==== Sys2Proof/Machine/EventBench.lean ====
section
/-! DEFINITION. The meanings of the commands of the Benches: one definition for each row, over the shared operations. -/

namespace Sys2Proof.Machine

/-- A Bench update window closes and the Bench computes and delivers its duty commands (R160). -/
def execBenchUpdate (n : Fin 16) (s : State) : Host.Outcome State Fault Refusal :=
  .next (s.loopDo (fun d => d.benchUpdate n))

/-- LIMITING stays set for longer than LIMT and LIMTIME is raised (R191). -/
def execLimtimeExpiry (n : Fin 16) (s : State) : Host.Outcome State Fault Refusal :=
  .next (s.loopDo (fun d => d.limtime n))

/-- A START from SEQ moves an OFF Bench into PRESTART (R165). -/
def execBenchStart (n : Fin 16) (s : State) : Host.Outcome State Fault Refusal :=
  .next (s.loopDo (fun d => d.benchStart n))

/-- A STOP moves a Bench to OFF or STOPPING from its present VR (R165). -/
def execBenchStop (n : Fin 16) (s : State) : Host.Outcome State Fault Refusal :=
  .next (s.loopDo (fun d => d.benchStop n))

/-- The bias window is judged at e + PS_BIAS + 10 for current and sense faults (R185). -/
def execPrestartBiasJudge (n : Fin 16) (s : State) : Host.Outcome State Fault Refusal :=
  .next (s.loopDo (fun d => d.prestartJudge n))

/-- The low-side test pulse of the next tested phase begins (R186). -/
def execPrestartPulse (n : Fin 16) (s : State) : Host.Outcome State Fault Refusal :=
  .next (s.loopDo (fun d => d.prestartPulse n))

/-- The test passes at t0 + k*P and the Bench enters RAMP (R186). -/
def execPrestartPass (n : Fin 16) (s : State) : Host.Outcome State Fault Refusal :=
  .next (s.loopDo (fun d => d.prestartPass n))

/-- VR reaches VT, so a RAMP Bench enters REG or SLEWING clears (R166). -/
def execRampReached (n : Fin 16) (s : State) : Host.Outcome State Fault Refusal :=
  .next (s.loopDo (fun d => d.rampReached n))

/-- VR reaches the plane's stop floor and the Bench's final Z update begins (R165). -/
def execStopFloorReached (n : Fin 16) (s : State) : Host.Outcome State Fault Refusal :=
  .next (s.loopDo (fun d => d.stopFloor n))

/-- A BEN.n.VSET write retargets the ramp from its present position (R167). -/
def execVsetWrite (n : Fin 16) (w : Nat) (s : State) : Host.Outcome State Fault Refusal :=
  .next (s.regWrite .core (F.BEN_VSET_VSET n).addr w)

/-- A BEN.n.MARGIN write changes VT, and SEQ's write wins within the same tick (R168). -/
def execMarginWrite (n : Fin 16) (w : Nat) (bySeq : Bool) (s : State) : Host.Outcome State Fault Refusal :=
  .next (if bySeq then s.loopDo (fun d => d.marginBySeq n w) else s.regWrite .core (F.BEN_MARGIN_MARGIN n).addr w)

/-- A SLEW write changes the ramp rate from the next tick (R167). -/
def execSlewWrite (n : Fin 16) (w : Nat) (s : State) : Host.Outcome State Fault Refusal :=
  .next (s.regWrite .core (F.BEN_SLEW_SLEW n).addr w)

/-- A BEN.n.PERIOD write takes effect at the next update boundary (R155). -/
def execPeriodWrite (n : Fin 16) (w : Nat) (s : State) : Host.Outcome State Fault Refusal :=
  .next (s.regWrite .core (F.BEN_PERIOD_PERIOD n).addr w)

/-- A W1C of BEN.n.PHDROP clears drop marks only while the Bench is OFF (R182). -/
def execPhdropClear (n : Fin 16) (w : Nat) (s : State) : Host.Outcome State Fault Refusal :=
  .next (s.regWrite .core (F.BEN_PHDROP_DROP n).addr w)

/-- A write to OVP, UVP or their debounce rewrites the window thresholds in the tick it lands (R194). -/
def execOvuvWrite (n : Fin 16) (deb : Bool) (w : Nat) (s : State) : Host.Outcome State Fault Refusal :=
  .next (s.regWrite .core (if deb then (F.BEN_OCCFG_OV_DB n).addr else (F.BEN_OVUV_OVP n).addr) w)

/-- A current-sense result reaches every LOOP consumer 10 ticks after its sample (R73). -/
def execAdcResult (ch : Fin 32) (code : Int) (s : State) : Host.Outcome State Fault Refusal :=
  .next (s.loopDo (fun d => d.arrives (.adc ch code)))

/-- A phase limited in PHOC_N consecutive periods raises PHOC (R190). -/
def execPhocCount (n : Fin 16) (p : Fin 32) (s : State) : Host.Outcome State Fault Refusal :=
  .next (s.loopDo (fun d => d.phocCount n p))

/-- A crossing of the Bench's feedback band starts a nonlinear event on every phase (R171). -/
def execNlEventStart (n : Fin 16) (under : Bool) (s : State) : Host.Outcome State Fault Refusal :=
  .next (s.loopDo (fun d => d.nlStart n under))

/-- The nonlinear event ends when the comparator clears or NLMAX ticks pass (R171). -/
def execNlEventEnd (n : Fin 16) (s : State) : Host.Outcome State Fault Refusal :=
  .next (s.loopDo (fun d => d.nlEnd n))

/-- A phase's period counter reaches its next period start, placing its HIGH edge and applying new duty, offset shift, shedding to
Z or addition (R156). -/
def execPwmPeriodStart (pin : Fin 32) (s : State) : Host.Outcome State Fault Refusal :=
  .next (s.loopDo (fun d => d.periodStart pin))

end Sys2Proof.Machine
end

