-- ==== Sys2Proof/Machine/EventBoot.lean ====
section
/-! DEFINITION. The meanings of the commands of the boot ROM: one definition for each row, over the shared operations. -/

namespace Sys2Proof.Machine

/-- The boot ROM finishes reading a firmware image and checks its signature, tag and identity (R113). -/
def execFirmwareLoad (img : Image) (s : State) : Host.Outcome State Fault Refusal :=
  .next (s.onDev (fun d => d.firmwareLoad s.otp img))

/-- The loader completes the steps of a full bitstream load and commits it (R138). -/
def execBitstreamLoad (img : Image) (s : State) : Host.Outcome State Fault Refusal :=
  .next (s.onDev (fun d => d.bitstreamLoad s.otp img))

/-- The boot ROM services the watchdog once more and passes control to the firmware (R108). -/
def execBootHandoff (s : State) : Host.Outcome State Fault Refusal :=
  .next (s.onDev (fun d => d.handoff))

/-- A host boot gets no complete image within 10 s, so RST.BOOT.CODE reads 06h (R140). -/
def execHostBootTimeout (s : State) : Host.Outcome State Fault Refusal :=
  .next (s.onDev (fun d => d.hostBootEnd))

/-- A pulse-handshake acknowledge completes, and the next transfer starts carrying the counter's value (R100). -/
def execPulseTransferDone (j : Fin 68) (s : State) : Host.Outcome State Fault Refusal :=
  .next (if 64 ≤ j.val ∧ j.val < 67 then s.sysDo (fun d => d.pulseDone j) else s.loopDo (fun d => d.pulseDone j))

end Sys2Proof.Machine
end

