-- ==== Sys2Proof/Machine/EventCap.lean ====
section
/-! DEFINITION. The meanings of the commands of the power cap: one definition for each row, over the shared operations. -/

namespace Sys2Proof.Machine

/-- At each sample tick, CAP forms P_draw, P_load and P_B and sets i_ceil (R214). -/
def execCapSample (s : State) : Host.Outcome State Fault Refusal :=
  .next (s.loopDo (fun d => d.capSample))

/-- THRSTEP passes and one further throttle group is asserted (R216). -/
def execCapThrstepExpiry (s : State) : Host.Outcome State Fault Refusal :=
  .next (s.loopDo (fun d => d.thrExpiry))

/-- SHEDDELAY passes with the excess remaining, so shedding begins (R216). -/
def execCapSheddelayExpiry (s : State) : Host.Outcome State Fault Refusal :=
  .next (s.loopDo (fun d => d.shedExpiry))

/-- P_need stays below the release level for RELEASE ms, and one step item is released (R220). -/
def execCapReleaseExpiry (s : State) : Host.Outcome State Fault Refusal :=
  .next (s.loopDo (fun d => d.capRelease))

/-- MISS, or P_draw over the cap, lasts 10 ms and raises CAPMISS (R221). -/
def execCapmissTimer (s : State) : Host.Outcome State Fault Refusal :=
  .next (s.loopDo (fun d => d.capMiss))

/-- A CAP.FORCE write adds or removes software throttle and shed requests (R225). -/
def execCapForceWrite (w : Nat) (s : State) : Host.Outcome State Fault Refusal :=
  .next (s.regWrite .core F.CAP_FORCE_THR.addr w)

/-- Every 200 ticks, an end node sends a CAPSUM towards the manager (R390). -/
def execCapsumSend (s : State) : Host.Outcome State Fault Refusal :=
  .next (s.loopDo (fun d => d.capsumSend))

/-- A node adds its figures to a passing CAPSUM, or the manager sums both halves (R390). -/
def execCapsumRx (port : Fin 3) (seq : Nat) (pload : Nat) (pdraw : Nat) (contrib : Nat)
    (s : State) : Host.Outcome State Fault Refusal :=
  .next (s.loopDo (fun d => d.capsumRx port seq pload pdraw contrib))

/-- A missing CAPSUM half is filled from its latest or highest sum after 3.5 us (R391). -/
def execCapsumTimeout (half : Fin 2) (seq : Nat) (s : State) : Host.Outcome State Fault Refusal :=
  .next (s.loopDo (fun d => d.capsumTimeout half seq))

/-- The rack sum stays below the release level for RELEASE, and the manager broadcasts none (R222). -/
def execCapRackRelease (s : State) : Host.Outcome State Fault Refusal :=
  .next (s.loopDo (fun d => d.rackRelease))

/-- A worker receives CAPQ and sets CAP.PASSIGN (R222). -/
def execCapqRx (q : Nat) (seq : Nat) (lift : Bool) (s : State) : Host.Outcome State Fault Refusal :=
  .next (s.loopDo (fun d => d.capqRx q seq lift))

end Sys2Proof.Machine
end

