-- ==== Sys2Proof/Machine/EventClamp.lean ====
section
/-! DEFINITION. The meanings of the commands of the Clamp, snapshots and waveforms: one definition for each row, over the shared operations. -/

namespace Sys2Proof.Machine

/-- A rising edge on CLAMP is seen after the synchroniser and takes a Clamp (R53). -/
def execClampPinEdge (s : State) : Host.Outcome State Fault Refusal :=
  .next (s.loopDo (fun d => d.clampPin))

/-- A CLAMP frame within scope is checked, latched and relayed (R392). -/
def execClampFrameRx (origin : Nat) (tick : Nat) (cause : Fin 8) (scope : Fin 4) (s : State) : Host.Outcome State Fault Refusal :=
  .next (s.loopDo (fun d => d.clampFrame origin tick cause scope))

/-- A write of SNP.CTRL.FIRE originates a Clamp of cause 5 (R401). -/
def execSnpFire (s : State) : Host.Outcome State Fault Refusal :=
  .next (s.regWrite .core F.SNP_CTRL_FIRE.addr (s.dev.wordWith F.SNP_CTRL_FIRE 1))

/-- A write of SNP.CTRL.REARM ends HELD (R405). -/
def execSnpRearm (s : State) : Host.Outcome State Fault Refusal :=
  .next (s.regWrite .core F.SNP_CTRL_REARM.addr (s.dev.wordWith F.SNP_CTRL_REARM 1))

/-- EVR finishes copying the snapshot set into SNAP records, and the set stops being HELD unless KEEP is set (R405). -/
def execSnapRecordsStaged (s : State) : Host.Outcome State Fault Refusal :=
  .next (s.loopDo (fun d => d.snapStaged))

/-- At each sampling tick, every channel stores its latest result (R408). -/
def execWaveformSample (s : State) : Host.Outcome State Fault Refusal :=
  .next (s.loopDo (fun d => d.waveSample))

/-- The post-trigger sample count completes and the waveform area freezes (R409). -/
def execWaveformFreeze (s : State) : Host.Outcome State Fault Refusal :=
  .next (s.loopDo (fun d => d.waveFreeze))

/-- The last WAVE record is staged and sampling restarts (R409). -/
def execWaveRecordsStaged (s : State) : Host.Outcome State Fault Refusal :=
  .next (s.loopDo (fun d => d.waveStaged))

/-- 40 ticks after it began driving CLAMP high, the device's source-only driver releases the line (R53). -/
def execClampPulseEnd (s : State) : Host.Outcome State Fault Refusal :=
  .next (s.loopDo (fun d => d.clampEnd))

end Sys2Proof.Machine
end

