-- ==== Sys2Proof/Machine/EventDma.lean ====
section
/-! DEFINITION. The meanings of the commands of DMA: one definition for each row, over the shared operations. -/

namespace Sys2Proof.Machine

/-- A write of DMA.c.CTRL.GO checks the descriptor and starts the channel (R444). -/
def execDmaGo (ch : Fin 8) (s : State) : Host.Outcome State Fault Refusal :=
  .next (s.regWrite .core (F.DMA_CTRL_GO ch).addr (s.dev.wordWith (F.DMA_CTRL_GO ch) 1))

/-- A write of 0 to GO stops a channel after its burst, or abandons a stopped channel (R446). -/
def execDmaStop (ch : Fin 8) (s : State) : Host.Outcome State Fault Refusal :=
  .next (s.regWrite .core (F.DMA_CTRL_GO ch).addr (s.dev.wordWith (F.DMA_CTRL_GO ch) 0))

/-- A write of RESUME continues a stopped channel from its first unwritten byte (R450). -/
def execDmaResume (ch : Fin 8) (s : State) : Host.Outcome State Fault Refusal :=
  .next (s.regWrite .core (F.DMA_CTRL_GO ch).addr (s.dev.wordWith (F.DMA_CTRL_RESUME ch) 1))

/-- A write of DMA.CTRL.CLEAR clears BUSERR (R450). -/
def execDmaClear (s : State) : Host.Outcome State Fault Refusal :=
  .next (s.regWrite .core F.DMA_GCTRL_CLEAR.addr 1)

/-- A channel writes COUNT/2 bytes, sets HALF and hands the first half's pages off (R446). -/
def execDmaHalf (ch : Fin 8) (s : State) : Host.Outcome State Fault Refusal :=
  .next (s.whenSys (fun s => s.dmaHalf ch))

/-- A channel completes, sets FULL, hands off pages and restarts under CIRC (R446). -/
def execDmaFull (ch : Fin 8) (s : State) : Host.Outcome State Fault Refusal :=
  .next (s.whenSys (fun s => s.dmaFull ch))

/-- A page returns to DEVICE and a WAITOWN channel resumes (R447). -/
def execDmaPageReturn (ch : Fin 8) (s : State) : Host.Outcome State Fault Refusal :=
  .next (s.sysDo (fun d => d.dmaPageBack ch))

/-- A bus error stops every channel and records the address (R449). -/
def execDmaBusError (addr : Nat) (wr : Bool) (progress : List (Nat × Nat)) (s : State) : Host.Outcome State Fault Refusal :=
  .next (s.whenSys (fun s => s.dmaFail addr wr progress))

end Sys2Proof.Machine
end

