-- ==== Sys2Proof/Machine/EventDuplex.lean ====
section
/-! DEFINITION. The meanings of the commands of the duplex pair: one definition for each row, over the shared operations. -/

namespace Sys2Proof.Machine

/-- Every 8 ticks, a device builds and sends a frame with its digest to its partner (R358). -/
def execPeerFrameSend (e1 : Nat) (e2 : Nat) (late : Bool) (s : State) : Host.Outcome State Fault Refusal :=
  .next (s.loopDo (fun d => d.peerSend e1 e2 late))

/-- A partner frame arrives, its items are scheduled, and its digest is compared (R359). -/
def execPeerFrameRx (frame : PeerFrame) (s : State) : Host.Outcome State Fault Refusal :=
  .next (s.loopDo (fun d => d.peerRx frame))

/-- An item missing at its use tick ends lockstep with cause LATE (R359). -/
def execLateItem (s : State) : Host.Outcome State Fault Refusal :=
  .next (s.loopDo (fun d => d.lateItem))

/-- No valid partner frame for 16 ticks ends lockstep with cause HBLOST (R364). -/
def execHblost (s : State) : Host.Outcome State Fault Refusal :=
  .next (s.loopDo (fun d => d.hbLost))

/-- After 400 ticks, the device releases REFEREE_REQ_N (R365). -/
def execRefereeReqRelease (s : State) : Host.Outcome State Fault Refusal :=
  .next (s.loopDo (fun d => d.reqRelease))

/-- A REFEREE_ACT change is confirmed after 8 ticks, and the device releases or takes the shelf (R368). -/
def execRefereeActConfirm (level : Fin 2) (s : State) : Host.Outcome State Fault Refusal :=
  .next ((s.onDev (fun d => d.refLine level)).loopDo (fun d => d.refPin level))

/-- A write of DPX.CTRL.HANDOVER exchanges the roles at a frame boundary (R370). -/
def execDpxHandover (s : State) : Host.Outcome State Fault Refusal :=
  .next (s.regWrite .core F.DPX_CTRL_HANDOVER.addr 1)

/-- A write of DPX.CTRL.TAKE takes the active role from RESOLVE or SPLIT (R355). -/
def execDpxTake (s : State) : Host.Outcome State Fault Refusal :=
  .next (s.regWrite .core F.DPX_CTRL_HANDOVER.addr 2)

/-- A write of DPX.CTRL.REJOIN moves a FENCED device to SYNC (R371). -/
def execDpxRejoin (s : State) : Host.Outcome State Fault Refusal :=
  .next (s.regWrite .core F.DPX_CTRL_HANDOVER.addr 4)

/-- SYNC not ended within 10 ms returns the device to FENCED (R371). -/
def execSyncTimeout (s : State) : Host.Outcome State Fault Refusal :=
  .next (s.loopDo (fun d => d.syncTimeout))

/-- PEER untrained for RESOLVE_T allows SOLO when the arbiter names this side (R355). -/
def execResolveTimeout (s : State) : Host.Outcome State Fault Refusal :=
  .next (s.loopDo (fun d => d.resolveTimeout))

/-- No decision within 2 us in SPLIT, with an arbiter configured, fences the device (R355). -/
def execSplitTimeout (s : State) : Host.Outcome State Fault Refusal :=
  .next (s.loopDo (fun d => d.splitTimeout))

/-- A keeper lets go of an undriven pin after 16 ticks (R357). -/
def execKeeperRelease (s : State) : Host.Outcome State Fault Refusal :=
  .next (s.loopDo (fun d => d.keeperRelease))

/-- Rates differing by more than 10 ppm over 10 ms raise CLKSKEW (R354). -/
def execClkskew (ppm : Nat) (s : State) : Host.Outcome State Fault Refusal :=
  .next (s.loopDo (fun d => d.clkSkew ppm))

/-- While SELFOK is 1 in STANDBY, ACTIVE or SOLO, REFEREE_HB toggles every 40 ticks (R365). -/
def execRefereeHbToggle (s : State) : Host.Outcome State Fault Refusal :=
  .next (s.loopDo (fun d => d.hbToggle))

end Sys2Proof.Machine
end

