-- ==== Sys2Proof/Machine/EventEnergy.lean ====
section
/-! DEFINITION. The meanings of the commands of the energy ledger: one definition for each row, over the shared operations. -/

namespace Sys2Proof.Machine

/-- Every 200 ticks, ENG forms the ledger, the requirement and the budget, and steps its state (R238). -/
def execEngCompute (s : State) : Host.Outcome State Fault Refusal :=
  .next (s.loopDo (fun d => d.engCompute))

/-- A loss condition's debounce completes, input loss is declared, and INPUTLOSS is raised (R236). -/
def execInputLost (s : State) : Host.Outcome State Fault Refusal :=
  .next (s.loopDo (fun d => d.inputLost))

/-- No loss condition has held for RETURNDB, so input returns and E_rect is recomputed (R237). -/
def execInputReturn (s : State) : Host.Outcome State Fault Refusal :=
  .next (s.loopDo (fun d => d.inputReturn))

/-- At w + R, the shutdown commits and non-landing slots and Benches are taken down (R241). -/
def execEngCommit (s : State) : Host.Outcome State Fault Refusal :=
  .next (s.loopDo (fun d => d.engCommit))

/-- A landing group's TLAND elapses, and SEQ is asked to take its rails down (R241). -/
def execEngGroupDown (g : Fin 8) (s : State) : Host.Outcome State Fault Refusal :=
  .next (s.loopDo (fun d => d.engGroupDown g))

/-- SEQ reports every group off, and ENG enters DOWN (R241). -/
def execEngShutdownEnd (s : State) : Host.Outcome State Fault Refusal :=
  .next (s.loopDo (fun d => d.shutdownEnd))

/-- Input stays good for REQUAL in DOWN, so ENG leaves DOWN and power-up is requested (R243). -/
def execEngRequalExpiry (s : State) : Host.Outcome State Fault Refusal :=
  .next (s.loopDo (fun d => d.engRequal))

/-- A current step's windows close and the step is accepted or rejected for the capacitance audit (R244). The command names the tick of the
step; both windows are what ENG has taken in. -/
def execAuditStep (k : Fin 8) (t : Nat) (_ _ : Unit) (s : State) : Host.Outcome State Fault Refusal :=
  .next (s.loopDo (fun d => d.auditStep k t))

/-- Every PERIOD seconds, ENG lowers i_t by IMIN to make its own audit step (R246). -/
def execAuditActiveStep (s : State) : Host.Outcome State Fault Refusal :=
  .next (s.loopDo (fun d => d.auditActive))

/-- After 2W, the active audit cut is returned (R246). -/
def execAuditActiveEnd (s : State) : Host.Outcome State Fault Refusal :=
  .next (s.loopDo (fun d => d.auditReturn))

end Sys2Proof.Machine
end

