-- ==== Sys2Proof/Machine/EventFabric.lean ====
section
/-! DEFINITION. The meanings of the commands of the configuration fabric: one definition for each row, over the shared operations. -/

namespace Sys2Proof.Machine

/-- A write of FAB.PLOAD.GO starts loading a partial bitstream from Drawer pages (R144). -/
def execPartialLoadGo (page : Fin 64) (count : Fin 32) (planes : Nat) (s : State) : Host.Outcome State Fault Refusal :=
  .next (s.sysDo (fun d => d.partialGo page count planes))

/-- The partial load finishes, and its planes are accepted with PDONE or rejected with PFAIL (R144). -/
def execPartialLoadDone (part : Container) (s : State) : Host.Outcome State Fault Refusal :=
  .next (s.sysDo (fun d => d.partialDone s.otp part))

/-- A write of FAB.SWAP.GO puts the named Benches into PENDING (R145). -/
def execSwapGo (mask : Nat) (differs : Nat) (s : State) : Host.Outcome State Fault Refusal :=
  .next (s.sysDo (fun d => d.swapWrite mask differs))

/-- A pending Bench exchanges its active and shadow planes at its update boundary (R145). -/
def execBenchSwap (n : Fin 16) (differs : Bool) (s : State) : Host.Outcome State Fault Refusal :=
  .next (s.loopDo (fun d => ((d.benchSwap n differs).swapWatch).revertWatch))

/-- The 10 ms background scrub reads configuration memory and rechecks the CRCs (R143). -/
def execScrubPass (findings : List ScrubFinding) (s : State) : Host.Outcome State Fault Refusal :=
  .next (s.pdDo (fun d => d.scrub findings))

/-- A Dowel timer completes its window and the Dowel output changes (R136). -/
def execDowelTimerExpiry (k : Fin 256) (s : State) : Host.Outcome State Fault Refusal :=
  .next (s.loopDo (fun d => d.dowelExpiry k))

end Sys2Proof.Machine
end

