-- ==== Sys2Proof/Machine/EventFault.lean ====
section
/-! DEFINITION. The meanings of the commands of the fault logic: one definition for each row, over the shared operations. -/

namespace Sys2Proof.Machine

/-- A W1C of PRO.k.STICKY clears each source whose cause is gone and refuses the others (R334). -/
def execStickyClear (k : Fin 24) (mask : Nat) (s : State) : Host.Outcome State Fault Refusal :=
  .next (s.regWrite .core (F.PRO_STICKY_STICKY k).addr mask)

/-- A write of 1 to PRO.k.ACK acknowledges a set source (R330). -/
def execAckWrite (k : Fin 24) (mask : Nat) (s : State) : Host.Outcome State Fault Refusal :=
  .next (s.regWrite .core (F.PRO_ACK_ACK k).addr mask)

/-- A write of 1 to a PRO.FWRAISE bit raises a firmware source (R326). -/
def execFwraiseWrite (hi : Bool) (mask : Nat) (s : State) : Host.Outcome State Fault Refusal :=
  .next (s.regWrite .core (F.PRO_FWRAISE0_RAISE.addr + 4 * hi.toNat) mask)

/-- KILL_N is read low while this device does not sink it, raising KILLIN (R337). -/
def execKillin (low : Bool) (s : State) : Host.Outcome State Fault Refusal :=
  .next (s.pdDo (fun d => d.killLine low))

end Sys2Proof.Machine
end

