-- ==== Sys2Proof/Machine/EventHost.lean ====
section
/-! DEFINITION. The meanings of the commands of the host port and the Drawer: one definition for each row, over the shared operations. -/

namespace Sys2Proof.Machine

/-- An RDSTAT transaction returns the status byte (R427). -/
def execHostRdstat (s : State) : Host.Outcome State Fault Refusal :=
  .next (s.hostTxn .rdstat 0)

/-- An RDREG transaction reads one register, or returns BUSY or a held result (R427). -/
def execHostRdreg (addr : Nat) (period : Nat) (s : State) : Host.Outcome State Fault Refusal :=
  .next (s.hostTxn (.rdreg addr) period)

/-- A WRREG transaction writes one register subject to the ACL (R433). -/
def execHostWrreg (addr : Nat) (w : Nat) (period : Nat) (s : State) : Host.Outcome State Fault Refusal :=
  .next (s.hostTxn (.wrreg addr w) period)

/-- An RDWIN transaction reads bytes from a HOST-owned Drawer page (R427). -/
def execHostRdwin (off : Nat) (len : Nat) (period : Nat) (s : State) : Host.Outcome State Fault Refusal :=
  .next (s.hostTxn (.rdwin off len) period)

/-- A WRWIN transaction writes bytes into a HOST-owned Drawer page (R427). -/
def execHostWrwin (off : Nat) (bytes : List Nat) (period : Nat) (s : State) : Host.Outcome State Fault Refusal :=
  .next (s.hostTxn (.wrwin off bytes) period)

/-- An XFER transaction requests a page ownership transition (R436). -/
def execHostXfer (page : Fin 64) (src : Fin 4) (dst : Fin 4) (period : Nat) (s : State) : Host.Outcome State Fault Refusal :=
  .next (s.hostTxn (.xfer page src dst) period)

/-- An RDOWN transaction returns the ownership flags of every page (R427). -/
def execHostRdown (period : Nat) (s : State) : Host.Outcome State Fault Refusal :=
  .next (s.hostTxn .rdown period)

/-- An unknown or cut-short command does nothing and counts PROTO (R427). -/
def execHostUnknownCommand (s : State) : Host.Outcome State Fault Refusal :=
  .next (s.hostTxn .unknown 0)

/-- An outstanding internal host request ends, and a read result is held (R429). -/
def execHostRequestDone (s : State) : Host.Outcome State Fault Refusal :=
  .next (s.requestEnd .host)

/-- A write to HOSTBELL or COREBELL sets or clears bell bits and interrupts the other side (R434). -/
def execBellWrite (m : Master) (core : Bool) (mask : Nat) (s : State) : Host.Outcome State Fault Refusal :=
  .next (s.regWrite m (F.HST_HOSTBELL_BELL.addr + 4 * core.toNat) mask)

/-- A write of WIN.XFER requests a page ownership transition from the core (R436). -/
def execWinXfer (w : Nat) (s : State) : Host.Outcome State Fault Refusal :=
  .next (s.regWrite .core F.WIN_XFER_PAGE.addr w)

/-- An uncorrectable ECC error marks a Drawer page BAD (R436), or a record of the capture ring (R30, R425). -/
def execPageBad (at_ : EccAt) (s : State) : Host.Outcome State Fault Refusal :=
  .next (s.sysDo (fun d => d.memEcc at_))

/-- Zeroing of a BAD page completes and the page becomes FREE (R436). -/
def execPageZeroDone (p : Fin 64) (s : State) : Host.Outcome State Fault Refusal :=
  .next (s.sysDo (fun d => d.pageZeroDone p))

/-- A core load or store to the Drawer faults unless its page is DEVICE (R437). -/
def execCoreDrawerAccess (off : Nat) (store : Option Nat) (s : State) : Host.Outcome State Fault Refusal :=
  .next (s.sysDo (fun d => d.coreAccess off store))

/-- A core write draining after its page left DEVICE is discarded and sets LATEWR (R437). -/
def execCoreLateWrite (s : State) : Host.Outcome State Fault Refusal :=
  .next (s.sysDo (fun d => d.coreLate))

/-- A fence w,o instruction drains the write buffer before a following flag write (R439). -/
def execFenceWO (s : State) : Host.Outcome State Fault Refusal :=
  .next (s.sysDo (fun d => d.drainAll d.wbuf.length))

/-- A fence i,r instruction orders loads after an observed handoff (R440). -/
def execFenceIR (s : State) : Host.Outcome State Fault Refusal :=
  .next s

end Sys2Proof.Machine
end

