-- ==== Sys2Proof/Machine/EventLink.lean ====
section
/-! DEFINITION. The meanings of the commands of Igkulink: one definition for each row, over the shared operations. -/

namespace Sys2Proof.Machine

/-- A DOWN port's receive clock appears and the port enters ACQUIRE (R385). -/
def execPortRxClockPresent (p : Fin 3) (s : State) : Host.Outcome State Fault Refusal :=
  .next (s.loopDo (fun d => d.portClock p))

/-- 16 aligned commas move the port to IDENT (R385). -/
def execCommaAligned (p : Fin 3) (s : State) : Host.Outcome State Fault Refusal :=
  .next (s.loopDo (fun d => d.portAligned p))

/-- 100 us without alignment returns the port to DOWN (R385). -/
def execAcquireTimeout (p : Fin 3) (s : State) : Host.Outcome State Fault Refusal :=
  .next (s.loopDo (fun d => d.acquireTimeout p))

/-- In IDENT, a port sends a LINKSTAT every 10 us (R385). -/
def execLinkstatSend (p : Fin 3) (s : State) : Host.Outcome State Fault Refusal :=
  .next (s.loopDo (fun d => d.linkstatSend p))

/-- A LINKSTAT moves a port to UP or FAULT, or updates the path in use (R398). -/
def execLinkstatRx (p : Fin 3) (stat : LinkStat) (s : State) : Host.Outcome State Fault Refusal :=
  .next (s.loopDo (fun d => d.linkstatRx p stat))

/-- Clock loss or code errors take an UP port to DOWN and raise PORTDOWN (R385). -/
def execPortDown (p : Fin 3) (s : State) : Host.Outcome State Fault Refusal :=
  .next (s.loopDo (fun d => d.portFall p))

/-- A 1 ms window with more than 4 errors on a port raises LNKERR (R400). -/
def execLnkerrWindow (p : Fin 3) (code : Nat) (crc : Nat) (s : State) : Host.Outcome State Fault Refusal :=
  .next (s.loopDo (fun d => d.errWindow p code crc))

/-- A frame arrives, and the node forwards it cut-through, removes it or accepts it (R383). -/
def execFrameRx (p : Fin 3) (frame : LinkFrame) (s : State) : Host.Outcome State Fault Refusal :=
  .next (s.loopDo (fun d => d.frameRx p frame))

/-- Every 10 us, a node sends a TSYNC marker and frame to its parent (R387). -/
def execTsyncExchange (s : State) : Host.Outcome State Fault Refusal :=
  .next (s.loopDo (fun d => d.tsyncSend))

/-- A TSYNC frame arrives, and the delay and offset are computed and tracked (R387). -/
def execTsyncRx (stamps : TsyncStamps) (s : State) : Host.Outcome State Fault Refusal :=
  .next (s.loopDo (fun d => d.tsyncRx stamps))

/-- No valid exchange for 1 ms enters HOLDOVER and raises TIMLOST (R389). -/
def execHoldoverEntry (s : State) : Host.Outcome State Fault Refusal :=
  .next (s.loopDo (fun d => d.holdover))

/-- A root's 10 ms listening period ends and TIM READY sets (R389). -/
def execRootListenEnd (child : Option Nat) (s : State) : Host.Outcome State Fault Refusal :=
  .next (s.loopDo (fun d => d.rootListen child))

/-- A pair device sends an ARB frame every 10 us, or on its triggers (R395). -/
def execArbSend (s : State) : Host.Outcome State Fault Refusal :=
  .next (s.loopDo (fun d => d.arbSend))

/-- An ARB frame arrives, and the manager judges and decides or the device acts on a decision (R395). -/
def execArbRx (frame : ArbFrame) (s : State) : Host.Outcome State Fault Refusal :=
  .next (s.loopDo (fun d => d.arbRx frame))

/-- No ARB from the active for 16 us, or no follow-up within 1 us, counts its heartbeat lost (R395). -/
def execArbTimeout (pos : Fin 33) (s : State) : Host.Outcome State Fault Refusal :=
  .next (s.loopDo (fun d => d.arbTimeout pos))

/-- A node sends a FAULTSUM on each change of PRO status and every 100 us (R396). -/
def execFaultsumSend (s : State) : Host.Outcome State Fault Refusal :=
  .next (s.loopDo (fun d => d.faultsum))

/-- A ring node silent for 1 ms raises NODELOST on the manager (R396). -/
def execNodelost (n : Fin 33) (s : State) : Host.Outcome State Fault Refusal :=
  .next (s.loopDo (fun d => d.nodeLost n))

/-- No frame from the manager for 1 ms raises MGRLOST and holds the cap (R396). -/
def execMgrlost (s : State) : Host.Outcome State Fault Refusal :=
  .next (s.loopDo (fun d => d.mgrLost))

/-- A write of LNK.TUN_CTRL.GO sends a TUNNEL register request (R397). -/
def execTunnelGo (w : Nat) (s : State) : Host.Outcome State Fault Refusal :=
  .next (s.regWrite .core F.LNK_TUN_CTRL_GO.addr w)

/-- A device receives a TUNNEL request and performs the register access (R397). -/
def execTunnelRequestRx (write : Bool) (addr : Nat) (w : Nat) (s : State) : Host.Outcome State Fault Refusal :=
  .next (s.tunnelIn write addr w)

/-- The tunnel answer arrives and STATUS reads DONE (R397). -/
def execTunnelReplyRx (data : Nat) (s : State) : Host.Outcome State Fault Refusal :=
  .next (s.loopDo (fun d => d.tunnelReply data))

/-- No tunnel answer within 1 ms sets NOREPLY (R397). -/
def execTunnelNoreply (s : State) : Host.Outcome State Fault Refusal :=
  .next (s.loopDo (fun d => d.tunnelNone))

end Sys2Proof.Machine
end

