-- ==== Sys2Proof/Machine/EventMonitor.lean ====
section
/-! DEFINITION. The meanings of the commands of the monitor inputs: one definition for each row, over the shared operations. -/

namespace Sys2Proof.Machine

/-- A monitor conversion result reaches every LOOP consumer 50 ticks after its sample (R253). -/
def execMonResult (inp : Fin 64) (code : Nat) (s : State) : Host.Outcome State Fault Refusal :=
  .next (s.loopDo (fun d => d.arrives (.mon inp code)))

/-- An HVM conversion result reaches every LOOP consumer (R253). -/
def execHvmResult (h : Fin 8) (v : Nat) (s : State) : Host.Outcome State Fault Refusal :=
  .next (s.loopDo (fun d => d.arrives (.hvm h v)))

/-- A fast-tier window comparator output changes on an enabled side, or ENH does (R276, R321). -/
def execWindowComparatorChange (inp : CmpInput) (below : Bool) (above : Bool) (s : State) : Host.Outcome State Fault Refusal :=
  .next ((s.onDev (fun d => d.cmpSet inp below above)).loopDo (fun d => d.arrives (.cmp inp below above)))

end Sys2Proof.Machine
end

