-- ==== Sys2Proof/Machine/EventPort.lean ====
section
/-! DEFINITION. The meanings of the commands of the service port: one definition for each row, over the shared operations. -/

namespace Sys2Proof.Machine

/-- A partner attaches, and the port takes the source or sink role from its termination (R469). -/
def execCcAttach (rp : Fin 4) (cc2 : Bool) (s : State) : Host.Outcome State Fault Refusal :=
  .next (s.pdDo (fun d => d.ccAttach rp cc2))

/-- The partner detaches, VBUS_S is discharged and the contract is void (R479). -/
def execCcDetach (s : State) : Host.Outcome State Fault Refusal :=
  .next (s.pdDo (fun d => d.ccDetach))

/-- A Source_Capabilities message arrives and the device requests a Fixed object (R471). -/
def execSourceCapsRx (objs : List (Nat × Nat)) (s : State) : Host.Outcome State Fault Refusal :=
  .next (s.pdDo (fun d => d.sourceCaps objs))

/-- As source, a Request is accepted, then DR_Swap is sent to become UFP (R472). -/
def execPdRequestRx (pos : Fin 8) (cur : Nat) (s : State) : Host.Outcome State Fault Refusal :=
  .next (s.pdDo (fun d => d.pdRequest pos cur))

/-- A Get_Source_Cap or Get_Sink_Cap is answered with capabilities (R471). -/
def execGetCapRx (sink : Bool) (s : State) : Host.Outcome State Fault Refusal :=
  .next (s.pdDo (fun d => d.getCap sink))

/-- A PR_Swap is accepted, or rejected without the Rp condition (R479). -/
def execPrSwapRx (s : State) : Host.Outcome State Fault Refusal :=
  .next (s.pdDo (fun d => d.prSwap))

/-- A DR_Swap to UFP is accepted (R468). -/
def execDrSwapRx (s : State) : Host.Outcome State Fault Refusal :=
  .next (s.pdDo (fun d => d.drSwap))

/-- A VDM or unsupported message is answered Not_Supported (R468). -/
def execVdmRx (s : State) : Host.Outcome State Fault Refusal :=
  .next (s.pdDo (fun d => d.pdUnsupported))

/-- A Hard_Reset returns both ends to their at-attach roles (R479). -/
def execHardResetRx (s : State) : Host.Outcome State Fault Refusal :=
  .next (s.pdDo (fun d => d.hardReset))

/-- A write of CPD.CTRL.HARDRST sends Hard_Reset (R479). -/
def execCpdHardrst (s : State) : Host.Outcome State Fault Refusal :=
  .next (s.regWrite .core F.CPD_CTRL_HARDRST.addr (s.dev.wordWith F.CPD_CTRL_HARDRST 1))

/-- Feeds or VHK fall with the swap armed, and the device signals a fast role swap (R475). -/
def execFrSwapTrigger (vhk : Bool) (s : State) : Host.Outcome State Fault Refusal :=
  .next (s.pdDo (fun d => d.frSwap vhk))

/-- Source current above 1.75 A for 1 ms, or VHK low, enters error recovery (R473). -/
def execSourceOvercurrent (vhk : Bool) (s : State) : Host.Outcome State Fault Refusal :=
  .next (s.pdDo (fun d => d.overcurrent vhk))

/-- After 25 ms open, the terminations are presented again (R473). -/
def execErrorRecoveryEnd (s : State) : Host.Outcome State Fault Refusal :=
  .next (s.pdDo (fun d => d.recoveryEnd))

/-- A bulk OUT transfer carries one service command (R476). -/
def execUsbOutTransfer (cmd : PortCmd) (s : State) : Host.Outcome State Fault Refusal :=
  .next (s.usbOut cmd)

/-- The service function's request slot completes its request (R477). -/
def execUsbRequestDone (s : State) : Host.Outcome State Fault Refusal :=
  .next (s.requestEnd .usb)

/-- An Accept, Reject, Wait, PS_RDY or Sink_Capabilities message from the partner arrives, completing a contract, a swap or the
arming data (R472). -/
def execPdReplyMessageRx (msg : PdReply) (s : State) : Host.Outcome State Fault Refusal :=
  .next (s.pdDo (fun d => d.pdReply msg))

/-- A Soft_Reset message from the partner arrives and the PD protocol layer is reset (R468). -/
def execSoftResetRx (s : State) : Host.Outcome State Fault Refusal :=
  .next (s.pdDo (fun d => d.softReset))

/-- The USB host enumerates and configures the service function, setting CPD.STATUS.USBCFG (R476). -/
def execUsbConfigured (s : State) : Host.Outcome State Fault Refusal :=
  .next (s.pdDo (fun d => d.usbConfigured))

/-- A bulk IN transfer from the USB host collects the status byte and data of the service command (R476). -/
def execUsbInTransfer (s : State) : Host.Outcome State Fault Refusal :=
  .next (s.pdDo (fun d => d.usbIn))

end Sys2Proof.Machine
end

