-- ==== Sys2Proof/Machine/EventPower.lean ====
section
/-! DEFINITION. The meanings of the commands of supplies, clocks and resets: one definition for each row, over the shared operations. -/

namespace Sys2Proof.Machine

/-- A supply feed rises through its feed-good threshold and joins the ideal-diode OR (R62). -/
def execFeedGood (f : FeedRise) (s : State) : Host.Outcome State Fault Refusal :=
  .next (s.onDev (fun d => d.feedGood (f.feed == 1) f.vhk))

/-- A supply feed falls through its feed-lost threshold and leaves the OR (R62). -/
def execFeedLost (f : Fin 2) (s : State) : Host.Outcome State Fault Refusal :=
  .next (s.onDev (fun d => d.feedLost (f == 1)))

/-- No feed is good and VBUS_S does not power the device, so RST holds a cold reset (R105). -/
def execPowerOnReset (s : State) : Host.Outcome State Fault Refusal :=
  .next (s.onDev (fun d => d.powerOn))

/-- PORST_N is seen low through the three SAFE flops and holds a cold reset (R105). -/
def execPorstNLow (s : State) : Host.Outcome State Fault Refusal :=
  .next (s.onDev (fun d => d.porstLow))

/-- The reset hold ends and reset is released, so the watchdog starts and the boot ROM runs (R43). -/
def execResetRelease (bootsel : Fin 4) (side : Bool) (io : Fin 32) (s : State) : Host.Outcome State Fault Refusal :=
  .next (s.onDev (fun d => d.release bootsel side io))

/-- A keyed write with COLD set raises a cold reset (R105). -/
def execRstCtrlCold (key : Nat) (warm : Bool) (s : State) : Host.Outcome State Fault Refusal :=
  .next (s.regWrite .core F.RST_CTRL_KEY.addr (key * 2 ^ 16 + 2 + warm.toNat))

/-- A keyed write with WARM set and COLD clear raises a warm reset of the SYS domain (R105). -/
def execRstCtrlWarm (key : Nat) (s : State) : Host.Outcome State Fault Refusal :=
  .next (s.regWrite .core F.RST_CTRL_KEY.addr (key * 2 ^ 16 + 1))

/-- A write to RST.WDT_SVC with key 6C3Ah restarts the watchdog period (R108). -/
def execWatchdogService (w : Nat) (s : State) : Host.Outcome State Fault Refusal :=
  .next (s.regWrite .core F.RST_WDT_SVC_KEY.addr w)

/-- The watchdog period runs out unserviced, so a warm reset is raised and RST.CAUSE.WDT is set (R108). -/
def execWatchdogExpiry (s : State) : Host.Outcome State Fault Refusal :=
  .next (s.onDev (fun d => d.wdtExpiry))

/-- The SYS PLL loses lock, its clock is gated off, and a warm reset is held until it relocks (R86). -/
def execSysPllUnlock (s : State) : Host.Outcome State Fault Refusal :=
  .next (s.onDev (fun d => d.sysUnlock))

/-- The power-side die detects the forwarded LOOP clock stopped, treats it as HALT and sinks every gate (R24). -/
def execLoopClockStop (s : State) : Host.Outcome State Fault Refusal :=
  .next (s.onDev (fun d => d.loopStop))

/-- The LOOP clock returns after a detected stop, LOOPCLK is raised, and the power READY bits may set again (R106). -/
def execLoopClockReturn (s : State) : Host.Outcome State Fault Refusal :=
  .next (s.onDev (fun d => d.loopReturn))

/-- A detection window passes with or without an edge and the clock's present bit changes (R87). -/
def execClockPresenceChange (clk : Fin 13) (present : Bool) (s : State) : Host.Outcome State Fault Refusal :=
  .next (s.onDev (fun d => d.presence clk present))

/-- A function's READY bit sets once its prerequisites and its own needs are in place (R115). -/
def execReadySet (bit : Fin 27) (s : State) : Host.Outcome State Fault Refusal :=
  .next (s.onDev (fun d => d.readySet s.otp bit))

/-- A write of 1 to an RST.BLOCK storage-port bit resets that NVS port (R107). -/
def execRstBlockNv (p : Fin 2) (s : State) : Host.Outcome State Fault Refusal :=
  .next (s.regWrite .core F.RST_BLOCK_NVA.addr (2 ^ (p : Nat)))

/-- A write of 1 to an RST.BLOCK Igkulink bit resets that port to DOWN (R107). -/
def execRstBlockLink (p : Fin 3) (s : State) : Host.Outcome State Fault Refusal :=
  .next (s.regWrite .core F.RST_BLOCK_NVA.addr (2 ^ (2 + (p : Nat))))

/-- A write of 1 to an RST.BLOCK two-wire bit resets that bus and releases its lines (R467). -/
def execRstBlockTwoWire (x : Fin 4) (sda : Sda) (s : State) : Host.Outcome State Fault Refusal :=
  .next (s.sysDo (fun d => d.blockTw x sda))

/-- A write of 1 to RST.BLOCK.HST resets the host target and withdraws its pending request (R441). -/
def execRstBlockHost (s : State) : Host.Outcome State Fault Refusal :=
  .next (s.regWrite .core F.RST_BLOCK_NVA.addr (2 ^ 9))

/-- A write of 1 to RST.BLOCK.CPD resets the PD controller with Rd presented (R107). -/
def execRstBlockCpd (s : State) : Host.Outcome State Fault Refusal :=
  .next (s.regWrite .core F.RST_BLOCK_NVA.addr (2 ^ 10))

/-- A dual-clock FIFO's pointer resynchronisation handshake completes, and its READY sets (R97). -/
def execFifoResyncDone (fifo : Fin 7) (discarded : Nat) (s : State) : Host.Outcome State Fault Refusal :=
  .next (s.pdDo (fun d => d.fifoDone fifo discarded))

/-- After NVx_EN is written 0, the port clock stops at the first NV cycle with no transfer outstanding (R96). -/
def execNvClockStop (p : Fin 2) (s : State) : Host.Outcome State Fault Refusal :=
  .next (s.pdDo (fun d => d.nvStop p))

/-- A write to NVA_RATE or NVB_RATE is ignored at 3.3 V and takes effect only while EN is 0 (R104). -/
def execNvRateWrite (p : Fin 2) (v : Bool) (s : State) : Host.Outcome State Fault Refusal :=
  .next (s.regWrite .core F.CLK_CTRL_NVA_RATE.addr (s.dev.wordWith (if p = 0 then F.CLK_CTRL_NVA_RATE else F.CLK_CTRL_NVB_RATE) v.toNat))

/-- VBUS_S rises above its threshold and powers an otherwise unpowered device through the service path, or falls away again (R67).
-/
def execServicePowerApplied (on : Bool) (s : State) : Host.Outcome State Fault Refusal :=
  .next (s.onDev (fun d => d.vbusS on))

/-- The LOOP PLL or an NV port PLL loses or regains lock, which gates its clock and sets its UNLOCK sticky bit (R86). -/
def execPllLockChange (pll : Fin 4) (locked : Bool) (s : State) : Host.Outcome State Fault Refusal :=
  .next (s.onDev (fun d => d.pllLock pll locked))

/-- An uncorrectable ECC error in core memory stops the core, raises COREECC and starts the watchdog's SYS reset (R30). -/
def execCoreMemoryEccError (s : State) : Host.Outcome State Fault Refusal :=
  .next (s.sysDo (fun d => d.coreMemEcc))

/-- A JTAG debugger halts or resumes the management core, pausing the watchdog count while DBG_FREEZE is 1 (R109). -/
def execJtagCoreHalt (halt : Bool) (s : State) : Host.Outcome State Fault Refusal :=
  .next (s.sysDo (fun d => d.coreHalt halt))

end Sys2Proof.Machine
end

