-- ==== Sys2Proof/Machine/EventRails.lean ====
section
/-! DEFINITION. The meanings of the commands of the rail sequencer: one definition for each row, over the shared operations. -/

namespace Sys2Proof.Machine

/-- A write of SEQ.REQ.ON requests a group on (R261). -/
def execSeqReqOn (mask : Nat) (s : State) : Host.Outcome State Fault Refusal :=
  .next (s.regWrite .core F.SEQ_REQ_ON.addr mask)

/-- A write of SEQ.REQ.OFF requests a group and its dependents off (R261). -/
def execSeqReqOff (mask : Nat) (s : State) : Host.Outcome State Fault Refusal :=
  .next (s.regWrite .core F.SEQ_REQ_ON.addr (mask * 2 ^ 16))

/-- On each 1 us strobe, SEQ takes its start, stop and delay decisions (R257). -/
def execSeqStrobe (s : State) : Host.Outcome State Fault Refusal :=
  .next (s.loopDo (fun d => d.seqStrobe))

/-- A rail reading arrives and is judged against the rail's windows (R256). -/
def execSeqReading (r : Fin 1024) (s : State) : Host.Outcome State Fault Refusal :=
  .next (s.loopDo (fun d => d.seqReading r))

/-- A rail holds good for GOODDB and enters GOOD (R256). -/
def execRailGoodQualified (r : Fin 1024) (s : State) : Host.Outcome State Fault Refusal :=
  .next (s.loopDo (fun d => d.railQualified r))

/-- A GOOD rail stays out of its window for FAILDB, enters FAILED and raises RAILFAIL (R258). -/
def execRailFailDebounce (r : Fin 1024) (s : State) : Host.Outcome State Fault Refusal :=
  .next (s.loopDo (fun d => d.railFailed r))

/-- A GOOD rail stays outside its narrowed window for FAILDB, raising RAILWARN (R266). -/
def execRailwarnDebounce (r : Fin 1024) (s : State) : Host.Outcome State Fault Refusal :=
  .next (s.loopDo (fun d => d.railWarned r))

/-- STARTTIME runs out in START or STOP, raising STARTFAIL or STOPFAIL (R258). -/
def execStarttimeExpiry (r : Fin 1024) (s : State) : Host.Outcome State Fault Refusal :=
  .next (s.loopDo (fun d => d.startTime r))

/-- An edge's DELAY or STOPDELAY completes (R250). -/
def execEdgeDelayExpiry (e : Nat) (s : State) : Host.Outcome State Fault Refusal :=
  .next (s.loopDo (fun d => d.edgeDone e))

/-- The re-qualify time after a power-down ends and the pending group is requested on (R263). -/
def execRequalExpiry (g : Fin 16) (s : State) : Host.Outcome State Fault Refusal :=
  .next (s.loopDo (fun d => d.requalDone g))

/-- A W1C of FAILMARK clears it only if the rail is OFF and its source is not held (R267). -/
def execFailmarkClear (r : Fin 1024) (s : State) : Host.Outcome State Fault Refusal :=
  .next (s.regWrite .core (F.SEQ_STATE_FAILMARK r).addr 0x40)

/-- A write to SEQ.g.MARGIN margins every Bench and PMBUS rail of the group (R271). -/
def execSeqMarginWrite (g : Fin 16) (w : Nat) (s : State) : Host.Outcome State Fault Refusal :=
  .next (s.regWrite .core (F.SEQ_MARGIN_MARGIN g).addr w)

/-- MSETTLE after a margin write moves a PMBUS rail's reference to the new target (R272). -/
def execMsettleExpiry (r : Fin 1024) (s : State) : Host.Outcome State Fault Refusal :=
  .next (s.loopDo (fun d => d.msettle r))

/-- Every 100 us, a worker sends a full report of its rail states (R268). -/
def execRailrepFullReport (s : State) : Host.Outcome State Fault Refusal :=
  .next (s.loopDo (fun d => d.fullReport))

/-- A RAILREP updates the receiving shelf's REMOTE rails (R268). -/
def execRailrepRx (w : Fin 16) (entries : List (Nat × Nat × Nat)) (s : State) : Host.Outcome State Fault Refusal :=
  .next (s.loopDo (fun d => d.railRep w entries))

/-- A broadcast SEQREQ is applied as a write to the worker's SEQ.REQ (R268). -/
def execSeqreqRx (on : Nat) (off : Nat) (s : State) : Host.Outcome State Fault Refusal :=
  .next (s.loopDo (fun d => d.seqReq on off))

/-- No report from a shelf for 1 ms marks it stale and raises SEQSTALE (R270). -/
def execReportStale (w : Fin 16) (s : State) : Host.Outcome State Fault Refusal :=
  .next (s.loopDo (fun d => d.reportStale w))

end Sys2Proof.Machine
end

