-- ==== Sys2Proof/Machine/EventRecorder.lean ====
section
/-! DEFINITION. The meanings of the commands of the recorder, the storage ports and the vault: one definition for each row, over the shared operations. -/

namespace Sys2Proof.Machine

/-- When space returns, EVR writes one LOST record (R414). -/
def execLostRecordWrite (s : State) : Host.Outcome State Fault Refusal :=
  .next (s.sysDo (fun d => d.lostRecord))

/-- FLUSH ms after a page's first record, the page is written (R415). -/
def execPageFlushTimer (s : State) : Host.Outcome State Fault Refusal :=
  .next (s.sysDo (fun d => d.flushTimer))

/-- A write of EVR.CTRL.FLUSHNOW writes the open page now (R415). -/
def execEvrFlushnow (s : State) : Host.Outcome State Fault Refusal :=
  .next (s.regWrite .core F.EVR_CTRL_FLUSHNOW.addr (s.dev.wordWith F.EVR_CTRL_FLUSHNOW 1))

/-- A NAND page write through DMA channel 7 completes (R415). -/
def execPageWriteDone (outcome : PageOutcome) (s : State) : Host.Outcome State Fault Refusal :=
  .next (s.sysDo (fun d => d.pageDone outcome))

/-- A storage port reads the ID and parameter page, locks to DQS and is trained (R416). -/
def execNandPortTrain (p : Fin 2) (geom : NandGeom) (s : State) : Host.Outcome State Fault Refusal :=
  .next (s.sysDo (fun d => d.portTrain p geom))

/-- At cold start, the scan from the checkpoint finds the write point (R418). -/
def execEvrColdScan (s : State) : Host.Outcome State Fault Refusal :=
  .next (s.sysDo (fun d => d.coldScan))

/-- A write of EVR.RD_CTRL.GO fills a Drawer page with records from RD_SEQ (R419). -/
def execEvrReadGo (w : Nat) (s : State) : Host.Outcome State Fault Refusal :=
  .next (s.regWrite .core F.EVR_RD_CTRL_GO.addr w)

/-- The page is filled and returned, and RD_NEXT is set (R419). -/
def execEvrReadDone (bad : List Nat) (s : State) : Host.Outcome State Fault Refusal :=
  .next (s.sysDo (fun d => d.readDone bad))

/-- A read of EVR.NONCE0 draws a fresh 128-bit nonce (R420). -/
def execNonceRead (s : State) : Host.Outcome State Fault Refusal :=
  .next (s.sysDo (fun d => (d.busRead (F.EVR_NONCE_WORD 0).addr).1))

/-- A nonce older than 60 s expires (R420). -/
def execNonceExpiry (s : State) : Host.Outcome State Fault Refusal :=
  .next (s.sysDo (fun d => d.nonceExpiry))

/-- A write of EVR.CLR_CTRL.GO submits a clear for MAC verification (R420). -/
def execClearGo (m : Master) (w : Nat) (s : State) : Host.Outcome State Fault Refusal :=
  .next (s.regWrite m F.EVR_CLR_CTRL_GO.addr w)

/-- SEC gives its verdict, and a successful clear moves OLDEST and writes a CLEAR record (R421). -/
def execClearVerdict (s : State) : Host.Outcome State Fault Refusal :=
  .next (s.sysDo (fun d => d.clearVerdict s.otp))

/-- A write of EVR.FW_CTRL.GO stages an FW record from a Drawer page (R412). -/
def execEvrFwGo (w : Nat) (s : State) : Host.Outcome State Fault Refusal :=
  .next (s.regWrite .core F.EVR_FW_CTRL_GO.addr w)

/-- A write through NVS.VAULT reaches the user region only while UWEN is 1 (R424). -/
def execVaultWrite (word : Fin 2048) (w : Nat) (s : State) : Host.Outcome State Fault Refusal :=
  .next (s.regWrite .core (F.NVS_VAULT_WORD word).addr w)

/-- A 32-byte vault write unit completes and the next waiting write is served (R423). -/
def execVaultUnitDone (s : State) : Host.Outcome State Fault Refusal :=
  .next (s.onDev (fun d => d.vaultUnit))

end Sys2Proof.Machine
end

