-- ==== Sys2Proof/Machine/EventRegister.lean ====
section
/-! DEFINITION. The meanings of the commands of register writes in general: one definition for each row, over the shared operations. -/

namespace Sys2Proof.Machine

/-- A write of 1 to a block's LOCK bit makes its RWL fields read-only until the next reset (R12). -/
def execLockWrite (addr : Nat) (s : State) : Host.Outcome State Fault Refusal :=
  .next (s.lockSet addr)

/-- A write to a register that has no behaviour of its own is applied under its access codes, bounds and locks (R10). -/
def execRegisterWrite (m : Master) (addr : Nat) (w : Nat) (s : State) : Host.Outcome State Fault Refusal :=
  .next (s.regWrite m addr w)

end Sys2Proof.Machine
end

