-- ==== Sys2Proof/Machine/EventShare.lean ====
section
/-! DEFINITION. The meanings of the commands of current sharing: one definition for each row, over the shared operations. -/

namespace Sys2Proof.Machine

/-- Every 200 ticks, SHR runs its bus loop and sets the SHARE codes (R206). -/
def execShrCompute (s : State) : Host.Outcome State Fault Refusal :=
  .next (s.loopDo (fun d => d.shrCompute))

/-- A change of SHR.VBUS or VHEAD queues VOUT_COMMAND writes to the rectifiers (R207). -/
def execShrVbusWrite (w : Nat) (s : State) : Host.Outcome State Fault Refusal :=
  .next (s.regWrite .core F.SHR_VBUS_VBUS.addr w)

/-- At each poll period, a poll is queued per rectifier, or a stale poll is counted (R458). -/
def execShrPollPeriod (s : State) : Host.Outcome State Fault Refusal :=
  .next (s.loopDo (fun d => d.pollPeriod))

/-- A rectifier poll ends, and its management state is compared with its live state (R213). -/
def execShrPollDone (r : Fin 24) (answer : Option (PollStatus × Nat)) (s : State) : Host.Outcome State Fault Refusal :=
  .next (s.loopDo (fun d => d.arrives (.poll r answer)))

end Sys2Proof.Machine
end

