-- ==== Sys2Proof/Machine/EventSlots.lean ====
section
/-! DEFINITION. The meanings of the commands of the slots: one definition for each row, over the shared operations. -/

namespace Sys2Proof.Machine

/-- A synchronised seating-input sample starts or aborts seating (R277). -/
def execSeatingInputChange (n : Fin 16) (a : Bool) (b : Bool) (s : State) : Host.Outcome State Fault Refusal :=
  .next ((s.onDev (fun d => d.seatLine n a b)).loopDo (fun d => d.arrives (.seat n a b)))

/-- Both inputs stay low through TSEAT and the slot becomes SEATED or FORCED (R277). -/
def execSeatTimerExpiry (n : Fin 16) (s : State) : Host.Outcome State Fault Refusal :=
  .next (s.loopDo (fun d => d.seatDone n))

/-- Either input high for 40 ticks declares removal and sinks the gate (R279). -/
def execSlotRemoval (n : Fin 16) (s : State) : Host.Outcome State Fault Refusal :=
  .next (s.loopDo (fun d => d.slotRemove n))

/-- One input low and the other high for 500 ms raises SEATFAULT (R279). -/
def execSeatfaultExpiry (n : Fin 16) (s : State) : Host.Outcome State Fault Refusal :=
  .next (s.loopDo (fun d => d.seatFault n))

/-- A slot's enable arrives from SEQ or HSW.n.CTRL.EN, and the slot moves towards CHECK (R278). -/
def execSlotEnable (n : Fin 16) (s : State) : Host.Outcome State Fault Refusal :=
  .next (if s.dev.seqOwned n then s.loopDo (fun d => d.slotEnable n) else s.regWrite .core (F.HSW_CTRL_EN n).addr (s.dev.wordWith (F.HSW_CTRL_EN n) 1))

/-- Withdrawal of the enable sinks the gate and returns the slot to SEATED (R277). -/
def execSlotDisable (n : Fin 16) (s : State) : Host.Outcome State Fault Refusal :=
  .next (if s.dev.seqOwned n then s.loopDo (fun d => d.slotDisable n) else s.regWrite .core (F.HSW_CTRL_EN n).addr (s.dev.wordWith (F.HSW_CTRL_EN n) 0))

/-- The 200 us pass-transistor check window is judged (R280). -/
def execCheckEnd (n : Fin 16) (s : State) : Host.Outcome State Fault Refusal :=
  .next (s.loopDo (fun d => d.checkDone n))

/-- A slot shunt result arrives and updates IMEAN (R276). -/
def execSlotShuntResult (n : Fin 16) (code : Int) (lanes : Fin 8) (s : State) : Host.Outcome State Fault Refusal :=
  .next (s.loopDo (fun d => d.arrives (.shunt n code lanes)))

/-- A VS and VDS result arrives, and the SOA window count is updated (R283). -/
def execSlotVoltResult (n : Fin 16) (vs : Nat) (vds : Nat) (enh : Bool) (s : State) : Host.Outcome State Fault Refusal :=
  .next (s.loopDo (fun d => d.arrives (.volt n vs vds enh)))

/-- The SOA count reaches TSOA and SOATIME trips the slot (R283). -/
def execSoaExpiry (n : Fin 16) (s : State) : Host.Outcome State Fault Refusal :=
  .next (s.loopDo (fun d => d.soaTrip n))

/-- RAMP lasting TRAMP raises RAMPTIME (R283). -/
def execRamptimeExpiry (n : Fin 16) (s : State) : Host.Outcome State Fault Refusal :=
  .next (s.loopDo (fun d => d.rampTrip n))

/-- Full enhancement and a low VDS held for PGDELAY make the slot GOOD (R277). -/
def execPgdelayExpiry (n : Fin 16) (s : State) : Host.Outcome State Fault Refusal :=
  .next (s.loopDo (fun d => d.pgDone n))

/-- Two of the three Kerf lanes cross and the voter sinks the gate without a clock (R286). -/
def execKerfTrip (n : Fin 16) (lanes : Fin 8) (s : State) : Host.Outcome State Fault Refusal :=
  .next ((s.onDev (fun d => d.kerfLine n lanes)).loopDo (fun d => d.kerfSeen n))

/-- A scheduled test diverts and injects one lane and checks its response (R288). -/
def execLaneTest (n : Fin 16) (lane : Fin 3) (seen : Bool) (fell : Bool) (s : State) : Host.Outcome State Fault Refusal :=
  .next (s.loopDo (fun d => d.laneTest n lane seen fell))

/-- IMEAN above IOC for TOC raises OC (R290). -/
def execSlotOcExpiry (n : Fin 16) (s : State) : Host.Outcome State Fault Refusal :=
  .next (s.loopDo (fun d => d.ocTrip n))

/-- VDS above VDSMAX in GOOD for FETDB raises FETDEG (R281). -/
def execFetdegExpiry (n : Fin 16) (s : State) : Host.Outcome State Fault Refusal :=
  .next (s.loopDo (fun d => d.fetDeg n))

/-- ENH low for 10 us in GOOD raises GATEFAIL (R281). -/
def execGatefailExpiry (n : Fin 16) (s : State) : Host.Outcome State Fault Refusal :=
  .next (s.loopDo (fun d => d.gateFail n))

/-- The retry timer expires and a waiting enable may start the slot (R291). -/
def execRetryTimerExpiry (n : Fin 16) (s : State) : Host.Outcome State Fault Refusal :=
  .next (s.loopDo (fun d => d.retryDone n))

/-- A slot GOOD for TCLEAN has its retry count returned to 0 (R291). -/
def execTcleanExpiry (n : Fin 16) (s : State) : Host.Outcome State Fault Refusal :=
  .next (s.loopDo (fun d => d.cleanDone n))

/-- A slot empty for 60 s has its history cleared (R292). -/
def execCooloffExpiry (n : Fin 16) (s : State) : Host.Outcome State Fault Refusal :=
  .next (s.loopDo (fun d => d.coolDone n))

/-- A write of HSW.n.CTRL.UNLOCK releases LOCKOUT unless FETSHORT's cause is present (R293). -/
def execSlotUnlock (n : Fin 16) (s : State) : Host.Outcome State Fault Refusal :=
  .next (s.regWrite .core (F.HSW_CTRL_UNLOCK n).addr (s.dev.wordWith (F.HSW_CTRL_UNLOCK n) 1))

/-- A shed request from CAP, CAP.FORCE or ENG sinks the slot's gate and enters SHED (R294). -/
def execSlotShed (n : Fin 16) (asker : ShedBy) (s : State) : Host.Outcome State Fault Refusal :=
  .next (s.loopDo (fun d => d.shed n asker))

/-- A shed is withdrawn and the slot returns to SEATED (R294). -/
def execShedWithdraw (n : Fin 16) (asker : ShedBy) (s : State) : Host.Outcome State Fault Refusal :=
  .next (s.loopDo (fun d => d.unshed n asker))

end Sys2Proof.Machine
end

