-- ==== Sys2Proof/Machine/EventThermal.lean ====
section
/-! DEFINITION. The meanings of the commands of the temperature sensors: one definition for each row, over the shared operations. -/

namespace Sys2Proof.Machine

/-- A temperature reading arrives and is judged against WARN, THR and SHUT (R342). -/
def execThmReading (n : Fin 6) (reading : Int) (s : State) : Host.Outcome State Fault Refusal :=
  .next (s.onDev (Dev.when (s.dev.loopRuns || n == 1) (fun d => d.thmTake n reading)))

/-- The power-side sensor's second reading over threshold asserts the SAFE shutdown line (R347). -/
def execSafeshut (s : State) : Host.Outcome State Fault Refusal :=
  .next (s.onDev (fun d => d.safeShut))

/-- The sensor reads below RESTART for RESTDLY, so the shutdown cause is gone and SAFE's line is released (R348). -/
def execRestartWindowExpiry (n : Fin 6) (s : State) : Host.Outcome State Fault Refusal :=
  .next (s.onDev (Dev.when (s.dev.loopRuns || n == 1) (fun d => d.restartEnd n)))

/-- A faulted sensor back in range for 1 s stops counting as faulted (R340). -/
def execXsensorRecover (n : Fin 6) (s : State) : Host.Outcome State Fault Refusal :=
  .next (s.loopDo (fun d => d.xsensorBack n))

/-- A write lowering a threshold is held to THERMAL values and reaches SAFE for sensor 1 (R346). -/
def execThmLimitWrite (n : Fin 6) (second : Bool) (w : Nat) (s : State) : Host.Outcome State Fault Refusal :=
  .next (s.regWrite .core ((F.THM_LIM1_WARN n).addr + 4 * second.toNat) w)

end Sys2Proof.Machine
end

