-- ==== Sys2Proof/Machine/EventTwoWire.lean ====
section
/-! DEFINITION. The meanings of the commands of the two-wire buses and the two-wire target: one definition for each row, over the shared operations. -/

namespace Sys2Proof.Machine

/-- A write of TWB.x.CMD.GO queues a firmware transaction (R457). -/
def execTwbCmdGo (x : Fin 4) (s : State) : Host.Outcome State Fault Refusal :=
  .next (s.regWrite .core (F.TWB_CMD_GO x).addr (s.dev.wordWith (F.TWB_CMD_GO x) 1))

/-- When the bus is idle, the highest-precedence queued transaction starts (R457). -/
def execTwbTransactionStart (x : Fin 4) (s : State) : Host.Outcome State Fault Refusal :=
  .next (s.sysDo (fun d => d.txnStart x))

/-- An attempt ends, succeeding, failing or retrying up to three attempts (R459). -/
def execTwbAttemptEnd (x : Fin 4) (result : TwResult) (s : State) : Host.Outcome State Fault Refusal :=
  .next (s.sysDo (fun d => d.attemptEnd x result))

/-- SCL held low beyond STRETCH or 25 ms times out, releasing the lines and clearing the bus (R460). -/
def execTwbTimeout (x : Fin 4) (sdaFree : Bool) (s : State) : Host.Outcome State Fault Refusal :=
  .next (s.sysDo (fun d => d.busTimeout x sdaFree))

/-- Every 10 ms the clear of a STUCK bus is tried again (R460). -/
def execStuckRetry (x : Fin 4) (sdaFree : Bool) (s : State) : Host.Outcome State Fault Refusal :=
  .next (s.sysDo (fun d => d.stuckRetry x sdaFree))

/-- The target answers CAPABILITY with D0h (R464). -/
def execTgtCapability (s : State) : Host.Outcome State Fault Refusal :=
  .next (s.sysDo (fun d => d.tgtAnswer [0xD0]))

/-- The target answers PMBUS_REVISION with 33h (R464). -/
def execTgtPmbusRevision (s : State) : Host.Outcome State Fault Refusal :=
  .next (s.sysDo (fun d => d.tgtAnswer [0x33]))

/-- The target answers MFR_ID with STW (R464). -/
def execTgtMfrId (s : State) : Host.Outcome State Fault Refusal :=
  .next (s.sysDo (fun d => d.tgtAnswer [3, 0x53, 0x54, 0x57]))

/-- The target answers MFR_MODEL with KSC960 (R464). -/
def execTgtMfrModel (s : State) : Host.Outcome State Fault Refusal :=
  .next (s.sysDo (fun d => d.tgtAnswer [6, 0x4B, 0x53, 0x43, 0x39, 0x36, 0x30]))

/-- A Block Write to REG_ADDR sets the register address (R464). -/
def execTgtRegAddr (addr : Nat) (pecOk : Bool) (s : State) : Host.Outcome State Fault Refusal :=
  .next (s.sysDo (fun d => d.tgtSetAddr addr pecOk))

/-- A REG_DATA Block Read reads the register, or returns BUSY or a held result (R465). -/
def execTgtRegDataRead (s : State) : Host.Outcome State Fault Refusal :=
  .next (s.tgtRead)

/-- A REG_DATA Block Write writes the register subject to the ACL (R465). -/
def execTgtRegDataWrite (w : Nat) (pecOk : Bool) (s : State) : Host.Outcome State Fault Refusal :=
  .next (s.tgtWrite w pecOk)

/-- REG_STAT returns the status of the last REG_DATA request (R464). -/
def execTgtRegStat (s : State) : Host.Outcome State Fault Refusal :=
  .next (s.sysDo (fun d => d.tgtAnswer [d.target.stat]))

/-- The target's outstanding register request completes (R465). -/
def execTgtRequestDone (s : State) : Host.Outcome State Fault Refusal :=
  .next (s.tgtDone)

/-- The target answers the Alert Response Address and releases TWA_ALERT_N (R463). -/
def execTgtAlertResponse (s : State) : Host.Outcome State Fault Refusal :=
  .next (s.sysDo (fun d => d.tgtRespond))

/-- A misplaced repeated start or stop discards the byte and counts PROTO_ERR (R466). -/
def execTgtProtocolError (s : State) : Host.Outcome State Fault Refusal :=
  .next (s.sysDo (fun d => d.tgtError))

/-- SCL low for 25 ms resets the target's logic and releases both lines (R466). -/
def execTgtSclTimeout (s : State) : Host.Outcome State Fault Refusal :=
  .next (s.sysDo (fun d => d.tgtReset))

end Sys2Proof.Machine
end

