-- ==== Sys2Proof/Machine/EventUpdate.lean ====
section
/-! DEFINITION. The meanings of the commands of updates and the fuses: one definition for each row, over the shared operations. -/

namespace Sys2Proof.Machine

/-- A write of UPD.CTRL.INGEST takes a container from the Drawer ring (R490). -/
def execUpdIngest (container : Container) (s : State) : Host.Outcome State Fault Refusal :=
  .next (s.sysDo (fun d => d.ingest container))

/-- An IMAGE frame delivers a container block into the relay area (R491). -/
def execImageBlockRx (index : Nat) (block : Nat) (whole : Option Container) (s : State) : Host.Outcome State Fault Refusal :=
  .next (s.sysDo (fun d => d.imageBlock index block whole))

/-- A received container is verified, then ACKed or NAKed and forwarded (R491). -/
def execContainerVerified (stored : Bool) (s : State) : Host.Outcome State Fault Refusal :=
  .next (s.sysBoth (fun d => d.verified s.otp stored))

/-- An ACK or NAK from a next hop completes, or repeats, a forwarded container (R491). -/
def execImageAckRx (p : Fin 3) (ok : Bool) (code : Nat) (s : State) : Host.Outcome State Fault Refusal :=
  .next (s.sysDo (fun d => d.imageAck p ok code))

/-- No answer within 1 s names the failing node in FAILNODE (R492). -/
def execRelayTimeout (s : State) : Host.Outcome State Fault Refusal :=
  .next (s.sysDo (fun d => d.relayTimeout))

/-- Every applicable container is stored and acknowledged, and the package is staged (R493). -/
def execPackageStaged (s : State) : Host.Outcome State Fault Refusal :=
  .next (s.sysDo (fun d => d.packageStaged s.otp))

/-- A write of ACTIVATE activates the staged package by kind (R494). -/
def execUpdActivate (s : State) : Host.Outcome State Fault Refusal :=
  .next (s.regWrite .core F.UPD_CTRL_ACTIVATE.addr (s.dev.wordWith F.UPD_CTRL_ACTIVATE 1))

/-- An IMAGE frame with ACTIVATE set activates the staged package (R493). -/
def execActivateFrameRx (pkg : Nat) (s : State) : Host.Outcome State Fault Refusal :=
  .next (s.sysDo (fun d => d.activateFrame pkg))

/-- A refused ON_STORE activation is retried once a minute (R494). -/
def execActivationRetry (s : State) : Host.Outcome State Fault Refusal :=
  .next (s.sysDo (fun d => d.activateRetry))

/-- A write of UPD.CTRL.HANDOVER stops the core fetching and drains it (R495). -/
def execUpdHandover (page : Fin 64) (valid : Bool) (s : State) : Host.Outcome State Fault Refusal :=
  .next (s.regWrite .core F.UPD_CTRL_HANDOVER.addr (s.dev.handoverWord page valid))

/-- The drain ends, and the core is held in reset for 10 us and the bank changes (R495). -/
def execHandoverDrainEnd (s : State) : Host.Outcome State Fault Refusal :=
  .next (s.sysDo (fun d => d.drainDone))

/-- The core is released at the base of the new bank (R495). -/
def execHandoverRelease (s : State) : Host.Outcome State Fault Refusal :=
  .next (s.sysDo (fun d => d.handoverRelease))

/-- A drain still running at 4,900 us leaves the bank unchanged for the watchdog (R495). -/
def execHandoverDrainTimeout (s : State) : Host.Outcome State Fault Refusal :=
  .next (s.sysDo (fun d => d.drainTimeout))

/-- A core write of key 7C15h inside the window confirms the trial (R496). -/
def execUpdConfirm (m : Master) (key : Nat) (s : State) : Host.Outcome State Fault Refusal :=
  .next (s.regWrite m F.UPD_CONFIRM_KEY.addr key)

/-- The confirm window ends unconfirmed and the trial falls back (R498). -/
def execConfirmWindowExpiry (s : State) : Host.Outcome State Fault Refusal :=
  .next (s.sysDo (fun d => d.windowExpiry))

/-- A refused fall-back swap is retried every 100 ms (R498). -/
def execPartialRevertRetry (s : State) : Host.Outcome State Fault Refusal :=
  .next (s.sysDo (fun d => d.revertRetry))

/-- A write of UPD.CTRL.ABORT discards a staged package not yet activated (R499). -/
def execUpdAbort (s : State) : Host.Outcome State Fault Refusal :=
  .next (s.regWrite .core F.UPD_CTRL_ABORT.addr (s.dev.wordWith F.UPD_CTRL_ABORT 1))

/-- A write of SEC.PROG.GO programs one OTP field from PROGDATA (R483). -/
def execSecProgGo (m : Master) (w : Nat) (s : State) : Host.Outcome State Fault Refusal :=
  .next (s.regWrite m F.SEC_PROG_GO.addr w)

end Sys2Proof.Machine
end

