-- ==== Sys2Proof/Machine/Dispatch.lean ====
section
/-! DEFINITION. The meaning of a command: one arm for each constructor, each a call of its own definition. -/

namespace Sys2Proof.Machine

/-- The effect of a command on everything but the queue of the commands that wait. -/
def exec (i : Instr) (s : State) : Host.Outcome State Fault Refusal :=
  match i with
  | .feedGood f => Sys2Proof.Machine.execFeedGood f s
  | .feedLost f => Sys2Proof.Machine.execFeedLost f s
  | .powerOnReset => Sys2Proof.Machine.execPowerOnReset s
  | .porstNLow => Sys2Proof.Machine.execPorstNLow s
  | .resetRelease bootsel side io => Sys2Proof.Machine.execResetRelease bootsel side io s
  | .rstCtrlCold key warm => Sys2Proof.Machine.execRstCtrlCold key warm s
  | .rstCtrlWarm key => Sys2Proof.Machine.execRstCtrlWarm key s
  | .watchdogService w => Sys2Proof.Machine.execWatchdogService w s
  | .watchdogExpiry => Sys2Proof.Machine.execWatchdogExpiry s
  | .sysPllUnlock => Sys2Proof.Machine.execSysPllUnlock s
  | .loopClockStop => Sys2Proof.Machine.execLoopClockStop s
  | .loopClockReturn => Sys2Proof.Machine.execLoopClockReturn s
  | .clockPresenceChange clk present => Sys2Proof.Machine.execClockPresenceChange clk present s
  | .readySet bit => Sys2Proof.Machine.execReadySet bit s
  | .rstBlockNv p => Sys2Proof.Machine.execRstBlockNv p s
  | .rstBlockLink p => Sys2Proof.Machine.execRstBlockLink p s
  | .rstBlockTwoWire x sda => Sys2Proof.Machine.execRstBlockTwoWire x sda s
  | .rstBlockHost => Sys2Proof.Machine.execRstBlockHost s
  | .rstBlockCpd => Sys2Proof.Machine.execRstBlockCpd s
  | .fifoResyncDone fifo discarded => Sys2Proof.Machine.execFifoResyncDone fifo discarded s
  | .nvClockStop p => Sys2Proof.Machine.execNvClockStop p s
  | .nvRateWrite p v => Sys2Proof.Machine.execNvRateWrite p v s
  | .lockWrite addr => Sys2Proof.Machine.execLockWrite addr s
  | .registerWrite m addr w => Sys2Proof.Machine.execRegisterWrite m addr w s
  | .firmwareLoad img => Sys2Proof.Machine.execFirmwareLoad img s
  | .bitstreamLoad img => Sys2Proof.Machine.execBitstreamLoad img s
  | .bootHandoff => Sys2Proof.Machine.execBootHandoff s
  | .hostBootTimeout => Sys2Proof.Machine.execHostBootTimeout s
  | .pulseTransferDone j => Sys2Proof.Machine.execPulseTransferDone j s
  | .partialLoadGo page count planes => Sys2Proof.Machine.execPartialLoadGo page count planes s
  | .partialLoadDone part => Sys2Proof.Machine.execPartialLoadDone part s
  | .swapGo mask differs => Sys2Proof.Machine.execSwapGo mask differs s
  | .benchSwap n differs => Sys2Proof.Machine.execBenchSwap n differs s
  | .scrubPass findings => Sys2Proof.Machine.execScrubPass findings s
  | .dowelTimerExpiry k => Sys2Proof.Machine.execDowelTimerExpiry k s
  | .benchUpdate n => Sys2Proof.Machine.execBenchUpdate n s
  | .limtimeExpiry n => Sys2Proof.Machine.execLimtimeExpiry n s
  | .benchStart n => Sys2Proof.Machine.execBenchStart n s
  | .benchStop n => Sys2Proof.Machine.execBenchStop n s
  | .prestartBiasJudge n => Sys2Proof.Machine.execPrestartBiasJudge n s
  | .prestartPulse n => Sys2Proof.Machine.execPrestartPulse n s
  | .prestartPass n => Sys2Proof.Machine.execPrestartPass n s
  | .rampReached n => Sys2Proof.Machine.execRampReached n s
  | .stopFloorReached n => Sys2Proof.Machine.execStopFloorReached n s
  | .vsetWrite n w => Sys2Proof.Machine.execVsetWrite n w s
  | .marginWrite n w bySeq => Sys2Proof.Machine.execMarginWrite n w bySeq s
  | .slewWrite n w => Sys2Proof.Machine.execSlewWrite n w s
  | .periodWrite n w => Sys2Proof.Machine.execPeriodWrite n w s
  | .phdropClear n w => Sys2Proof.Machine.execPhdropClear n w s
  | .ovuvWrite n deb w => Sys2Proof.Machine.execOvuvWrite n deb w s
  | .adcResult ch code => Sys2Proof.Machine.execAdcResult ch code s
  | .phocCount n p => Sys2Proof.Machine.execPhocCount n p s
  | .nlEventStart n under => Sys2Proof.Machine.execNlEventStart n under s
  | .nlEventEnd n => Sys2Proof.Machine.execNlEventEnd n s
  | .monResult inp code => Sys2Proof.Machine.execMonResult inp code s
  | .hvmResult h v => Sys2Proof.Machine.execHvmResult h v s
  | .windowComparatorChange inp below above => Sys2Proof.Machine.execWindowComparatorChange inp below above s
  | .shrCompute => Sys2Proof.Machine.execShrCompute s
  | .shrVbusWrite w => Sys2Proof.Machine.execShrVbusWrite w s
  | .shrPollPeriod => Sys2Proof.Machine.execShrPollPeriod s
  | .shrPollDone r answer => Sys2Proof.Machine.execShrPollDone r answer s
  | .capSample => Sys2Proof.Machine.execCapSample s
  | .capThrstepExpiry => Sys2Proof.Machine.execCapThrstepExpiry s
  | .capSheddelayExpiry => Sys2Proof.Machine.execCapSheddelayExpiry s
  | .capReleaseExpiry => Sys2Proof.Machine.execCapReleaseExpiry s
  | .capmissTimer => Sys2Proof.Machine.execCapmissTimer s
  | .capForceWrite w => Sys2Proof.Machine.execCapForceWrite w s
  | .capsumSend => Sys2Proof.Machine.execCapsumSend s
  | .capsumRx half seq pload pdraw contrib => Sys2Proof.Machine.execCapsumRx half seq pload pdraw contrib s
  | .capsumTimeout half seq => Sys2Proof.Machine.execCapsumTimeout half seq s
  | .capRackRelease => Sys2Proof.Machine.execCapRackRelease s
  | .capqRx q seq lift => Sys2Proof.Machine.execCapqRx q seq lift s
  | .engCompute => Sys2Proof.Machine.execEngCompute s
  | .inputLost => Sys2Proof.Machine.execInputLost s
  | .inputReturn => Sys2Proof.Machine.execInputReturn s
  | .engCommit => Sys2Proof.Machine.execEngCommit s
  | .engGroupDown g => Sys2Proof.Machine.execEngGroupDown g s
  | .engShutdownEnd => Sys2Proof.Machine.execEngShutdownEnd s
  | .engRequalExpiry => Sys2Proof.Machine.execEngRequalExpiry s
  | .auditStep k t before after => Sys2Proof.Machine.execAuditStep k t before after s
  | .auditActiveStep => Sys2Proof.Machine.execAuditActiveStep s
  | .auditActiveEnd => Sys2Proof.Machine.execAuditActiveEnd s
  | .batResult n uA dt v ta tb => Sys2Proof.Machine.execBatResult n uA dt v ta tb s
  | .restReference n => Sys2Proof.Machine.execRestReference n s
  | .fullReference n => Sys2Proof.Machine.execFullReference n s
  | .irReference n => Sys2Proof.Machine.execIrReference n s
  | .refStaleExpiry n => Sys2Proof.Machine.execRefStaleExpiry n s
  | .restRequest n v => Sys2Proof.Machine.execRestRequest n v s
  | .restRequestTimeout n => Sys2Proof.Machine.execRestRequestTimeout n s
  | .permissionRepeat n => Sys2Proof.Machine.execPermissionRepeat n s
  | .chgforbidExpiry n => Sys2Proof.Machine.execChgforbidExpiry n s
  | .chargeRepermit n => Sys2Proof.Machine.execChargeRepermit n s
  | .stringAbsent n => Sys2Proof.Machine.execStringAbsent n s
  | .stringPresent n => Sys2Proof.Machine.execStringPresent n s
  | .newstringWrite n => Sys2Proof.Machine.execNewstringWrite n s
  | .firstEstimate n => Sys2Proof.Machine.execFirstEstimate n s
  | .seqReqOn mask => Sys2Proof.Machine.execSeqReqOn mask s
  | .seqReqOff mask => Sys2Proof.Machine.execSeqReqOff mask s
  | .seqStrobe => Sys2Proof.Machine.execSeqStrobe s
  | .seqReading r => Sys2Proof.Machine.execSeqReading r s
  | .railGoodQualified r => Sys2Proof.Machine.execRailGoodQualified r s
  | .railFailDebounce r => Sys2Proof.Machine.execRailFailDebounce r s
  | .railwarnDebounce r => Sys2Proof.Machine.execRailwarnDebounce r s
  | .starttimeExpiry r => Sys2Proof.Machine.execStarttimeExpiry r s
  | .edgeDelayExpiry e => Sys2Proof.Machine.execEdgeDelayExpiry e s
  | .requalExpiry g => Sys2Proof.Machine.execRequalExpiry g s
  | .failmarkClear r => Sys2Proof.Machine.execFailmarkClear r s
  | .seqMarginWrite g w => Sys2Proof.Machine.execSeqMarginWrite g w s
  | .msettleExpiry r => Sys2Proof.Machine.execMsettleExpiry r s
  | .railrepFullReport => Sys2Proof.Machine.execRailrepFullReport s
  | .railrepRx w entries => Sys2Proof.Machine.execRailrepRx w entries s
  | .seqreqRx on off => Sys2Proof.Machine.execSeqreqRx on off s
  | .reportStale w => Sys2Proof.Machine.execReportStale w s
  | .seatingInputChange n a b => Sys2Proof.Machine.execSeatingInputChange n a b s
  | .seatTimerExpiry n => Sys2Proof.Machine.execSeatTimerExpiry n s
  | .slotRemoval n => Sys2Proof.Machine.execSlotRemoval n s
  | .seatfaultExpiry n => Sys2Proof.Machine.execSeatfaultExpiry n s
  | .slotEnable n => Sys2Proof.Machine.execSlotEnable n s
  | .slotDisable n => Sys2Proof.Machine.execSlotDisable n s
  | .checkEnd n => Sys2Proof.Machine.execCheckEnd n s
  | .slotShuntResult n code lanes => Sys2Proof.Machine.execSlotShuntResult n code lanes s
  | .slotVoltResult n vs vds enh => Sys2Proof.Machine.execSlotVoltResult n vs vds enh s
  | .soaExpiry n => Sys2Proof.Machine.execSoaExpiry n s
  | .ramptimeExpiry n => Sys2Proof.Machine.execRamptimeExpiry n s
  | .pgdelayExpiry n => Sys2Proof.Machine.execPgdelayExpiry n s
  | .kerfTrip n lanes => Sys2Proof.Machine.execKerfTrip n lanes s
  | .laneTest n lane seen fell => Sys2Proof.Machine.execLaneTest n lane seen fell s
  | .slotOcExpiry n => Sys2Proof.Machine.execSlotOcExpiry n s
  | .fetdegExpiry n => Sys2Proof.Machine.execFetdegExpiry n s
  | .gatefailExpiry n => Sys2Proof.Machine.execGatefailExpiry n s
  | .retryTimerExpiry n => Sys2Proof.Machine.execRetryTimerExpiry n s
  | .tcleanExpiry n => Sys2Proof.Machine.execTcleanExpiry n s
  | .cooloffExpiry n => Sys2Proof.Machine.execCooloffExpiry n s
  | .slotUnlock n => Sys2Proof.Machine.execSlotUnlock n s
  | .slotShed n asker => Sys2Proof.Machine.execSlotShed n asker s
  | .shedWithdraw n asker => Sys2Proof.Machine.execShedWithdraw n asker s
  | .stickyClear k mask => Sys2Proof.Machine.execStickyClear k mask s
  | .ackWrite k mask => Sys2Proof.Machine.execAckWrite k mask s
  | .fwraiseWrite hi mask => Sys2Proof.Machine.execFwraiseWrite hi mask s
  | .killin low => Sys2Proof.Machine.execKillin low s
  | .thmReading n reading => Sys2Proof.Machine.execThmReading n reading s
  | .safeshut => Sys2Proof.Machine.execSafeshut s
  | .restartWindowExpiry n => Sys2Proof.Machine.execRestartWindowExpiry n s
  | .xsensorRecover n => Sys2Proof.Machine.execXsensorRecover n s
  | .thmLimitWrite n second w => Sys2Proof.Machine.execThmLimitWrite n second w s
  | .peerFrameSend e1 e2 late => Sys2Proof.Machine.execPeerFrameSend e1 e2 late s
  | .peerFrameRx frame => Sys2Proof.Machine.execPeerFrameRx frame s
  | .lateItem => Sys2Proof.Machine.execLateItem s
  | .hblost => Sys2Proof.Machine.execHblost s
  | .refereeReqRelease => Sys2Proof.Machine.execRefereeReqRelease s
  | .refereeActConfirm level => Sys2Proof.Machine.execRefereeActConfirm level s
  | .dpxHandover => Sys2Proof.Machine.execDpxHandover s
  | .dpxTake => Sys2Proof.Machine.execDpxTake s
  | .dpxRejoin => Sys2Proof.Machine.execDpxRejoin s
  | .syncTimeout => Sys2Proof.Machine.execSyncTimeout s
  | .resolveTimeout => Sys2Proof.Machine.execResolveTimeout s
  | .splitTimeout => Sys2Proof.Machine.execSplitTimeout s
  | .keeperRelease => Sys2Proof.Machine.execKeeperRelease s
  | .clkskew ppm => Sys2Proof.Machine.execClkskew ppm s
  | .portRxClockPresent p => Sys2Proof.Machine.execPortRxClockPresent p s
  | .commaAligned p => Sys2Proof.Machine.execCommaAligned p s
  | .acquireTimeout p => Sys2Proof.Machine.execAcquireTimeout p s
  | .linkstatSend p => Sys2Proof.Machine.execLinkstatSend p s
  | .linkstatRx p stat => Sys2Proof.Machine.execLinkstatRx p stat s
  | .portDown p => Sys2Proof.Machine.execPortDown p s
  | .lnkerrWindow p code crc => Sys2Proof.Machine.execLnkerrWindow p code crc s
  | .frameRx p frame => Sys2Proof.Machine.execFrameRx p frame s
  | .tsyncExchange => Sys2Proof.Machine.execTsyncExchange s
  | .tsyncRx stamps => Sys2Proof.Machine.execTsyncRx stamps s
  | .holdoverEntry => Sys2Proof.Machine.execHoldoverEntry s
  | .rootListenEnd child => Sys2Proof.Machine.execRootListenEnd child s
  | .arbSend => Sys2Proof.Machine.execArbSend s
  | .arbRx frame => Sys2Proof.Machine.execArbRx frame s
  | .arbTimeout pos => Sys2Proof.Machine.execArbTimeout pos s
  | .faultsumSend => Sys2Proof.Machine.execFaultsumSend s
  | .nodelost n => Sys2Proof.Machine.execNodelost n s
  | .mgrlost => Sys2Proof.Machine.execMgrlost s
  | .tunnelGo w => Sys2Proof.Machine.execTunnelGo w s
  | .tunnelRequestRx write addr w => Sys2Proof.Machine.execTunnelRequestRx write addr w s
  | .tunnelReplyRx data => Sys2Proof.Machine.execTunnelReplyRx data s
  | .tunnelNoreply => Sys2Proof.Machine.execTunnelNoreply s
  | .clampPinEdge => Sys2Proof.Machine.execClampPinEdge s
  | .clampFrameRx origin tick cause scope => Sys2Proof.Machine.execClampFrameRx origin tick cause scope s
  | .snpFire => Sys2Proof.Machine.execSnpFire s
  | .snpRearm => Sys2Proof.Machine.execSnpRearm s
  | .snapRecordsStaged => Sys2Proof.Machine.execSnapRecordsStaged s
  | .waveformSample => Sys2Proof.Machine.execWaveformSample s
  | .waveformFreeze => Sys2Proof.Machine.execWaveformFreeze s
  | .waveRecordsStaged => Sys2Proof.Machine.execWaveRecordsStaged s
  | .lostRecordWrite => Sys2Proof.Machine.execLostRecordWrite s
  | .pageFlushTimer => Sys2Proof.Machine.execPageFlushTimer s
  | .evrFlushnow => Sys2Proof.Machine.execEvrFlushnow s
  | .pageWriteDone outcome => Sys2Proof.Machine.execPageWriteDone outcome s
  | .nandPortTrain p geom => Sys2Proof.Machine.execNandPortTrain p geom s
  | .evrColdScan => Sys2Proof.Machine.execEvrColdScan s
  | .evrReadGo w => Sys2Proof.Machine.execEvrReadGo w s
  | .evrReadDone bad => Sys2Proof.Machine.execEvrReadDone bad s
  | .nonceRead => Sys2Proof.Machine.execNonceRead s
  | .nonceExpiry => Sys2Proof.Machine.execNonceExpiry s
  | .clearGo m w => Sys2Proof.Machine.execClearGo m w s
  | .clearVerdict => Sys2Proof.Machine.execClearVerdict s
  | .evrFwGo w => Sys2Proof.Machine.execEvrFwGo w s
  | .vaultWrite word w => Sys2Proof.Machine.execVaultWrite word w s
  | .vaultUnitDone => Sys2Proof.Machine.execVaultUnitDone s
  | .hostRdstat => Sys2Proof.Machine.execHostRdstat s
  | .hostRdreg addr period => Sys2Proof.Machine.execHostRdreg addr period s
  | .hostWrreg addr w period => Sys2Proof.Machine.execHostWrreg addr w period s
  | .hostRdwin off len period => Sys2Proof.Machine.execHostRdwin off len period s
  | .hostWrwin off bytes period => Sys2Proof.Machine.execHostWrwin off bytes period s
  | .hostXfer page src dst period => Sys2Proof.Machine.execHostXfer page src dst period s
  | .hostRdown period => Sys2Proof.Machine.execHostRdown period s
  | .hostUnknownCommand => Sys2Proof.Machine.execHostUnknownCommand s
  | .hostRequestDone => Sys2Proof.Machine.execHostRequestDone s
  | .bellWrite m core mask => Sys2Proof.Machine.execBellWrite m core mask s
  | .winXfer w => Sys2Proof.Machine.execWinXfer w s
  | .pageBad a => Sys2Proof.Machine.execPageBad a s
  | .pageZeroDone p => Sys2Proof.Machine.execPageZeroDone p s
  | .coreDrawerAccess off store => Sys2Proof.Machine.execCoreDrawerAccess off store s
  | .coreLateWrite => Sys2Proof.Machine.execCoreLateWrite s
  | .fenceWO => Sys2Proof.Machine.execFenceWO s
  | .fenceIR => Sys2Proof.Machine.execFenceIR s
  | .dmaGo ch => Sys2Proof.Machine.execDmaGo ch s
  | .dmaStop ch => Sys2Proof.Machine.execDmaStop ch s
  | .dmaResume ch => Sys2Proof.Machine.execDmaResume ch s
  | .dmaClear => Sys2Proof.Machine.execDmaClear s
  | .dmaHalf ch => Sys2Proof.Machine.execDmaHalf ch s
  | .dmaFull ch => Sys2Proof.Machine.execDmaFull ch s
  | .dmaPageReturn ch => Sys2Proof.Machine.execDmaPageReturn ch s
  | .dmaBusError addr wr progress => Sys2Proof.Machine.execDmaBusError addr wr progress s
  | .twbCmdGo x => Sys2Proof.Machine.execTwbCmdGo x s
  | .twbTransactionStart x => Sys2Proof.Machine.execTwbTransactionStart x s
  | .twbAttemptEnd x result => Sys2Proof.Machine.execTwbAttemptEnd x result s
  | .twbTimeout x sdaFree => Sys2Proof.Machine.execTwbTimeout x sdaFree s
  | .stuckRetry x sdaFree => Sys2Proof.Machine.execStuckRetry x sdaFree s
  | .tgtCapability => Sys2Proof.Machine.execTgtCapability s
  | .tgtPmbusRevision => Sys2Proof.Machine.execTgtPmbusRevision s
  | .tgtMfrId => Sys2Proof.Machine.execTgtMfrId s
  | .tgtMfrModel => Sys2Proof.Machine.execTgtMfrModel s
  | .tgtRegAddr addr pecOk => Sys2Proof.Machine.execTgtRegAddr addr pecOk s
  | .tgtRegDataRead => Sys2Proof.Machine.execTgtRegDataRead s
  | .tgtRegDataWrite w pecOk => Sys2Proof.Machine.execTgtRegDataWrite w pecOk s
  | .tgtRegStat => Sys2Proof.Machine.execTgtRegStat s
  | .tgtRequestDone => Sys2Proof.Machine.execTgtRequestDone s
  | .tgtAlertResponse => Sys2Proof.Machine.execTgtAlertResponse s
  | .tgtProtocolError => Sys2Proof.Machine.execTgtProtocolError s
  | .tgtSclTimeout => Sys2Proof.Machine.execTgtSclTimeout s
  | .ccAttach rp cc2 => Sys2Proof.Machine.execCcAttach rp cc2 s
  | .ccDetach => Sys2Proof.Machine.execCcDetach s
  | .sourceCapsRx objs => Sys2Proof.Machine.execSourceCapsRx objs s
  | .pdRequestRx pos cur => Sys2Proof.Machine.execPdRequestRx pos cur s
  | .getCapRx sink => Sys2Proof.Machine.execGetCapRx sink s
  | .prSwapRx => Sys2Proof.Machine.execPrSwapRx s
  | .drSwapRx => Sys2Proof.Machine.execDrSwapRx s
  | .vdmRx => Sys2Proof.Machine.execVdmRx s
  | .hardResetRx => Sys2Proof.Machine.execHardResetRx s
  | .cpdHardrst => Sys2Proof.Machine.execCpdHardrst s
  | .frSwapTrigger vhk => Sys2Proof.Machine.execFrSwapTrigger vhk s
  | .sourceOvercurrent vhk => Sys2Proof.Machine.execSourceOvercurrent vhk s
  | .errorRecoveryEnd => Sys2Proof.Machine.execErrorRecoveryEnd s
  | .usbOutTransfer cmd => Sys2Proof.Machine.execUsbOutTransfer cmd s
  | .usbRequestDone => Sys2Proof.Machine.execUsbRequestDone s
  | .updIngest container => Sys2Proof.Machine.execUpdIngest container s
  | .imageBlockRx index block whole => Sys2Proof.Machine.execImageBlockRx index block whole s
  | .containerVerified stored => Sys2Proof.Machine.execContainerVerified stored s
  | .imageAckRx p ok code => Sys2Proof.Machine.execImageAckRx p ok code s
  | .relayTimeout => Sys2Proof.Machine.execRelayTimeout s
  | .packageStaged => Sys2Proof.Machine.execPackageStaged s
  | .updActivate => Sys2Proof.Machine.execUpdActivate s
  | .activateFrameRx pkg => Sys2Proof.Machine.execActivateFrameRx pkg s
  | .activationRetry => Sys2Proof.Machine.execActivationRetry s
  | .updHandover page valid => Sys2Proof.Machine.execUpdHandover page valid s
  | .handoverDrainEnd => Sys2Proof.Machine.execHandoverDrainEnd s
  | .handoverRelease => Sys2Proof.Machine.execHandoverRelease s
  | .handoverDrainTimeout => Sys2Proof.Machine.execHandoverDrainTimeout s
  | .updConfirm m key => Sys2Proof.Machine.execUpdConfirm m key s
  | .confirmWindowExpiry => Sys2Proof.Machine.execConfirmWindowExpiry s
  | .partialRevertRetry => Sys2Proof.Machine.execPartialRevertRetry s
  | .updAbort => Sys2Proof.Machine.execUpdAbort s
  | .secProgGo m w => Sys2Proof.Machine.execSecProgGo m w s
  | .servicePowerApplied on => Sys2Proof.Machine.execServicePowerApplied on s
  | .pllLockChange pll locked => Sys2Proof.Machine.execPllLockChange pll locked s
  | .pwmPeriodStart pin => Sys2Proof.Machine.execPwmPeriodStart pin s
  | .coarseMagnitudeCheck n uA => Sys2Proof.Machine.execCoarseMagnitudeCheck n uA s
  | .coreMemoryEccError => Sys2Proof.Machine.execCoreMemoryEccError s
  | .jtagCoreHalt halt => Sys2Proof.Machine.execJtagCoreHalt halt s
  | .clampPulseEnd => Sys2Proof.Machine.execClampPulseEnd s
  | .refereeHbToggle => Sys2Proof.Machine.execRefereeHbToggle s
  | .pdReplyMessageRx msg => Sys2Proof.Machine.execPdReplyMessageRx msg s
  | .softResetRx => Sys2Proof.Machine.execSoftResetRx s
  | .usbConfigured => Sys2Proof.Machine.execUsbConfigured s
  | .usbInTransfer => Sys2Proof.Machine.execUsbInTransfer s

end Sys2Proof.Machine
end

