-- ==== Sys2Proof/Safety.lean ====
section
/-! DEFINITION. What counts as a safe change of the fuses, and the conditions under which a command reaches its block, in the terms
that the statements use. -/

namespace Sys2Proof.Machine

/-- Every bit that is 1 in a list of bytes is 1 in another (R480). -/
def KeepsOnes (x y : List Nat) : Prop := ∀ i j, (x.getD i 0).testBit j = true → (y.getD i 0).testBit j = true

/-- Fuses only blow: no bit of the OTP array that reads 1 returns to 0, no floor falls, and what is programmed at manufacture stays
(R480, R485). -/
def Otp.OnlyBlows (a b : Otp) : Prop :=
  b.uid = a.uid ∧ b.usbid = a.usbid ∧ a.floorFw ≤ b.floorFw ∧ a.floorBs ≤ b.floorBs
    ∧ (∀ k, a.revoke.testBit k = true → b.revoke.testBit k = true)
    ∧ (a.debug = true → b.debug = true) ∧ (a.provLock = true → b.provLock = true)
    ∧ KeepsOnes a.imgKey b.imgKey ∧ KeepsOnes a.clrKey b.clrKey
    ∧ (∀ k, KeepsOnes (a.key k).bytes (b.key k).bytes)

/-- The fields of the OTP array that PROVLOCK closes are the same in two arrays (R483). -/
def Otp.SameProvisioned (a b : Otp) : Prop :=
  b.uid = a.uid ∧ b.usbid = a.usbid ∧ b.sign = a.sign ∧ b.imgKey = a.imgKey ∧ b.clrKey = a.clrKey ∧ b.debug = a.debug
    ∧ b.provLock = a.provLock

/-- Both floors are thermometer codes of 128 fuses (R480, R485). -/
abbrev Otp.FloorsFit (o : Otp) : Prop := o.floorFw ≤ 128 ∧ o.floorBs ≤ 128

/-- A register write by a master lands in its block: SYS runs, and the core where it is the master, the master may write there, and no clock that the access needs is
stopped (R92, R433). -/
abbrev State.Lands (s : State) (m : Master) (a : Nat) : Prop :=
  s.dev.masterRuns m = true ∧ s.dev.mayWrite m (wordAddr a) = true ∧ s.dev.hangs (wordAddr a) = false

/-- The state after a register write that has landed. -/
def State.landed (s : State) (m : Master) (a w : Nat) : State :=
  { s with
    dev := (s.dev.busWrite s.otp m (wordAddr a) w).1
    otp := (s.dev.busWrite s.otp m (wordAddr a) w).2 }

/-- The state after an event of LOOP that did `f`: SEQ and ENG then take what they see (R236, R258). -/
def State.looped (s : State) (f : Dev → Dev) : State := { s with dev := (f s.dev).settle }

/-- The state after an event that did `f` to the device. -/
def State.did (s : State) (f : Dev → Dev) : State := { s with dev := f s.dev }

/-! ### Where a register write goes on -/

/-- A write by the core to a register of LOOP gets to its block: SYS, the core and the LOOP clock run, the bitstream configures the instance, and
the write sets no enable of a block that is not READY (R92, R117, R504). -/
abbrev State.Reaches (s : State) (a w : Nat) : Prop :=
  s.dev.masterRuns .core = true ∧ s.dev.loopClk = true ∧ s.dev.configured (wordAddr a) = true
    ∧ s.dev.goBlocked (wordAddr a) w = false

/-- The same, where the write acts at once: on a simplex device, and of PRO.k.ACK on a duplex device that stands by (R359, R363). -/
abbrev State.Takes (s : State) (a w : Nat) : Prop := s.Reaches a w ∧ s.dev.ownWrite (wordAddr a) = true

/-- A request on the host port is carried out within its transaction: a feed powers the device, HST is READY, no request is outstanding or held, the request is not
denied and does not wait for a stopped clock, and its round trip is no longer than the dummy period (R429, R430). -/
abbrev State.HostOpen (s : State) (r : PortReq) (period : Nat) : Prop :=
  s.dev.rst.cold = false ∧ (s.dev.sup.a || s.dev.sup.b) = true ∧ s.dev.ready 20 = true ∧ s.dev.hst.pend = none ∧ s.dev.hst.held = none
    ∧ ((s.dev.hostLast r).setSlot .host {}).reqDenied .host r = false
    ∧ ((s.dev.hostLast r).setSlot .host {}).reqHangs r = false ∧ (s.dev.hostLast r).inDummy r period = true

/-- The state after such a request: it is done, and answered with DONE, WDROP as it stood before, and its data (R428). -/
def State.hostServed (s : State) (r : PortReq) : State :=
  let x := (s.onDev (fun d => (d.hostLast r).setSlot .host {})).reqDo .host r
  x.1.onDev (fun d => d.answer 0
    ((d.statusByte stDone - 16 * d.get F.HST_HSTICKY_WDROP + 16 * s.dev.get F.HST_HSTICKY_WDROP) :: x.2))

/-! ### What runs where -/

/-- The commands that are events of the LOOP domain and nothing else. -/
def inLoop : Instr → Bool
  | .benchSwap _ _ | .dowelTimerExpiry _ | .benchUpdate _ | .limtimeExpiry _ | .benchStart _
  | .benchStop _ | .prestartBiasJudge _ | .prestartPulse _ | .prestartPass _ | .rampReached _ | .stopFloorReached _
  | .adcResult _ _ | .phocCount _ _ | .nlEventStart _ _ | .nlEventEnd _ | .monResult _ _ | .hvmResult _ _
  | .shrCompute | .shrPollPeriod | .shrPollDone _ _ | .capSample | .capThrstepExpiry
  | .capSheddelayExpiry | .capReleaseExpiry | .capmissTimer | .capsumSend | .capsumRx _ _ _ _ _ | .capsumTimeout _ _
  | .capRackRelease | .capqRx _ _ _ | .engCompute | .inputLost | .inputReturn | .engCommit | .engGroupDown _
  | .engShutdownEnd | .engRequalExpiry | .auditStep _ _ _ _ | .auditActiveStep | .auditActiveEnd | .batResult _ _ _ _ _ _
  | .restReference _ | .fullReference _ | .irReference _ | .refStaleExpiry _ | .restRequestTimeout _ | .permissionRepeat _
  | .chgforbidExpiry _ | .chargeRepermit _ | .stringAbsent _ | .stringPresent _ | .firstEstimate _ | .seqStrobe
  | .seqReading _ | .railGoodQualified _ | .railFailDebounce _ | .railwarnDebounce _ | .starttimeExpiry _
  | .edgeDelayExpiry _ | .requalExpiry _ | .msettleExpiry _ | .railrepFullReport | .railrepRx _ _ | .seqreqRx _ _
  | .reportStale _ | .seatTimerExpiry _ | .slotRemoval _ | .seatfaultExpiry _ | .checkEnd _
  | .slotShuntResult _ _ _ | .slotVoltResult _ _ _ _ | .soaExpiry _ | .ramptimeExpiry _ | .pgdelayExpiry _
  | .laneTest _ _ _ _ | .slotOcExpiry _ | .fetdegExpiry _ | .gatefailExpiry _ | .retryTimerExpiry _ | .tcleanExpiry _
  | .cooloffExpiry _ | .slotShed _ _ | .shedWithdraw _ _ | .xsensorRecover _ | .peerFrameSend _ _ _ | .peerFrameRx _
  | .lateItem | .hblost | .refereeReqRelease | .syncTimeout | .resolveTimeout | .splitTimeout
  | .keeperRelease | .clkskew _ | .portRxClockPresent _ | .commaAligned _ | .acquireTimeout _ | .linkstatSend _
  | .linkstatRx _ _ | .portDown _ | .lnkerrWindow _ _ _ | .frameRx _ _ | .tsyncExchange | .tsyncRx _ | .holdoverEntry
  | .rootListenEnd _ | .arbSend | .arbRx _ | .arbTimeout _ | .faultsumSend | .nodelost _ | .mgrlost | .tunnelReplyRx _
  | .tunnelNoreply | .clampPinEdge | .clampFrameRx _ _ _ _ | .snapRecordsStaged | .waveformSample | .waveformFreeze
  | .waveRecordsStaged | .pwmPeriodStart _ | .coarseMagnitudeCheck _ _ | .clampPulseEnd | .refereeHbToggle => true
  | _ => false

/-- The commands that are events of the SYS domain or writes of registers, which SYS carries. -/
def inSys : Instr → Bool
  | .rstCtrlCold _ _ | .rstCtrlWarm _ | .watchdogService _ | .rstBlockNv _ | .rstBlockLink _ | .rstBlockTwoWire _ _
  | .rstBlockHost | .rstBlockCpd | .nvRateWrite _ _ | .lockWrite _ | .registerWrite _ _ _ | .partialLoadGo _ _ _
  | .partialLoadDone _ | .swapGo _ _ | .vsetWrite _ _ | .slewWrite _ _ | .periodWrite _ _ | .phdropClear _ _
  | .ovuvWrite _ _ _ | .shrVbusWrite _ | .capForceWrite _ | .restRequest _ _ | .newstringWrite _ | .seqReqOn _
  | .seqReqOff _ | .failmarkClear _ | .seqMarginWrite _ _ | .slotUnlock _ | .stickyClear _ _ | .ackWrite _ _
  | .fwraiseWrite _ _ | .thmLimitWrite _ _ _ | .dpxHandover | .dpxTake | .dpxRejoin | .tunnelGo _ | .tunnelRequestRx _ _ _
  | .snpFire | .snpRearm | .lostRecordWrite | .pageFlushTimer | .evrFlushnow | .pageWriteDone _ | .nandPortTrain _ _
  | .evrColdScan | .evrReadGo _ | .evrReadDone _ | .nonceRead | .nonceExpiry | .clearGo _ _ | .clearVerdict | .evrFwGo _
  | .vaultWrite _ _ | .bellWrite _ _ _ | .winXfer _ | .pageBad _ | .pageZeroDone _ | .coreDrawerAccess _ _ | .coreLateWrite
  | .fenceWO | .dmaGo _ | .dmaStop _ | .dmaResume _ | .dmaClear | .dmaHalf _ | .dmaFull _ | .dmaPageReturn _
  | .dmaBusError _ _ _ | .twbCmdGo _ | .twbTransactionStart _ | .twbAttemptEnd _ _ | .twbTimeout _ _ | .stuckRetry _ _
  | .tgtCapability | .tgtPmbusRevision | .tgtMfrId | .tgtMfrModel | .tgtRegAddr _ _ | .tgtRegDataRead | .tgtRegDataWrite _ _
  | .tgtRegStat | .tgtAlertResponse | .tgtProtocolError | .tgtSclTimeout | .cpdHardrst | .usbOutTransfer _ | .updIngest _
  | .imageBlockRx _ _ _ | .containerVerified _ | .imageAckRx _ _ _ | .relayTimeout | .packageStaged | .updActivate
  | .activateFrameRx _ | .activationRetry | .updHandover _ _ | .handoverDrainEnd | .handoverRelease | .handoverDrainTimeout
  | .updConfirm _ _ | .confirmWindowExpiry | .partialRevertRetry | .updAbort | .secProgGo _ _ | .coreMemoryEccError
  | .jtagCoreHalt _ => true
  | _ => false

end Sys2Proof.Machine
end

