-- ==== Sys2Proof/Certificates/Slice0/Obligations.lean ====
section
/-! DEFINITION. The statements for the provers. A LOOP event is followed by what SEQ sees of the Benches and slots (`State.looped`), so
`s.looped id` is the state after an event that did nothing of its own. -/

open Sys2Proof Sys2Proof.Machine

/-- A step runs the command at the front of the queue (Log entry 1, spec/INDEX.md). For every command c and state s, a step of s with
c at the front of its queue is exec of c on s with the rest of the queue. The queue of commands is the form that this model gives
the surroundings (log entry 1). -/
def Obligations.StepRunsFrontCommand : Prop :=
  ∀ (c : Instr) (s : State), step { s with pending := c :: s.pending } = exec c s

/-- With no command waiting, a step is one tick of 5 ns (R16, Log entry 2). With no command waiting and no item of a duplex partner to
be taken, a step answers the state with the fuses, the queue and the configuration unchanged and the time one tick later; the LOOP
counter goes up by one exactly when LOOP runs. That time passes on an empty queue is the model's choice (log entry 2). -/
def Obligations.EmptyQueueIsOneTick : Prop :=
  ∀ s : State, s.pending = [] → s.dev.dpx.items = [] → ∃ t, step s = .next t ∧ t.pending = [] ∧ t.otp = s.otp ∧ t.dev.now = s.dev.now + 1
    ∧ t.dev.cfg = s.dev.cfg ∧ t.dev.loop = (if s.dev.loopRuns then s.dev.loop + 1 else s.dev.loop)

/-- Reset leaves nothing ready, nothing raised and KILL_N sunk (R35, R50, R115, R336). After power-on reset no command waits, no
function is READY, no source is raised, neither LOOP nor SYS runs, and the device sinks KILL_N. -/
def Obligations.ResetIsHeldAndSafe : Prop :=
  State.reset.pending = [] ∧ (∀ k : Fin 27, State.reset.dev.ready k = false) ∧ State.reset.dev.raised = []
    ∧ State.reset.dev.loopRuns = false ∧ State.reset.dev.sysRuns = false ∧ State.reset.dev.killSink = true

/-- Every command completes and leaves the queue as it was (Log entry 1, R7). For every command and every state there is a next state,
and it holds the same queue: no command faults, none is refused, and none puts a command of its own into the queue. -/
def Obligations.EveryCommandKeepsTheQueue : Prop :=
  ∀ (i : Instr) (s : State), ∃ t, exec i s = .next t ∧ t.pending = s.pending

/-- Fuses only blow: no step takes a blown fuse back or lowers a floor (R480, R485). Whatever command a step runs, no bit of the OTP
array that reads 1 returns to 0, no floor falls, and the identities programmed at manufacture stay. -/
def Obligations.FusesOnlyBlow : Prop :=
  ∀ s t : State, step s = .next t → Otp.OnlyBlows s.otp t.otp

/-- Once PROVLOCK is blown, only REVOKE and the floors can still change (R483). In a state whose PROVLOCK fuse is blown, no step
changes a key, the DEBUG fuse, PROVLOCK, or what was programmed at manufacture. -/
def Obligations.ProvLockClosesProvisioning : Prop :=
  ∀ s t : State, s.otp.provLock = true → step s = .next t → Otp.SameProvisioned s.otp t.otp

/-- Every step keeps both floors within their 128 fuses (R480, R485). If both floors are at most 128, they are at most 128 after any
step. -/
def Obligations.FloorsStayInTheirFuses : Prop :=
  ∀ s t : State, s.otp.FloorsFit → step s = .next t → t.otp.FloorsFit

/-- At reset both floors lie within their 128 fuses (R480, R485). The state after reset meets the invariant that every step keeps. -/
def Obligations.ResetFloorsFit : Prop :=
  State.reset.otp.FloorsFit

/-- With LOOP stopped or held, no LOOP event changes anything (R24, R92, R106). While the LOOP clock is stopped or a cold reset is
held, every command that is an event of the LOOP domain answers the state unchanged. -/
def Obligations.StoppedLoopIgnoresItsEvents : Prop :=
  ∀ (i : Instr) (s : State), inLoop i = true → s.dev.loopRuns = false → exec i s = .next s

/-- With SYS held in reset, no SYS event and no register write changes anything (R105, R107). While SYS is held in a warm or a cold
reset, every command that is an event of SYS or a write of a register answers the state unchanged. -/
def Obligations.HeldSysIgnoresItsEvents : Prop :=
  ∀ (i : Instr) (s : State), inSys i = true → s.dev.sysRuns = false → exec i s = .next s

/-- PRO.k.ACK acknowledges set sources and releases nothing (R330). A write of PRO.k.ACK marks as acknowledged exactly the set sources
whose bit is written 1 and changes nothing else but the target's alert, so it releases no output; on a device of a pair that
drives, the write changes no source until its use tick (R359), when it does the same there and on the partner; and a bit of
PRO.k.ACK reads 1 only while the same bit of PRO.k.STICKY does, so it clears with it. -/
def Obligations.AckMarksOnlySetSources : Prop :=
  (∀ (s : State) (k : Fin 24) (mask : Nat), s.dev.masterRuns .core = true → s.dev.loopClk = true → s.dev.ownWrite (F.PRO_ACK_ACK k).addr = true →
      ∃ x, exec (.ackWrite k mask) s = .next { s with dev := { s.dev with
        raised := s.dev.raised.map (fun r => if r.src / 32 = (k : Nat) ∧ mask.testBit (r.src % 32) then { r with acked := true } else r)
        target := x } })
    ∧ (∀ (s : State) (k : Fin 24) (mask : Nat), s.dev.masterRuns .core = true → s.dev.loopClk = true → s.dev.ownWrite (F.PRO_ACK_ACK k).addr = false →
      ∃ t, exec (.ackWrite k mask) s = .next t ∧ t.dev.raised = s.dev.raised)
    ∧ (∀ (d : Dev) (k : Fin 24) (mask : Nat), ∃ x, d.peerItem (.write (F.PRO_ACK_ACK k).addr mask) = { d with
        raised := d.raised.map (fun r => if r.src / 32 = (k : Nat) ∧ mask.testBit (r.src % 32) then { r with acked := true } else r)
        target := x })
    ∧ ∀ (d : Dev) (k j : Nat), (d.raised.map (·.src)).Nodup → (d.wAck k).testBit j = true → (d.wSticky k).testBit j = true

/-- Sources of one home do not escalate one another (R332). Where every source that stands raised, or stood so as the tick began, has
the home of a source s, a raise of s sets it with its base class in effect: the list of raised sources gains s, unacknowledged,
with its base class as its class in effect. And whatever else is set, the class in effect of s is judged as if the sources with
its home were not there, whether they stood before the tick or are raised in it. -/
def Obligations.SameHomeDoesNotEscalate : Prop :=
  (∀ (start batch : List Raised) (c : Cls) (s : Nat), judge start batch c s
      = judge (start.filter (fun x => home x.src != home s)) (batch.filter (fun x => home x.src != home s)) c s)
    ∧ ∀ (d : Dev) (s : Nat) (e : FaultEntry), d.entry s = some e → d.ready 12 = true → d.sticky s = false →
    (∀ x ∈ d.raised, home x.src = home s) → (∀ x ∈ d.proStart, home x.src = home s) → (d.raiseOne s).raised = putRaised ⟨s, e.cls, e.cls, false⟩ d.raised

/-- A clear of PRO.k.STICKY takes away exactly the named sources whose cause is gone (R11, R334, R335, R363). A taken W1C write to
PRO.k.STICKY completes; the sources left are those not named, those whose cause is present and those raised in the same SYS cycle
(R11), each with its class in effect and its acknowledgment as before; fuses, queue, configuration and time are unchanged. -/
def Obligations.StickyClearTakesOnlyGoneCauses : Prop :=
  ∀ (s : State) (k : Fin 24) (mask : Nat), s.Takes (F.PRO_STICKY_STICKY k).addr mask →
    ∃ t, exec (.stickyClear k mask) s = .next t ∧ t.pending = s.pending ∧ t.otp = s.otp
      ∧ t.dev.cfg = s.dev.cfg ∧ t.dev.loop = s.dev.loop ∧ t.dev.mem = s.dev.mem
      ∧ t.dev.raised = s.dev.raised.filter (fun x =>
          !(x.src / 32 == (k : Nat) && mask.testBit (x.src % 32) && !s.dev.freshSrc.contains x.src && !s.dev.causeNow x.src))

/-- A low KILL_N that the device does not itself sink raises KILLIN (R337, R373). Out of a cold reset, a change of KILL_N is taken as
its level. A low level raises KILLIN while PRO is READY and the device does not itself sink the line, but not on a duplex device
that hears no partner; any other level raises nothing. -/
def Obligations.KillLineRaisesKillin : Prop :=
  ∀ s : State, s.dev.rst.cold = false →
    exec (.killin false) s = .next (s.did (fun d => { d with killLow := false }))
    ∧ (s.dev.ready 12 = true → s.dev.killSink = false → (s.dev.isDuplex = true → s.dev.on F.DPX_STATUS_HBIN = true) →
        exec (.killin true) s = .next (s.did (fun d => ({ d with killLow := true } : Dev).raise 648)))
    ∧ (s.dev.ready 12 = false ∨ s.dev.killSink = true ∨ (s.dev.isDuplex = true ∧ s.dev.on F.DPX_STATUS_HBIN = false) →
        exec (.killin true) s = .next (s.did (fun d => { d with killLow := true })))

/-- A KILL_N that raises KILLIN as a HALT forces every configured Bench (R165, R322, R323, R337). Where KILLIN is mapped to HALT and
is not yet set, a low KILL_N that raises it leaves every configured Bench in FORCED, with fuses and queue unchanged. -/
def Obligations.HaltForcesEveryBench : Prop :=
  ∀ (s : State) (e : FaultEntry), s.dev.rst.cold = false → s.dev.ready 12 = true → s.dev.killSink = false → s.dev.isDuplex = false →
    s.dev.entry 648 = some e → e.cls = .halt → s.dev.sticky 648 = false →
    ∃ t, exec (.killin true) s = .next t ∧ t.pending = s.pending ∧ t.otp = s.otp
      ∧ ∀ n : Fin 16, s.dev.hasBench n = true → t.dev.get (F.BEN_STATUS_STATE n) = 5

/-- SAFESHUT asserts the SAFE shutdown line at its second reading, and is raised (R346, R347). With two readings in a row over its
threshold and the line not yet asserted, SAFESHUT asserts the line, shows it, sends the pulse that counts the shutdown and raises
its source; before that, or with the line asserted, it changes nothing. -/
def Obligations.SafeShutAssertsItsLine : Prop :=
  ∀ s : State,
    (s.dev.safeThm.asserted = false → 2 ≤ s.dev.safeThm.run →
      exec .safeshut s = .next (s.did (fun d => ((({ d with
        safeThm := { d.safeThm with asserted := true, restEnd := none }, safeLine := true } : Dev).setB F.THM_STATUS_SAFELINE true).fwPulse
          67).raise 627)))
    ∧ (s.dev.safeThm.asserted = true ∨ s.dev.safeThm.run < 2 → exec .safeshut s = .next s)

/-- The watchdog is serviced by its key; anything else, or its expiry, resets SYS (R105, R108). A landed write of 6C3Ah starts the
period afresh where its count is not paused, and changes nothing else. A write of another value counts as an expiry: it sets WDKEY
and raises a warm reset. A period that runs out after the boot ROM sets WDT and raises a warm reset. That a wrong key sets WDKEY
alone and not WDT as well is the model's reading (log entry 35). -/
def Obligations.WatchdogNeedsItsKey : Prop :=
  ∀ s : State,
    (∀ w, s.Lands .core F.RST_WDT_SVC_KEY.addr → w % 0x10000 = 0x6C3A → s.dev.rst.wdtLeft = none →
      exec (.watchdogService w) s = .next (s.did (fun d => { d with rst := { d.rst with
        wdtEnd := some (d.now + d.get F.RST_WDT_PERIOD * ms), wdtLeft := none } })))
    ∧ (∀ w, s.Lands .core F.RST_WDT_SVC_KEY.addr → w % 0x10000 ≠ 0x6C3A →
      exec (.watchdogService w) s = .next (s.did (fun d => (d.stick F.RST_CAUSE_WDKEY 1).sysReset (some (d.now + 10 * us)))))
    ∧ (s.dev.sysRuns = true → s.dev.rst.rom = false → due s.dev.rst.wdtEnd s.dev.now = true →
      exec .watchdogExpiry s = .next (s.did (fun d => (d.stick F.RST_CAUSE_WDT 1).sysReset (some (d.now + 10 * us)))))
    ∧ (due s.dev.rst.wdtEnd s.dev.now = false → exec .watchdogExpiry s = .next s)

/-- With DBG_FREEZE, a halt by the debugger pauses the watchdog and a resume runs it on (R109). While SYS runs, a halt of the core
with DBG_FREEZE set holds what is left of the running period and stops the count; a resume runs the period on from there; without
DBG_FREEZE the period runs on through the halt. -/
def Obligations.DebugHaltPausesTheWatchdog : Prop :=
  ∀ (s : State) (e : Nat), s.dev.sysRuns = true → s.dev.rst.wdtEnd = some e → s.dev.rst.wdtLeft = none →
    (s.dev.on F.RST_WDT_DBG_FREEZE = true → exec (.jtagCoreHalt true) s = .next (s.did (fun d => { d with
        rst := { d.rst with halted := true, wdtLeft := some (e - d.now), wdtEnd := none } })))
    ∧ (s.dev.on F.RST_WDT_DBG_FREEZE = false → exec (.jtagCoreHalt true) s = .next (s.did (fun d => { d with
        rst := { d.rst with halted := true } })))
    ∧ ∀ (u : State) (n : Nat), u.dev.sysRuns = true → u.dev.rst.wdtLeft = some n →
        exec (.jtagCoreHalt false) u = .next (u.did (fun d => { d with
          rst := { d.rst with halted := false, wdtLeft := none, wdtEnd := some (d.now + n) } }))

/-- A detected stop of the LOOP clock sinks every gate and asserts the SAFE line (R24, R87, R106). When the LOOP clock is found
stopped, its presence reads 0, the SAFE shutdown line is asserted, every slot's gate is sunk, and queue, fuses, configuration and
raised sources are kept; a stop of a clock that is already stopped changes nothing. -/
def Obligations.LoopStopSinksEveryGate : Prop :=
  ∀ s : State,
    (s.dev.on F.CLK_PRESENT_LOOP = true → ∃ t, exec .loopClockStop s = .next t ∧ t.pending = s.pending ∧ t.otp = s.otp
      ∧ t.dev.on F.CLK_PRESENT_LOOP = false ∧ t.dev.asyncLow = true ∧ t.dev.safeLine = true ∧ t.dev.cfg = s.dev.cfg
      ∧ t.dev.raised = s.dev.raised ∧ ∀ n : Fin 16, (t.dev.slot n).gate = .sink)
    ∧ (s.dev.on F.CLK_PRESENT_LOOP = false → exec .loopClockStop s = .next s)

/-- A field takes a word as its access code says (R10, R11, R12). Written with a word, an RO or WO field is left alone; a W1C or STK
field loses the bits written 1 that hardware has not set in the same SYS cycle; a W1S field gains them; an RWL field of a locked
block is left alone. The bits are those of the word at the field's place, and what the field reads then is cut at its width. -/
def Obligations.AccessCodesActAsTheTableSays : Prop :=
  ∀ (d : Dev) (g : WriteFlags) (a w : Nat) (r : FldRow),
    ((r.acc = .ro ∨ r.acc = .wo) → Dev.fieldWrite a w (d, g) r = (d, g))
    ∧ ((r.acc = .w1c ∨ r.acc = .stk) → (Dev.fieldWrite a w (d, g) r).1.get (r.at a)
        = min (clr (d.get (r.at a)) (clr (w / 2 ^ r.lo % 2 ^ r.width) (d.freshBits (r.at a).key))) (r.at a).top)
    ∧ (r.acc = .w1s → (Dev.fieldWrite a w (d, g) r).1.get (r.at a)
        = min (d.get (r.at a) ||| (w / 2 ^ r.lo % 2 ^ r.width)) (r.at a).top)
    ∧ (r.acc = .rwl → d.locked a = true → (Dev.fieldWrite a w (d, g) r).1 = d)

/-- A duplex device that stands by refuses register writes to LOOP blocks, and another one delays them (R358, R359, R360, R363). In
STANDBY, SYNC or SPLIT, a write that a master may make to a register of LOOP other than DPX's and PRO.k.ACK only counts in
DPX.COUNTS.REFUSED and leaves a NOTE. On a duplex device in another state such a write, PRO.k.ACK's too, enters the frames and
waits for its use tick, when it is carried out. -/
def Obligations.StandbyRefusesLoopWrites : Prop :=
  ∀ (s : State) (m : Master) (a w : Nat), s.dev.masterRuns m = true → s.dev.loopClk = true → s.dev.mayWrite m (wordAddr a) = true →
    loopRegion (regionOf (wordAddr a)) = true → regionOf (wordAddr a) ≠ 16 →
    (s.dev.standsBy = true → ¬ (0xE0200 ≤ wordAddr a ∧ wordAddr a < 0xE0260) →
      exec (.registerWrite m a w) s = .next (s.did (fun d =>
        (d.inc F.DPX_COUNTS_REFUSED).note 2 (wordAddr a) w (d.plainWord (wordAddr a)))))
    ∧ (s.dev.isDuplex = true → s.dev.standsBy = false →
      exec (.registerWrite m a w) s = .next (s.did (fun d => d.pairPut (.write (wordAddr a) w))))
    ∧ (∀ d : Dev, d.peerItem (.write (wordAddr a) w) = d.loopWrite (wordAddr a) w)

/-- SYNC that lasts 10 ms and SPLIT that lasts 2 us without a decision end in FENCED (R355, R371). With LOOP running, the end of
either timer in its state takes the device to FENCED; in another state, before its end, or with a decision for SOLO already on its
way, the event changes nothing but what SEQ and ENG then see. -/
def Obligations.DuplexTimeoutsFence : Prop :=
  ∀ s : State, s.dev.loopRuns = true →
    (s.dev.dpxState = dpxSync → due s.dev.dpx.syncEnd s.dev.loop = true →
      exec .syncTimeout s = .next (s.looped (fun d => d.dpxGo dpxFenced)))
    ∧ (s.dev.dpxState = dpxSplit → due s.dev.dpx.splitEnd s.dev.loop = true → s.dev.dpx.driveAt = none →
      exec .splitTimeout s = .next (s.looped (fun d => d.dpxGo dpxFenced)))
    ∧ (s.dev.dpxState ≠ dpxSync ∨ due s.dev.dpx.syncEnd s.dev.loop = false → exec .syncTimeout s = .next (s.looped id))
    ∧ (s.dev.dpxState ≠ dpxSplit ∨ due s.dev.dpx.splitEnd s.dev.loop = false ∨ s.dev.dpx.driveAt.isSome = true → exec .splitTimeout s = .next (s.looped id))

/-- A shed takes a slot in RAMP, GOOD or SEATED to SHED with its gate sunk, and counts nothing (R294, R295). With LOOP running, a shed
request to a present slot in RAMP, GOOD or SEATED puts it into SHED with its gate sunk; its retry count and retry timer, every
raised source and every other slot stay as they were. In any other state the request is recorded and the slot's state and gate
stay. -/
def Obligations.ShedSinksTheGate : Prop :=
  ∀ (s : State) (n : Fin 16) (b : ShedBy), s.dev.loopRuns = true → s.dev.hasSlot n = true →
    ∃ d : Dev, exec (.slotShed n b) s = .next { s with dev := d.settle } ∧ d.raised = s.dev.raised ∧ d.cfg = s.dev.cfg
      ∧ d.get (F.HSW_STATUS_COUNT n) = s.dev.get (F.HSW_STATUS_COUNT n) ∧ (d.slot n).retryEnd = (s.dev.slot n).retryEnd
      ∧ (∀ k : Fin 16, k ≠ n → d.slot k = s.dev.slot k) ∧ (d.slot n).shedReq = true
      ∧ ((s.dev.slot n).state = .ramp ∨ (s.dev.slot n).state = .good ∨ (s.dev.slot n).state = .seated →
          (d.slot n).state = .shed ∧ (d.slot n).gate = .sink)
      ∧ ((s.dev.slot n).state ≠ .ramp → (s.dev.slot n).state ≠ .good → (s.dev.slot n).state ≠ .seated →
          (d.slot n).state = (s.dev.slot n).state ∧ (d.slot n).gate = (s.dev.slot n).gate)

/-- The over-current, SOA, ramp and gate-fail timers trip a slot only when they have run (R277, R281, R283, R290). With LOOP running,
on a slot in RAMP or GOOD, or one that has left them in this very tick (the model's reading, log entry 62): IMEAN above IOC for
TOC is the over-current trip and an SOA count at TSOA the SOA trip; TRAMP run out is the ramp trip, but not in GOOD; ENH low for
10 us is GATEFAIL, but not in RAMP. Before that, and on a slot that does not run, each event changes nothing but what SEQ and ENG
then see. -/
def Obligations.SlotTimersTripOnlyWhenDue : Prop :=
  ∀ (s : State) (n : Fin 16), s.dev.loopRuns = true →
    (s.dev.slotRan n = true → due (s.dev.slot n).ocEnd s.dev.loop = true →
      exec (.slotOcExpiry n) s = .next (s.looped (fun d => d.slotTrip n 1)))
    ∧ (s.dev.slotRan n = true → 0 < (s.dev.slot n).soaCount →
      s.dev.effN (F.HSW_SOA_TSOA n) ≤ (s.dev.slot n).soaCount → exec (.soaExpiry n) s = .next (s.looped (fun d => d.slotTrip n 2)))
    ∧ (s.dev.slotRan n = true → (s.dev.slot n).state ≠ .good → due (s.dev.slot n).rampEnd s.dev.loop = true →
      exec (.ramptimeExpiry n) s = .next (s.looped (fun d => d.slotTrip n 3)))
    ∧ (s.dev.slotRan n = true → (s.dev.slot n).state ≠ .ramp → due (s.dev.slot n).gateEnd s.dev.loop = true →
      exec (.gatefailExpiry n) s = .next (s.looped (fun d => d.slotTrip n 4)))
    ∧ (s.dev.slotRan n = false ∨ due (s.dev.slot n).ocEnd s.dev.loop = false → exec (.slotOcExpiry n) s = .next (s.looped id))
    ∧ (s.dev.slotRan n = false ∨ (s.dev.slot n).soaCount < s.dev.effN (F.HSW_SOA_TSOA n) → exec (.soaExpiry n) s = .next (s.looped id))
    ∧ (s.dev.slotRan n = false ∨ due (s.dev.slot n).rampEnd s.dev.loop = false → exec (.ramptimeExpiry n) s = .next (s.looped id))
    ∧ (s.dev.slotRan n = false ∨ due (s.dev.slot n).gateEnd s.dev.loop = false → exec (.gatefailExpiry n) s = .next (s.looped id))

/-- A GOOD rail out of its window for FAILDB fails with its group's RAILFAIL (R256, R257, R258, R266). With LOOP running, the end of
FAILDB on a live rail in GOOD takes it to FAILED, its cause 4 for a condition and 1 for a window, with RAILFAIL of its group as
its source; before it, in another state or on a rail that is not live, the event changes nothing but what SEQ and ENG then see. -/
def Obligations.RailFailsAfterFaildb : Prop :=
  ∀ (s : State) (r : Fin 1024) (c : RailCfg), s.dev.loopRuns = true → s.dev.railCfg r = some c →
    (c.live = true → s.dev.rstate r = .good → s.dev.ranFor c (s.dev.rail r).failRun c.faildb = true →
      exec (.railFailDebounce r) s = .next (s.looped (fun d =>
        (d.railFail c (match c.kind with | .cond _ => 4 | _ => 1) (srcSeq 1 c.group)).showGroups)))
    ∧ (c.live = false ∨ s.dev.rstate r ≠ .good ∨ s.dev.ranFor c (s.dev.rail r).failRun c.faildb = false →
      exec (.railFailDebounce r) s = .next (s.looped id))

/-- A START is acted on in OFF, held before BEN READY, refused in STOPPING and dropped elsewhere (R165). With LOOP running, a START to
a configured Bench in OFF enters PRESTART if BEN is READY and is held if it is not; in STOPPING it leaves a NOTE and nothing else;
in any other state, or on a Bench that is not configured, it changes nothing but what SEQ and ENG then see. -/
def Obligations.StartActsOnlyInOff : Prop :=
  ∀ (s : State) (n : Fin 16), s.dev.loopRuns = true →
    (s.dev.hasBench n = true → s.dev.get (F.BEN_STATUS_STATE n) = 0 → s.dev.ready 2 = true →
      exec (.benchStart n) s = .next (s.looped (fun d => d.prestartEnter n)))
    ∧ (s.dev.hasBench n = true → s.dev.get (F.BEN_STATUS_STATE n) = 0 → s.dev.ready 2 = false →
      exec (.benchStart n) s = .next (s.looped (fun d => d.modBench n (fun b => { b with startHeld := true }))))
    ∧ (s.dev.hasBench n = true → s.dev.get (F.BEN_STATUS_STATE n) = 4 →
      exec (.benchStart n) s = .next (s.looped (fun d => d.note 3 (0x40000 + 0x100 * n) 0 (d.plainWord (0x40000 + 0x100 * n)))))
    ∧ (s.dev.hasBench n = false ∨ (s.dev.get (F.BEN_STATUS_STATE n) ≠ 0 ∧ s.dev.get (F.BEN_STATUS_STATE n) ≠ 4) →
      exec (.benchStart n) s = .next (s.looped id))

/-- A CAPQ sets PASSIGN to q times what this shelf sent, and none lifts it (R222, R224, R391). With LOOP running, a broadcast tells
that the manager is present; one of none sets PASSIGN to FFFF_FFFFh, and a broadcast of q for a sequence number under which this
shelf sent a contribution sets PASSIGN to q / 65,536 of it, in whole milliwatts; LINKHOLD clears. Rounding down is the model's
choice (log entry 7). -/
def Obligations.BroadcastSetsTheAssignment : Prop :=
  ∀ (s : State) (q seq : Nat) (x : Nat × Nat), s.dev.loopRuns = true →
    exec (.capqRx q seq true) s = .next (s.looped (fun d =>
      (d.fromManager.setB F.CAP_STATUS_LINKHOLD false).set F.CAP_PASSIGN_PASSIGN 0xFFFFFFFF))
    ∧ (s.dev.cap.sent.find? (fun y => y.1 == seq) = some x →
      exec (.capqRx q seq false) s = .next (s.looped (fun d =>
        (d.fromManager.setB F.CAP_STATUS_LINKHOLD false).set F.CAP_PASSIGN_PASSIGN (q * x.2 / 65536))))

/-- The shutdown commits at w + R and not before (R239, R241). With LOOP running, the commit takes place in WARNING once the reprieve
has run from the tick of the warning; in WARNING before that, and in every other state, the event changes nothing but what SEQ and
ENG then see. -/
def Obligations.CommitWaitsForTheReprieve : Prop :=
  ∀ s : State, s.dev.loopRuns = true →
    (s.dev.get F.ENG_STATUS_STATE = 4 → s.dev.eng.w + s.dev.reprieve * ms ≤ s.dev.loop →
      exec .engCommit s = .next (s.looped (fun d => d.commitNow)))
    ∧ (s.dev.get F.ENG_STATUS_STATE = 4 → s.dev.loop < s.dev.eng.w + s.dev.reprieve * ms → exec .engCommit s = .next (s.looped id))
    ∧ (s.dev.get F.ENG_STATUS_STATE ≠ 4 → exec .engCommit s = .next (s.looped id))

/-- One LOST record declares the records not admitted, once there is space (R412, R414). While SYS runs and EVR is READY, with records
lost and space for one more, a LOST record with their number and their first and last ticks is admitted and the tally starts
afresh; with none lost, the command changes nothing. -/
def Obligations.LostRecordDeclaresWhatWasLost : Prop :=
  ∀ s : State, s.dev.sysRuns = true →
    (0 < s.dev.evr.lostN → s.dev.ready 18 = true → admitted 12 40 s.dev.ringUsed = true →
      exec .lostRecordWrite s = .next (s.did (fun d =>
        (d.record 12 0 d.tim (le 4 d.evr.lostN ++ le 8 d.evr.lostFirst ++ le 8 d.evr.lostLast)).modEvr (fun e => { e with
          lostN := 0, lostFirst := 0, lostLast := 0 }))))
    ∧ (s.dev.evr.lostN = 0 → exec .lostRecordWrite s = .next s)

/-- A Clamp that arrives while the set is HELD latches nothing and is counted in MISSED (R402, R405). With LOOP running, PINEN set,
SNP READY and the set HELD, a Clamp on the pin that is not merged leaves the latched set as it was and raises MISSED by one,
saturating; the raised sources and the configuration stay. -/
def Obligations.HeldSetIsNotLatchedAnew : Prop :=
  ∀ s : State, s.dev.loopRuns = true → s.dev.on F.SNP_CTRL_PINEN = true → s.dev.ready 17 = true → s.dev.on F.SNP_STATUS_HELD = true →
    s.dev.clampMerges s.dev.tim s.dev.node s.dev.tim = false →
    ∃ d : Dev, exec .clampPinEdge s = .next { s with dev := d.settle } ∧ d.snap = s.dev.snap ∧ d.raised = s.dev.raised
      ∧ d.cfg = s.dev.cfg ∧ d.on F.SNP_STATUS_HELD = true
      ∧ d.get F.SNP_COUNTS_MISSED = min (s.dev.get F.SNP_COUNTS_MISSED + 1) F.SNP_COUNTS_MISSED.top

/-- A host command code outside the table does nothing and is counted (R100, R427). Out of a cold reset, on a device that a feed
powers, with the crossing of HST.COUNTS.PROTO idle, an unknown command or a transaction cut short raises HST.COUNTS.PROTO by one,
saturating; no register field but that counter and HST.H_LAST changes, and memory, raised sources, page ownership, fuses and queue
stay. -/
def Obligations.UnknownHostCommandOnlyCounts : Prop :=
  ∀ s : State, s.dev.rst.cold = false → (s.dev.sup.a || s.dev.sup.b) = true → (s.dev.fwx 66).busy = false →
    ∃ t, exec .hostUnknownCommand s = .next t ∧ t.pending = s.pending ∧ t.otp = s.otp ∧ t.dev.mem = s.dev.mem
      ∧ t.dev.raised = s.dev.raised ∧ t.dev.hst = s.dev.hst ∧ t.dev.cfg = s.dev.cfg
      ∧ t.dev.get F.HST_COUNTS_PROTO = min (s.dev.get F.HST_COUNTS_PROTO + 1) F.HST_COUNTS_PROTO.top
      ∧ ∀ f : Fld, f.key ≠ F.HST_COUNTS_PROTO.key → f.key ≠ F.HST_H_LAST_CMD.key → f.key ≠ F.HST_H_LAST_ADDR.key →
          t.dev.get f = s.dev.get f

/-- A core access to a page that is not DEVICE faults; a store to one that is enters the write buffer (R437, R439). While SYS and the
core run, a load or a store to a page that is not DEVICE sets CFAULT and nothing else; a load from a DEVICE page changes nothing;
a store to one enters the write buffer behind what waits there while the buffer has room. -/
def Obligations.CoreTouchesOnlyDevicePages : Prop :=
  ∀ (s : State) (off : Nat) (st : Option Nat) (w : Nat), s.dev.sysRuns = true → s.dev.coreRuns = true →
    (s.dev.own (off / 0x1000) ≠ ownDev → exec (.coreDrawerAccess off st) s = .next (s.did (fun d => d.stick F.WIN_STATUS_CFAULT 1)))
    ∧ (s.dev.own (off / 0x1000) = ownDev → exec (.coreDrawerAccess off none) s = .next s)
    ∧ (s.dev.own (off / 0x1000) = ownDev → s.dev.wbuf.length < 4 →
        exec (.coreDrawerAccess off (some w)) s = .next (s.did (fun d => { d with wbuf := d.wbuf ++ [(off / 4 * 4, w)] })))

/-- A BAD page that the core frees reads zero everywhere, and no other byte changes (R436). While SYS runs, the end of the zeroing of
a page leaves every byte of the page 0 and every other byte of memory as it was; a page that is not being zeroed is left alone. -/
def Obligations.ZeroedPageReadsZero : Prop :=
  ∀ (s : State) (p : Fin 64), s.dev.sysRuns = true →
    (s.dev.zeroing.contains (p : Nat) = true → ∃ t, exec (.pageZeroDone p) s = .next t ∧ t.pending = s.pending ∧ t.otp = s.otp
      ∧ t.dev.raised = s.dev.raised ∧ t.dev.cfg = s.dev.cfg ∧ t.dev.zeroing.contains (p : Nat) = false
      ∧ (∀ a, drawerBase + 0x1000 * p ≤ a → a < drawerBase + 0x1000 * p + 0x1000 → Memory.read a t.dev.mem = 0)
      ∧ (∀ a, a < drawerBase + 0x1000 * p ∨ drawerBase + 0x1000 * p + 0x1000 ≤ a →
          Memory.read a t.dev.mem = Memory.read a s.dev.mem))
    ∧ (s.dev.zeroing.contains (p : Nat) = false → exec (.pageZeroDone p) s = .next s)

/-- A bus error stops every DMA channel and is shown with its address and direction (R449). While SYS runs and no bus error stands
once the words already issued are written, a bus error leaves no channel BUSY, STOPPED set on each that was, BUSERR and the
direction set, and the address in ERRADDR; memory stays as those words left it. -/
def Obligations.BusErrorStopsEveryChannel : Prop :=
  ∀ (s : State) (addr : Nat) (wr : Bool) (l : List (Nat × Nat)) (u : State), s.dev.sysRuns = true →
    l.foldl (fun s x => s.dmaProgress x.1 x.2) s = u → u.dev.on F.DMA_GSTATUS_BUSERR = false →
    ∃ t, exec (.dmaBusError addr wr l) s = .next t ∧ t.pending = u.pending ∧ t.otp = u.otp ∧ t.dev.mem = u.dev.mem
      ∧ (∀ c : Fin 7, t.dev.on (F.DMA_STATUS_BUSY c) = false
          ∧ (u.dev.on (F.DMA_STATUS_BUSY c) = true → t.dev.on (F.DMA_STATUS_STOPPED c) = true))
      ∧ t.dev.on F.DMA_GSTATUS_BUSERR = true ∧ t.dev.on F.DMA_GSTATUS_ERRWR = wr
      ∧ t.dev.get F.DMA_ERRADDR_ADDR = min addr F.DMA_ERRADDR_ADDR.top

/-- The two-wire target answers its constant commands, and only where it acknowledges (R463, R464). While the target acknowledges,
CAPABILITY answers D0h, PMBUS_REVISION 33h, MFR_ID the block STW and MFR_MODEL the block KSC960, and nothing else changes; while
it does not, none of them changes anything. -/
def Obligations.TargetNamesItself : Prop :=
  ∀ s : State,
    (s.dev.tgtOn = true →
      exec .tgtCapability s = .next (s.did (fun d => { d with out := d.out ++ [.reply 1 [0xD0]] }))
      ∧ exec .tgtPmbusRevision s = .next (s.did (fun d => { d with out := d.out ++ [.reply 1 [0x33]] }))
      ∧ exec .tgtMfrId s = .next (s.did (fun d => { d with out := d.out ++ [.reply 1 [3, 0x53, 0x54, 0x57]] }))
      ∧ exec .tgtMfrModel s = .next (s.did (fun d => { d with out := d.out ++ [.reply 1 [6, 0x4B, 0x53, 0x43, 0x39, 0x36, 0x30]] })))
    ∧ (s.dev.tgtOn = false → exec .tgtCapability s = .next s ∧ exec .tgtPmbusRevision s = .next s ∧ exec .tgtMfrId s = .next s
      ∧ exec .tgtMfrModel s = .next s)

/-- A port in use leaves DOWN when its receive clock appears, and returns after 100 us without alignment (R87, R385). With LOOP
running, a receive clock on a used port in DOWN takes it to ACQUIRE with 100 us to align; the end of that time in ACQUIRE takes it
back to DOWN; in every other state, and on a port not in use, neither event changes anything but what SEQ then sees. -/
def Obligations.PortAcquiresOrFallsBack : Prop :=
  ∀ (s : State) (p : Fin 3), s.dev.loopRuns = true →
    (s.dev.usedPorts.contains (p : Nat) = true → s.dev.port p = portDown →
      exec (.portRxClockPresent p) s = .next (s.looped (fun d =>
        (d.set (F.LNK_STATUS_STATE p) portAcquire).modPort p (fun x => { x with acqEnd := some (d.now + 100 * us) }))))
    ∧ (s.dev.usedPorts.contains (p : Nat) = false ∨ s.dev.port p ≠ portDown → exec (.portRxClockPresent p) s = .next (s.looped id))
    ∧ (s.dev.port p = portAcquire → due (s.dev.portSt p).acqEnd s.dev.now = true →
      exec (.acquireTimeout p) s = .next (s.looped (fun d => (d.set (F.LNK_STATUS_STATE p) portDown).modPort p (fun _ => {}))))
    ∧ (s.dev.port p ≠ portAcquire ∨ due (s.dev.portSt p).acqEnd s.dev.now = false →
      exec (.acquireTimeout p) s = .next (s.looped id))

/-- Source over-current takes the port to error recovery, which ends after 25 ms (R473, R475). Out of a cold reset, over-current at a
source takes the port to error recovery with 25 ms of open lines; a port that is no source is left alone. The end of those 25 ms
in error recovery returns the port to UNATTACHED; before it, nothing changes. -/
def Obligations.OvercurrentOpensThePort : Prop :=
  ∀ s : State, s.dev.rst.cold = false →
    (s.dev.ccState = ccSource → exec (.sourceOvercurrent false) s = .next (s.did (fun d =>
      (d.ccLeave ccError).modCpd (fun c => { c with openEnd := some (d.now + 25 * ms) }))))
    ∧ (s.dev.ccState ≠ ccSource → exec (.sourceOvercurrent false) s = .next s)
    ∧ (s.dev.ccState = ccError → due s.dev.cpd.openEnd s.dev.now = true → exec .errorRecoveryEnd s = .next (s.did (fun d =>
      (d.modCpd (fun c => { c with openEnd := none })).set F.CPD_STATUS_STATE ccNone)))
    ∧ (s.dev.ccState ≠ ccError ∨ due s.dev.cpd.openEnd s.dev.now = false → exec .errorRecoveryEnd s = .next s)

/-- A trial is confirmed by the core's key inside the window, and by no other master (R485, R496, R497). A landed write to UPD.CONFIRM
by another master than the core leaves a NOTE and nothing else. The core's 7C15h in a trial whose window has not ended raises the
floors to what the confirmed slot carries, and makes the slot CONFIRMED and ACTIVE with TRIALBOOT 0. A wrong key, no trial, or a
window that has ended changes nothing. -/
def Obligations.OnlyFirmwareConfirmsATrial : Prop :=
  ∀ (s : State) (m : Master) (key : Nat), s.Lands m F.UPD_CONFIRM_KEY.addr →
    (m ≠ .core → exec (.updConfirm m key) s = .next (s.did (fun d => d.note 2 0x1B0014 key 0)))
    ∧ (m = .core → key % 0x10000 = 0x7C15 → s.dev.upd.st = updTrial → due s.dev.upd.trialEnd s.dev.now = false →
        exec (.updConfirm m key) s = .next { s with
          otp := s.otp.raise (s.dev.upd.slot s.dev.upd.other).all
          dev := ((s.dev.modUpd (fun u => u.writeBoot
            { u.boot.put s.dev.upd.other 3 with active := s.dev.upd.other, trialBoot := 0 })).packageOver).showOtp
              (s.otp.raise (s.dev.upd.slot s.dev.upd.other).all) })
    ∧ (m = .core → key % 0x10000 ≠ 0x7C15 ∨ s.dev.upd.st ≠ updTrial ∨ due s.dev.upd.trialEnd s.dev.now = true →
        exec (.updConfirm m key) s = .next s)

/-- A Dowel's delay timer sets its output when its window has run, and not before (R17, R136). With LOOP running, the end of the
window of an on-delay timer stops the timer and sets the Dowel's output; that of an off-delay or pulse timer clears it; before the
end, and for a Dowel that is not configured, nothing changes but what SEQ and ENG then see. -/
def Obligations.OnDelayRaisesItsDowelWhenDue : Prop :=
  ∀ (s : State) (k : Fin 256) (c : DowelCfg), s.dev.loopRuns = true →
    (s.dev.dowelCfg k = some c → due (s.dev.dowel k).deadline s.dev.loop = true → c.mode = .onDelay →
      exec (.dowelTimerExpiry k) s = .next (s.looped (fun d => (d.modDowel k (fun y => { y with deadline := none })).dowelSet c true)))
    ∧ (s.dev.dowelCfg k = some c → due (s.dev.dowel k).deadline s.dev.loop = true → c.mode = .offDelay ∨ c.mode = .pulse →
      exec (.dowelTimerExpiry k) s = .next (s.looped (fun d => (d.modDowel k (fun y => { y with deadline := none })).dowelSet c false)))
    ∧ (s.dev.dowelCfg k = none ∨ due (s.dev.dowel k).deadline s.dev.loop = false →
      exec (.dowelTimerExpiry k) s = .next (s.looped id))

/-- Every command on supplies, resets, clocks and READY completes with its block's operation (R34, R67, R86, R87, R96, R97, R105,
R107, R108, R109). Each of these commands answers a next state, the one that its block's own operation gives, wherever it can act:
an event of LOOP while LOOP runs, an event of SYS while SYS runs, one of the service port out of a cold reset, a register write
where it gets to its block. Queue and fuses stay as they are but where the operation names the fuses. Commands: feedGood,
feedLost, powerOnReset, porstNLow, resetRelease, rstCtrlCold, rstCtrlWarm, watchdogService, watchdogExpiry, sysPllUnlock,
loopClockStop, loopClockReturn, clockPresenceChange, readySet, rstBlockNv, rstBlockLink, rstBlockTwoWire, rstBlockHost,
rstBlockCpd, fifoResyncDone, nvClockStop, nvRateWrite, servicePowerApplied, pllLockChange, coreMemoryEccError, jtagCoreHalt. -/
def Obligations.PowerCommandsComplete : Prop :=
  ∀ s : State,
    (∀ (f : FeedRise), exec (.feedGood f) s = .next (s.did (fun d => d.feedGood (f.feed == 1) f.vhk)))
    ∧ (∀ (f : Fin 2), exec (.feedLost f) s = .next (s.did (fun d => d.feedLost (f == 1))))
    ∧ (exec .powerOnReset s = .next (s.did (fun d => d.powerOn)))
    ∧ (exec .porstNLow s = .next (s.did (fun d => d.porstLow)))
    ∧ (∀ (bootsel : Fin 4) (side : Bool) (io : Fin 32), exec (.resetRelease bootsel side io) s = .next (s.did (fun d => d.release bootsel side io)))
    ∧ (∀ (key : Nat) (warm : Bool), s.Lands .core F.RST_CTRL_KEY.addr → exec (.rstCtrlCold key warm) s = .next (s.did (fun d => d.rstCtrl (key * 2 ^ 16 + 2 + warm.toNat))))
    ∧ (∀ (key : Nat), s.Lands .core F.RST_CTRL_KEY.addr → exec (.rstCtrlWarm key) s = .next (s.did (fun d => d.rstCtrl (key * 2 ^ 16 + 1))))
    ∧ (∀ (w : Nat), s.Lands .core F.RST_WDT_SVC_KEY.addr → exec (.watchdogService w) s = .next (s.did (fun d => d.wdtService w)))
    ∧ (exec .watchdogExpiry s = .next (s.did (fun d => d.wdtExpiry)))
    ∧ (exec .sysPllUnlock s = .next (s.did (fun d => d.sysUnlock)))
    ∧ (exec .loopClockStop s = .next (s.did (fun d => d.loopStop)))
    ∧ (exec .loopClockReturn s = .next (s.did (fun d => d.loopReturn)))
    ∧ (∀ (clk : Fin 13) (present : Bool), exec (.clockPresenceChange clk present) s = .next (s.did (fun d => d.presence clk present)))
    ∧ (∀ (bit : Fin 27), exec (.readySet bit) s = .next (s.did (fun d => d.readySet s.otp bit)))
    ∧ (∀ (p : Fin 2), s.Lands .core F.RST_BLOCK_NVA.addr → exec (.rstBlockNv p) s = .next (s.did (fun d => d.rstBlock (2 ^ (p : Nat)))))
    ∧ (∀ (p : Fin 3), s.Lands .core F.RST_BLOCK_NVA.addr → exec (.rstBlockLink p) s = .next (s.did (fun d => d.rstBlock (2 ^ (2 + (p : Nat))))))
    ∧ (∀ (x : Fin 4) (sda : Sda), s.dev.sysRuns = true → exec (.rstBlockTwoWire x sda) s = .next (s.did (fun d => d.blockTw x sda)))
    ∧ (s.Lands .core F.RST_BLOCK_NVA.addr → exec .rstBlockHost s = .next (s.did (fun d => d.rstBlock (2 ^ 9))))
    ∧ (s.Lands .core F.RST_BLOCK_NVA.addr → exec .rstBlockCpd s = .next (s.did (fun d => d.rstBlock (2 ^ 10))))
    ∧ (∀ (fifo : Fin 7) (discarded : Nat), s.dev.rst.cold = false → exec (.fifoResyncDone fifo discarded) s = .next (s.did (fun d => d.fifoDone fifo discarded)))
    ∧ (∀ (p : Fin 2), s.dev.rst.cold = false → exec (.nvClockStop p) s = .next (s.did (fun d => d.nvStop p)))
    ∧ (∀ (p : Fin 2) (v : Bool), s.Lands .core F.CLK_CTRL_NVA_RATE.addr → exec (.nvRateWrite p v) s = .next (s.did (fun d => d.clkCtrl (d.wordWith (if p = 0 then F.CLK_CTRL_NVA_RATE else F.CLK_CTRL_NVB_RATE) v.toNat))))
    ∧ (∀ (on : Bool), exec (.servicePowerApplied on) s = .next (s.did (fun d => d.vbusS on)))
    ∧ (∀ (pll : Fin 4) (locked : Bool), exec (.pllLockChange pll locked) s = .next (s.did (fun d => d.pllLock pll locked)))
    ∧ (s.dev.sysRuns = true → exec .coreMemoryEccError s = .next (s.did (fun d => d.coreMemEcc)))
    ∧ (∀ (halt : Bool), s.dev.sysRuns = true → exec (.jtagCoreHalt halt) s = .next (s.did (fun d => d.coreHalt halt)))

/-- Every command on registers and the fault collection completes with its block's operation (R7, R10, R12, R433, R316, R326, R330,
R334, R337). Each of these commands answers a next state, the one that its block's own operation gives, wherever it can act: an
event of LOOP while LOOP runs, an event of SYS while SYS runs, one of the service port out of a cold reset, a register write where
it gets to its block. Queue and fuses stay as they are but where the operation names the fuses. Commands: lockWrite,
registerWrite, stickyClear, ackWrite, fwraiseWrite, killin. -/
def Obligations.RegisterAndFaultCommandsComplete : Prop :=
  ∀ s : State,
    (∀ (addr : Nat) (f : Fld), lockOf addr = some f → s.Lands .core f.addr → exec (.lockWrite addr) s = .next (s.landed .core f.addr (s.dev.wordWith f 1)))
    ∧ (∀ (m : Master) (addr w : Nat), s.Lands m addr → exec (.registerWrite m addr w) s = .next (s.landed m addr w))
    ∧ (∀ (k : Fin 24) (mask : Nat), s.Takes (F.PRO_STICKY_STICKY k).addr mask → exec (.stickyClear k mask) s = .next (s.did (fun d => d.stickyClear k mask)))
    ∧ (∀ (k : Fin 24) (mask : Nat), s.Takes (F.PRO_ACK_ACK k).addr mask → exec (.ackWrite k mask) s = .next (s.did (fun d => d.ackWrite k mask)))
    ∧ (∀ (hi : Bool) (mask : Nat), s.Takes (F.PRO_FWRAISE0_RAISE.addr + 4 * hi.toNat) mask → exec (.fwraiseWrite hi mask) s = .next (s.did (fun d => d.fwRaise hi mask)))
    ∧ (∀ (low : Bool), s.dev.rst.cold = false → exec (.killin low) s = .next (s.did (fun d => d.killLine low)))

/-- Every command on the boot and its loads completes with its block's operation (R100, R111, R138, R140). Each of these commands
answers a next state, the one that its block's own operation gives, wherever it can act: an event of LOOP while LOOP runs, an
event of SYS while SYS runs, one of the service port out of a cold reset, a register write where it gets to its block. Queue and
fuses stay as they are but where the operation names the fuses. Commands: firmwareLoad, bitstreamLoad, bootHandoff,
hostBootTimeout, pulseTransferDone. -/
def Obligations.BootCommandsComplete : Prop :=
  ∀ s : State,
    (∀ (img : Image), exec (.firmwareLoad img) s = .next (s.did (fun d => d.firmwareLoad s.otp img)))
    ∧ (∀ (img : Image), exec (.bitstreamLoad img) s = .next (s.did (fun d => d.bitstreamLoad s.otp img)))
    ∧ (exec .bootHandoff s = .next (s.did (fun d => d.handoff)))
    ∧ (exec .hostBootTimeout s = .next (s.did (fun d => d.hostBootEnd)))
    ∧ ((∀ (j : Fin 68), 64 ≤ (j : Nat) → (j : Nat) < 67 → s.dev.sysRuns = true → exec (.pulseTransferDone j) s = .next (s.did (fun d => d.pulseDone j)))
    ∧ (∀ (j : Fin 68), ¬ (64 ≤ (j : Nat) ∧ (j : Nat) < 67) → s.dev.loopRuns = true → exec (.pulseTransferDone j) s = .next (s.looped (fun d => d.pulseDone j))))

/-- Every command on partial loads, swaps, the scrub and Dowels completes with its block's operation (R136, R143, R144, R145, R148).
Each of these commands answers a next state, the one that its block's own operation gives, wherever it can act: an event of LOOP
while LOOP runs, an event of SYS while SYS runs, one of the service port out of a cold reset, a register write where it gets to
its block. Queue and fuses stay as they are but where the operation names the fuses. Commands: partialLoadGo, partialLoadDone,
swapGo, benchSwap, scrubPass, dowelTimerExpiry. -/
def Obligations.FabricCommandsComplete : Prop :=
  ∀ s : State,
    (∀ (page : Fin 64) (count : Fin 32) (planes : Nat), s.dev.sysRuns = true → exec (.partialLoadGo page count planes) s = .next (s.did (fun d => d.partialGo page count planes)))
    ∧ (∀ (part : Container), s.dev.sysRuns = true → exec (.partialLoadDone part) s = .next (s.did (fun d => d.partialDone s.otp part)))
    ∧ (∀ (mask : Nat) (differs : Nat), s.dev.sysRuns = true → exec (.swapGo mask differs) s = .next (s.did (fun d => d.swapWrite mask differs)))
    ∧ (∀ (n : Fin 16) (differs : Bool), s.dev.loopRuns = true → exec (.benchSwap n differs) s = .next (s.looped (fun d => ((d.benchSwap n differs).swapWatch).revertWatch)))
    ∧ (∀ (findings : List ScrubFinding), s.dev.rst.cold = false → exec (.scrubPass findings) s = .next (s.did (fun d => d.scrub findings)))
    ∧ (∀ (k : Fin 256), s.dev.loopRuns = true → exec (.dowelTimerExpiry k) s = .next (s.looped (fun d => d.dowelExpiry k)))

/-- Every command on Benches, current senses and PWM completes with its block's operation (R157, R160, R165, R167, R168, R171, R182,
R186, R190, R191, R195). Each of these commands answers a next state, the one that its block's own operation gives, wherever it
can act: an event of LOOP while LOOP runs, an event of SYS while SYS runs, one of the service port out of a cold reset, a register
write where it gets to its block. Queue and fuses stay as they are but where the operation names the fuses. Commands: benchUpdate,
limtimeExpiry, benchStart, benchStop, prestartBiasJudge, prestartPulse, prestartPass, rampReached, stopFloorReached, vsetWrite,
marginWrite, slewWrite, periodWrite, phdropClear, ovuvWrite, adcResult, phocCount, nlEventStart, nlEventEnd, pwmPeriodStart. -/
def Obligations.BenchCommandsComplete : Prop :=
  ∀ s : State,
    (∀ (n : Fin 16), s.dev.loopRuns = true → exec (.benchUpdate n) s = .next (s.looped (fun d => d.benchUpdate n)))
    ∧ (∀ (n : Fin 16), s.dev.loopRuns = true → exec (.limtimeExpiry n) s = .next (s.looped (fun d => d.limtime n)))
    ∧ (∀ (n : Fin 16), s.dev.loopRuns = true → exec (.benchStart n) s = .next (s.looped (fun d => d.benchStart n)))
    ∧ (∀ (n : Fin 16), s.dev.loopRuns = true → exec (.benchStop n) s = .next (s.looped (fun d => d.benchStop n)))
    ∧ (∀ (n : Fin 16), s.dev.loopRuns = true → exec (.prestartBiasJudge n) s = .next (s.looped (fun d => d.prestartJudge n)))
    ∧ (∀ (n : Fin 16), s.dev.loopRuns = true → exec (.prestartPulse n) s = .next (s.looped (fun d => d.prestartPulse n)))
    ∧ (∀ (n : Fin 16), s.dev.loopRuns = true → exec (.prestartPass n) s = .next (s.looped (fun d => d.prestartPass n)))
    ∧ (∀ (n : Fin 16), s.dev.loopRuns = true → exec (.rampReached n) s = .next (s.looped (fun d => d.rampReached n)))
    ∧ (∀ (n : Fin 16), s.dev.loopRuns = true → exec (.stopFloorReached n) s = .next (s.looped (fun d => d.stopFloor n)))
    ∧ (∀ (n : Fin 16) (w : Nat), s.Takes (F.BEN_VSET_VSET n).addr w → exec (.vsetWrite n w) s = .next (s.did (fun d => d.vsetWrite n w)))
    ∧ ((∀ (n : Fin 16) (w : Nat), s.dev.loopRuns = true → exec (.marginWrite n w true) s = .next (s.looped (fun d => d.marginBySeq n w)))
    ∧ (∀ (n : Fin 16) (w : Nat), s.Takes (F.BEN_MARGIN_MARGIN n).addr w → exec (.marginWrite n w false) s = .next (s.did (fun d => d.marginWrite n w))))
    ∧ (∀ (n : Fin 16) (w : Nat), s.Takes (F.BEN_SLEW_SLEW n).addr w → exec (.slewWrite n w) s = .next (s.did (fun d => d.slewWrite n w)))
    ∧ (∀ (n : Fin 16) (w : Nat), s.Takes (F.BEN_PERIOD_PERIOD n).addr w → exec (.periodWrite n w) s = .next (s.did (fun d => d.periodWrite n w)))
    ∧ (∀ (n : Fin 16) (w : Nat), s.Takes (F.BEN_PHDROP_DROP n).addr w → exec (.phdropClear n w) s = .next (s.did (fun d => d.phdropClear n w)))
    ∧ (∀ (n : Fin 16) (deb : Bool) (w : Nat), s.Takes (if deb then (F.BEN_OCCFG_OV_DB n).addr else (F.BEN_OVUV_OVP n).addr) w → exec (.ovuvWrite n deb w) s = .next (s.did (fun d => d.ovuvWrite n (if deb then 0x70 else 0x7C) w)))
    ∧ (∀ (ch : Fin 32) (code : Int), s.dev.loopRuns = true → exec (.adcResult ch code) s = .next (s.looped (fun d => d.arrives (.adc ch code))))
    ∧ (∀ (n : Fin 16) (p : Fin 32), s.dev.loopRuns = true → exec (.phocCount n p) s = .next (s.looped (fun d => d.phocCount n p)))
    ∧ (∀ (n : Fin 16) (under : Bool), s.dev.loopRuns = true → exec (.nlEventStart n under) s = .next (s.looped (fun d => d.nlStart n under)))
    ∧ (∀ (n : Fin 16), s.dev.loopRuns = true → exec (.nlEventEnd n) s = .next (s.looped (fun d => d.nlEnd n)))
    ∧ (∀ (pin : Fin 32), s.dev.loopRuns = true → exec (.pwmPeriodStart pin) s = .next (s.looped (fun d => d.periodStart pin)))

/-- Every command on the monitor and current sharing completes with its block's operation (R253, R254, R321, R206, R207, R209, R458).
Each of these commands answers a next state, the one that its block's own operation gives, wherever it can act: an event of LOOP
while LOOP runs, an event of SYS while SYS runs, one of the service port out of a cold reset, a register write where it gets to
its block. Queue and fuses stay as they are but where the operation names the fuses. Commands: monResult, hvmResult,
windowComparatorChange, shrCompute, shrVbusWrite, shrPollPeriod, shrPollDone. -/
def Obligations.MonitorAndShareCommandsComplete : Prop :=
  ∀ s : State,
    (∀ (inp : Fin 64) (code : Nat), s.dev.loopRuns = true → exec (.monResult inp code) s = .next (s.looped (fun d => d.arrives (.mon inp code))))
    ∧ (∀ (h : Fin 8) (v : Nat), s.dev.loopRuns = true → exec (.hvmResult h v) s = .next (s.looped (fun d => d.arrives (.hvm h v))))
    ∧ ((∀ (inp : CmpInput) (below : Bool) (above : Bool), s.dev.loopRuns = true → exec (.windowComparatorChange inp below above) s = .next ((s.did (fun d => d.cmpSet inp below above)).looped (fun d => d.arrives (.cmp inp below above))))
    ∧ (∀ (inp : CmpInput) (below : Bool) (above : Bool), s.dev.loopRuns = false → exec (.windowComparatorChange inp below above) s = .next (s.did (fun d => d.cmpSet inp below above))))
    ∧ (s.dev.loopRuns = true → exec .shrCompute s = .next (s.looped (fun d => d.shrCompute)))
    ∧ (∀ (w : Nat), s.Takes F.SHR_VBUS_VBUS.addr w → exec (.shrVbusWrite w) s = .next (s.did (fun d => d.shrVbusWrite w)))
    ∧ (s.dev.loopRuns = true → exec .shrPollPeriod s = .next (s.looped (fun d => d.pollPeriod)))
    ∧ (∀ (r : Fin 24) (answer : Option (PollStatus × Nat)), s.dev.loopRuns = true → exec (.shrPollDone r answer) s = .next (s.looped (fun d => d.arrives (.poll r answer))))

/-- Every command on the cap completes with its block's operation (R214, R216, R220, R221, R222, R390, R391). Each of these commands
answers a next state, the one that its block's own operation gives, wherever it can act: an event of LOOP while LOOP runs, an
event of SYS while SYS runs, one of the service port out of a cold reset, a register write where it gets to its block. Queue and
fuses stay as they are but where the operation names the fuses. Commands: capSample, capThrstepExpiry, capSheddelayExpiry,
capReleaseExpiry, capmissTimer, capForceWrite, capsumSend, capsumRx, capsumTimeout, capRackRelease, capqRx. -/
def Obligations.CapCommandsComplete : Prop :=
  ∀ s : State,
    (s.dev.loopRuns = true → exec .capSample s = .next (s.looped (fun d => d.capSample)))
    ∧ (s.dev.loopRuns = true → exec .capThrstepExpiry s = .next (s.looped (fun d => d.thrExpiry)))
    ∧ (s.dev.loopRuns = true → exec .capSheddelayExpiry s = .next (s.looped (fun d => d.shedExpiry)))
    ∧ (s.dev.loopRuns = true → exec .capReleaseExpiry s = .next (s.looped (fun d => d.capRelease)))
    ∧ (s.dev.loopRuns = true → exec .capmissTimer s = .next (s.looped (fun d => d.capMiss)))
    ∧ (∀ (w : Nat), s.Takes F.CAP_FORCE_THR.addr w → exec (.capForceWrite w) s = .next (s.did (fun d => d.capForce w)))
    ∧ (s.dev.loopRuns = true → exec .capsumSend s = .next (s.looped (fun d => d.capsumSend)))
    ∧ (∀ (port : Fin 3) (seq : Nat) (pload : Nat) (pdraw : Nat) (contrib : Nat), s.dev.loopRuns = true → exec (.capsumRx port seq pload pdraw contrib) s = .next (s.looped (fun d => d.capsumRx port seq pload pdraw contrib)))
    ∧ (∀ (half : Fin 2) (seq : Nat), s.dev.loopRuns = true → exec (.capsumTimeout half seq) s = .next (s.looped (fun d => d.capsumTimeout half seq)))
    ∧ (s.dev.loopRuns = true → exec .capRackRelease s = .next (s.looped (fun d => d.rackRelease)))
    ∧ (∀ (q : Nat) (seq : Nat) (lift : Bool), s.dev.loopRuns = true → exec (.capqRx q seq lift) s = .next (s.looped (fun d => d.capqRx q seq lift)))

/-- Every command on the energy ledger and its audit completes with its block's operation (R231, R236, R237, R240, R241, R243, R244).
Each of these commands answers a next state, the one that its block's own operation gives, wherever it can act: an event of LOOP
while LOOP runs, an event of SYS while SYS runs, one of the service port out of a cold reset, a register write where it gets to
its block. Queue and fuses stay as they are but where the operation names the fuses. Commands: engCompute, inputLost, inputReturn,
engCommit, engGroupDown, engShutdownEnd, engRequalExpiry, auditStep, auditActiveStep, auditActiveEnd. -/
def Obligations.EnergyCommandsComplete : Prop :=
  ∀ s : State,
    (s.dev.loopRuns = true → exec .engCompute s = .next (s.looped (fun d => d.engCompute)))
    ∧ (s.dev.loopRuns = true → exec .inputLost s = .next (s.looped (fun d => d.inputLost)))
    ∧ (s.dev.loopRuns = true → exec .inputReturn s = .next (s.looped (fun d => d.inputReturn)))
    ∧ (s.dev.loopRuns = true → exec .engCommit s = .next (s.looped (fun d => d.engCommit)))
    ∧ (∀ (g : Fin 8), s.dev.loopRuns = true → exec (.engGroupDown g) s = .next (s.looped (fun d => d.engGroupDown g)))
    ∧ (s.dev.loopRuns = true → exec .engShutdownEnd s = .next (s.looped (fun d => d.shutdownEnd)))
    ∧ (s.dev.loopRuns = true → exec .engRequalExpiry s = .next (s.looped (fun d => d.engRequal)))
    ∧ (∀ (k : Fin 8) (t : Nat) (before : Unit) (after : Unit), s.dev.loopRuns = true → exec (.auditStep k t before after) s = .next (s.looped (fun d => d.auditStep k t)))
    ∧ (s.dev.loopRuns = true → exec .auditActiveStep s = .next (s.looped (fun d => d.auditActive)))
    ∧ (s.dev.loopRuns = true → exec .auditActiveEnd s = .next (s.looped (fun d => d.auditReturn)))

/-- Every command on battery strings completes with its block's operation (R298, R300, R301, R302, R306, R307, R311, R312). Each of
these commands answers a next state, the one that its block's own operation gives, wherever it can act: an event of LOOP while
LOOP runs, an event of SYS while SYS runs, one of the service port out of a cold reset, a register write where it gets to its
block. Queue and fuses stay as they are but where the operation names the fuses. Commands: batResult, restReference,
fullReference, irReference, refStaleExpiry, restRequest, restRequestTimeout, permissionRepeat, chgforbidExpiry, chargeRepermit,
stringAbsent, stringPresent, newstringWrite, firstEstimate, coarseMagnitudeCheck. -/
def Obligations.BatteryCommandsComplete : Prop :=
  ∀ s : State,
    (∀ (n : Fin 4) (uA : Int) (dt : Nat) (v : Nat) (ta : Nat) (tb : Nat), s.dev.loopRuns = true → exec (.batResult n uA dt v ta tb) s = .next (s.looped (fun d => d.arrives (.bat n uA dt v ta tb))))
    ∧ (∀ (n : Fin 4), s.dev.loopRuns = true → exec (.restReference n) s = .next (s.looped (fun d => d.restReference n)))
    ∧ (∀ (n : Fin 4), s.dev.loopRuns = true → exec (.fullReference n) s = .next (s.looped (fun d => d.fullReference n)))
    ∧ (∀ (n : Fin 4), s.dev.loopRuns = true → exec (.irReference n) s = .next (s.looped (fun d => d.irReference n)))
    ∧ (∀ (n : Fin 4), s.dev.loopRuns = true → exec (.refStaleExpiry n) s = .next (s.looped (fun d => d.refStale n)))
    ∧ (∀ (n : Fin 4) (v : Bool), s.Takes (F.BAT_CTRL_REST n).addr (s.dev.wordWith (F.BAT_CTRL_REST n) v.toNat) → exec (.restRequest n v) s = .next (s.did (fun d => d.batBus (F.BAT_CTRL_REST n).addr (d.wordWith (F.BAT_CTRL_REST n) v.toNat))))
    ∧ (∀ (n : Fin 4), s.dev.loopRuns = true → exec (.restRequestTimeout n) s = .next (s.looped (fun d => d.restTimeout n)))
    ∧ (∀ (n : Fin 4), s.dev.loopRuns = true → exec (.permissionRepeat n) s = .next (s.looped (fun d => d.permRepeat n)))
    ∧ (∀ (n : Fin 4), s.dev.loopRuns = true → exec (.chgforbidExpiry n) s = .next (s.looped (fun d => d.chgForbid n)))
    ∧ (∀ (n : Fin 4), s.dev.loopRuns = true → exec (.chargeRepermit n) s = .next (s.looped (fun d => d.chargeRepermit n)))
    ∧ (∀ (n : Fin 4), s.dev.loopRuns = true → exec (.stringAbsent n) s = .next (s.looped (fun d => d.strAbsent n)))
    ∧ (∀ (n : Fin 4), s.dev.loopRuns = true → exec (.stringPresent n) s = .next (s.looped (fun d => d.strPresent n)))
    ∧ (∀ (n : Fin 4), s.Takes (F.BAT_CTRL_NEWSTRING n).addr (s.dev.wordWith (F.BAT_CTRL_NEWSTRING n) 1) → exec (.newstringWrite n) s = .next (s.did (fun d => d.batBus (F.BAT_CTRL_NEWSTRING n).addr (d.wordWith (F.BAT_CTRL_NEWSTRING n) 1))))
    ∧ (∀ (n : Fin 4), s.dev.loopRuns = true → exec (.firstEstimate n) s = .next (s.looped (fun d => d.firstEstimate n)))
    ∧ (∀ (n : Fin 4) (uA : Int), s.dev.loopRuns = true → exec (.coarseMagnitudeCheck n uA) s = .next (s.looped (fun d => d.arrives (.coarse n uA))))

/-- Every command on rails and request groups completes with its block's operation (R257, R258, R261, R263, R267, R268, R269, R270,
R272). Each of these commands answers a next state, the one that its block's own operation gives, wherever it can act: an event of
LOOP while LOOP runs, an event of SYS while SYS runs, one of the service port out of a cold reset, a register write where it gets
to its block. Queue and fuses stay as they are but where the operation names the fuses. Commands: seqReqOn, seqReqOff, seqStrobe,
seqReading, railGoodQualified, railFailDebounce, railwarnDebounce, starttimeExpiry, edgeDelayExpiry, requalExpiry, failmarkClear,
seqMarginWrite, msettleExpiry, railrepFullReport, railrepRx, seqreqRx, reportStale. -/
def Obligations.RailsCommandsComplete : Prop :=
  ∀ s : State,
    (∀ (mask : Nat), s.Takes F.SEQ_REQ_ON.addr mask → exec (.seqReqOn mask) s = .next (s.did (fun d => d.seqReq (mask % 0x10000) (mask / 0x10000))))
    ∧ (∀ (mask : Nat), s.Takes F.SEQ_REQ_ON.addr (mask * 2 ^ 16) → exec (.seqReqOff mask) s = .next (s.did (fun d => d.seqReq 0 mask)))
    ∧ (s.dev.loopRuns = true → exec .seqStrobe s = .next (s.looped (fun d => d.seqStrobe)))
    ∧ (∀ (r : Fin 1024), s.dev.loopRuns = true → exec (.seqReading r) s = .next (s.looped (fun d => d.seqReading r)))
    ∧ (∀ (r : Fin 1024), s.dev.loopRuns = true → exec (.railGoodQualified r) s = .next (s.looped (fun d => d.railQualified r)))
    ∧ (∀ (r : Fin 1024), s.dev.loopRuns = true → exec (.railFailDebounce r) s = .next (s.looped (fun d => d.railFailed r)))
    ∧ (∀ (r : Fin 1024), s.dev.loopRuns = true → exec (.railwarnDebounce r) s = .next (s.looped (fun d => d.railWarned r)))
    ∧ (∀ (r : Fin 1024), s.dev.loopRuns = true → exec (.starttimeExpiry r) s = .next (s.looped (fun d => d.startTime r)))
    ∧ (∀ (e : Nat), s.dev.loopRuns = true → exec (.edgeDelayExpiry e) s = .next (s.looped (fun d => d.edgeDone e)))
    ∧ (∀ (g : Fin 16), s.dev.loopRuns = true → exec (.requalExpiry g) s = .next (s.looped (fun d => d.requalDone g)))
    ∧ (∀ (r : Fin 1024), s.Takes (F.SEQ_STATE_FAILMARK r).addr 0x40 → exec (.failmarkClear r) s = .next (s.did (fun d => (d.plainWrite (F.SEQ_STATE_FAILMARK r).addr 0).failmarkClear r)))
    ∧ (∀ (g : Fin 16) (w : Nat), s.Takes (F.SEQ_MARGIN_MARGIN g).addr w → exec (.seqMarginWrite g w) s = .next (s.did (fun d => d.seqMargin g w)))
    ∧ (∀ (r : Fin 1024), s.dev.loopRuns = true → exec (.msettleExpiry r) s = .next (s.looped (fun d => d.msettle r)))
    ∧ (s.dev.loopRuns = true → exec .railrepFullReport s = .next (s.looped (fun d => d.fullReport)))
    ∧ (∀ (w : Fin 16) (entries : List (Nat × Nat × Nat)), s.dev.loopRuns = true → exec (.railrepRx w entries) s = .next (s.looped (fun d => d.railRep w entries)))
    ∧ (∀ (on : Nat) (off : Nat), s.dev.loopRuns = true → exec (.seqreqRx on off) s = .next (s.looped (fun d => d.seqReq on off)))
    ∧ (∀ (w : Fin 16), s.dev.loopRuns = true → exec (.reportStale w) s = .next (s.looped (fun d => d.reportStale w)))

/-- Every command on slots completes with its block's operation (R277, R279, R280, R281, R283, R285, R288, R290, R291, R292, R293,
R294). Each of these commands answers a next state, the one that its block's own operation gives, wherever it can act: an event of
LOOP while LOOP runs, an event of SYS while SYS runs, one of the service port out of a cold reset, a register write where it gets
to its block. Queue and fuses stay as they are but where the operation names the fuses. Commands: seatingInputChange,
seatTimerExpiry, slotRemoval, seatfaultExpiry, slotEnable, slotDisable, checkEnd, slotShuntResult, slotVoltResult, soaExpiry,
ramptimeExpiry, pgdelayExpiry, kerfTrip, laneTest, slotOcExpiry, fetdegExpiry, gatefailExpiry, retryTimerExpiry, tcleanExpiry,
cooloffExpiry, slotUnlock, slotShed, shedWithdraw. -/
def Obligations.SlotsCommandsComplete : Prop :=
  ∀ s : State,
    ((∀ (n : Fin 16) (a : Bool) (b : Bool), s.dev.loopRuns = true → exec (.seatingInputChange n a b) s = .next ((s.did (fun d => d.seatLine n a b)).looped (fun d => d.arrives (.seat n a b))))
    ∧ (∀ (n : Fin 16) (a : Bool) (b : Bool), s.dev.loopRuns = false → exec (.seatingInputChange n a b) s = .next (s.did (fun d => d.seatLine n a b))))
    ∧ (∀ (n : Fin 16), s.dev.loopRuns = true → exec (.seatTimerExpiry n) s = .next (s.looped (fun d => d.seatDone n)))
    ∧ (∀ (n : Fin 16), s.dev.loopRuns = true → exec (.slotRemoval n) s = .next (s.looped (fun d => d.slotRemove n)))
    ∧ (∀ (n : Fin 16), s.dev.loopRuns = true → exec (.seatfaultExpiry n) s = .next (s.looped (fun d => d.seatFault n)))
    ∧ ((∀ (n : Fin 16), s.dev.seqOwned n = true → s.dev.loopRuns = true → exec (.slotEnable n) s = .next (s.looped (fun d => d.slotEnable n)))
    ∧ (∀ (n : Fin 16), s.dev.seqOwned n = false → s.Takes (F.HSW_CTRL_EN n).addr (s.dev.wordWith (F.HSW_CTRL_EN n) 1) →
        exec (.slotEnable n) s = .next (s.did (fun d => d.hswBus (F.HSW_CTRL_EN n).addr (d.wordWith (F.HSW_CTRL_EN n) 1)))))
    ∧ ((∀ (n : Fin 16), s.dev.seqOwned n = true → s.dev.loopRuns = true → exec (.slotDisable n) s = .next (s.looped (fun d => d.slotDisable n)))
    ∧ (∀ (n : Fin 16), s.dev.seqOwned n = false → s.Takes (F.HSW_CTRL_EN n).addr (s.dev.wordWith (F.HSW_CTRL_EN n) 0) →
        exec (.slotDisable n) s = .next (s.did (fun d => d.hswBus (F.HSW_CTRL_EN n).addr (d.wordWith (F.HSW_CTRL_EN n) 0)))))
    ∧ (∀ (n : Fin 16), s.dev.loopRuns = true → exec (.checkEnd n) s = .next (s.looped (fun d => d.checkDone n)))
    ∧ (∀ (n : Fin 16) (code : Int) (lanes : Fin 8), s.dev.loopRuns = true → exec (.slotShuntResult n code lanes) s = .next (s.looped (fun d => d.arrives (.shunt n code lanes))))
    ∧ (∀ (n : Fin 16) (vs : Nat) (vds : Nat) (enh : Bool), s.dev.loopRuns = true → exec (.slotVoltResult n vs vds enh) s = .next (s.looped (fun d => d.arrives (.volt n vs vds enh))))
    ∧ (∀ (n : Fin 16), s.dev.loopRuns = true → exec (.soaExpiry n) s = .next (s.looped (fun d => d.soaTrip n)))
    ∧ (∀ (n : Fin 16), s.dev.loopRuns = true → exec (.ramptimeExpiry n) s = .next (s.looped (fun d => d.rampTrip n)))
    ∧ (∀ (n : Fin 16), s.dev.loopRuns = true → exec (.pgdelayExpiry n) s = .next (s.looped (fun d => d.pgDone n)))
    ∧ ((∀ (n : Fin 16) (lanes : Fin 8), s.dev.loopRuns = true → exec (.kerfTrip n lanes) s = .next ((s.did (fun d => d.kerfLine n lanes)).looped (fun d => d.kerfSeen n)))
    ∧ (∀ (n : Fin 16) (lanes : Fin 8), s.dev.loopRuns = false → exec (.kerfTrip n lanes) s = .next (s.did (fun d => d.kerfLine n lanes))))
    ∧ (∀ (n : Fin 16) (lane : Fin 3) (seen : Bool) (fell : Bool), s.dev.loopRuns = true → exec (.laneTest n lane seen fell) s = .next (s.looped (fun d => d.laneTest n lane seen fell)))
    ∧ (∀ (n : Fin 16), s.dev.loopRuns = true → exec (.slotOcExpiry n) s = .next (s.looped (fun d => d.ocTrip n)))
    ∧ (∀ (n : Fin 16), s.dev.loopRuns = true → exec (.fetdegExpiry n) s = .next (s.looped (fun d => d.fetDeg n)))
    ∧ (∀ (n : Fin 16), s.dev.loopRuns = true → exec (.gatefailExpiry n) s = .next (s.looped (fun d => d.gateFail n)))
    ∧ (∀ (n : Fin 16), s.dev.loopRuns = true → exec (.retryTimerExpiry n) s = .next (s.looped (fun d => d.retryDone n)))
    ∧ (∀ (n : Fin 16), s.dev.loopRuns = true → exec (.tcleanExpiry n) s = .next (s.looped (fun d => d.cleanDone n)))
    ∧ (∀ (n : Fin 16), s.dev.loopRuns = true → exec (.cooloffExpiry n) s = .next (s.looped (fun d => d.coolDone n)))
    ∧ (∀ (n : Fin 16), s.Takes (F.HSW_CTRL_UNLOCK n).addr (s.dev.wordWith (F.HSW_CTRL_UNLOCK n) 1) → exec (.slotUnlock n) s = .next (s.did (fun d => d.hswBus (F.HSW_CTRL_UNLOCK n).addr (d.wordWith (F.HSW_CTRL_UNLOCK n) 1))))
    ∧ (∀ (n : Fin 16) (asker : ShedBy), s.dev.loopRuns = true → exec (.slotShed n asker) s = .next (s.looped (fun d => d.shed n asker)))
    ∧ (∀ (n : Fin 16) (asker : ShedBy), s.dev.loopRuns = true → exec (.shedWithdraw n asker) s = .next (s.looped (fun d => d.unshed n asker)))

/-- Every command on temperature completes with its block's operation (R339, R340, R343, R347, R348). Each of these commands answers a
next state, the one that its block's own operation gives, wherever it can act: an event of LOOP while LOOP runs, an event of SYS
while SYS runs, one of the service port out of a cold reset, a register write where it gets to its block. Queue and fuses stay as
they are but where the operation names the fuses. Commands: thmReading, safeshut, restartWindowExpiry, xsensorRecover,
thmLimitWrite. -/
def Obligations.ThermalCommandsComplete : Prop :=
  ∀ s : State,
    (∀ (n : Fin 6) (reading : Int), (s.dev.loopRuns || n == 1) = true → exec (.thmReading n reading) s = .next (s.did (fun d => d.thmTake n reading)))
    ∧ (exec .safeshut s = .next (s.did (fun d => d.safeShut)))
    ∧ (∀ (n : Fin 6), (s.dev.loopRuns || n == 1) = true → exec (.restartWindowExpiry n) s = .next (s.did (fun d => d.restartEnd n)))
    ∧ (∀ (n : Fin 6), s.dev.loopRuns = true → exec (.xsensorRecover n) s = .next (s.looped (fun d => d.xsensorBack n)))
    ∧ (∀ (n : Fin 6) (second : Bool) (w : Nat), s.Takes ((F.THM_LIM1_WARN n).addr + 4 * second.toNat) w → exec (.thmLimitWrite n second w) s = .next (s.did (fun d => d.thmLimWrite n second.toNat w)))

/-- Every command on the duplex pair completes with its block's operation (R354, R355, R359, R361, R364, R365, R366, R371). Each of
these commands answers a next state, the one that its block's own operation gives, wherever it can act: an event of LOOP while
LOOP runs, an event of SYS while SYS runs, one of the service port out of a cold reset, a register write where it gets to its
block. Queue and fuses stay as they are but where the operation names the fuses. Commands: peerFrameSend, peerFrameRx, lateItem,
hblost, refereeReqRelease, refereeActConfirm, dpxHandover, dpxTake, dpxRejoin, syncTimeout, resolveTimeout, splitTimeout,
keeperRelease, clkskew, refereeHbToggle. -/
def Obligations.DuplexCommandsComplete : Prop :=
  ∀ s : State,
    (∀ (e1 : Nat) (e2 : Nat) (late : Bool), s.dev.loopRuns = true → exec (.peerFrameSend e1 e2 late) s = .next (s.looped (fun d => d.peerSend e1 e2 late)))
    ∧ (∀ (frame : PeerFrame), s.dev.loopRuns = true → exec (.peerFrameRx frame) s = .next (s.looped (fun d => d.peerRx frame)))
    ∧ (s.dev.loopRuns = true → exec .lateItem s = .next (s.looped (fun d => d.lateItem)))
    ∧ (s.dev.loopRuns = true → exec .hblost s = .next (s.looped (fun d => d.hbLost)))
    ∧ (s.dev.loopRuns = true → exec .refereeReqRelease s = .next (s.looped (fun d => d.reqRelease)))
    ∧ ((∀ (level : Fin 2), s.dev.loopRuns = true → exec (.refereeActConfirm level) s = .next ((s.did (fun d => d.refLine level)).looped (fun d => d.refPin level)))
    ∧ (∀ (level : Fin 2), s.dev.loopRuns = false → exec (.refereeActConfirm level) s = .next (s.did (fun d => d.refLine level))))
    ∧ (s.Reaches F.DPX_CTRL_HANDOVER.addr 1 → exec .dpxHandover s = .next (s.did (fun d => d.handover)))
    ∧ (s.Reaches F.DPX_CTRL_HANDOVER.addr 2 → exec .dpxTake s = .next (s.did (fun d => d.dpxTake)))
    ∧ (s.Reaches F.DPX_CTRL_HANDOVER.addr 4 → exec .dpxRejoin s = .next (s.did (fun d => d.dpxRejoin)))
    ∧ (s.dev.loopRuns = true → exec .syncTimeout s = .next (s.looped (fun d => d.syncTimeout)))
    ∧ (s.dev.loopRuns = true → exec .resolveTimeout s = .next (s.looped (fun d => d.resolveTimeout)))
    ∧ (s.dev.loopRuns = true → exec .splitTimeout s = .next (s.looped (fun d => d.splitTimeout)))
    ∧ (s.dev.loopRuns = true → exec .keeperRelease s = .next (s.looped (fun d => d.keeperRelease)))
    ∧ (∀ (ppm : Nat), s.dev.loopRuns = true → exec (.clkskew ppm) s = .next (s.looped (fun d => d.clkSkew ppm)))
    ∧ (s.dev.loopRuns = true → exec .refereeHbToggle s = .next (s.looped (fun d => d.hbToggle)))

/-- Every command on Igkulink and time completes with its block's operation (R385, R389, R390, R392, R395, R396, R397). Each of these
commands answers a next state, the one that its block's own operation gives, wherever it can act: an event of LOOP while LOOP
runs, an event of SYS while SYS runs, one of the service port out of a cold reset, a register write where it gets to its block.
Queue and fuses stay as they are but where the operation names the fuses. Commands: portRxClockPresent, commaAligned,
acquireTimeout, linkstatSend, linkstatRx, portDown, lnkerrWindow, frameRx, tsyncExchange, tsyncRx, holdoverEntry, rootListenEnd,
arbSend, arbRx, arbTimeout, faultsumSend, nodelost, mgrlost, tunnelGo, tunnelRequestRx, tunnelReplyRx, tunnelNoreply. -/
def Obligations.LinkCommandsComplete : Prop :=
  ∀ s : State,
    (∀ (p : Fin 3), s.dev.loopRuns = true → exec (.portRxClockPresent p) s = .next (s.looped (fun d => d.portClock p)))
    ∧ (∀ (p : Fin 3), s.dev.loopRuns = true → exec (.commaAligned p) s = .next (s.looped (fun d => d.portAligned p)))
    ∧ (∀ (p : Fin 3), s.dev.loopRuns = true → exec (.acquireTimeout p) s = .next (s.looped (fun d => d.acquireTimeout p)))
    ∧ (∀ (p : Fin 3), s.dev.loopRuns = true → exec (.linkstatSend p) s = .next (s.looped (fun d => d.linkstatSend p)))
    ∧ (∀ (p : Fin 3) (stat : LinkStat), s.dev.loopRuns = true → exec (.linkstatRx p stat) s = .next (s.looped (fun d => d.linkstatRx p stat)))
    ∧ (∀ (p : Fin 3), s.dev.loopRuns = true → exec (.portDown p) s = .next (s.looped (fun d => d.portFall p)))
    ∧ (∀ (p : Fin 3) (code : Nat) (crc : Nat), s.dev.loopRuns = true → exec (.lnkerrWindow p code crc) s = .next (s.looped (fun d => d.errWindow p code crc)))
    ∧ (∀ (p : Fin 3) (frame : LinkFrame), s.dev.loopRuns = true → exec (.frameRx p frame) s = .next (s.looped (fun d => d.frameRx p frame)))
    ∧ (s.dev.loopRuns = true → exec .tsyncExchange s = .next (s.looped (fun d => d.tsyncSend)))
    ∧ (∀ (stamps : TsyncStamps), s.dev.loopRuns = true → exec (.tsyncRx stamps) s = .next (s.looped (fun d => d.tsyncRx stamps)))
    ∧ (s.dev.loopRuns = true → exec .holdoverEntry s = .next (s.looped (fun d => d.holdover)))
    ∧ (∀ (child : Option Nat), s.dev.loopRuns = true → exec (.rootListenEnd child) s = .next (s.looped (fun d => d.rootListen child)))
    ∧ (s.dev.loopRuns = true → exec .arbSend s = .next (s.looped (fun d => d.arbSend)))
    ∧ (∀ (frame : ArbFrame), s.dev.loopRuns = true → exec (.arbRx frame) s = .next (s.looped (fun d => d.arbRx frame)))
    ∧ (∀ (pos : Fin 33), s.dev.loopRuns = true → exec (.arbTimeout pos) s = .next (s.looped (fun d => d.arbTimeout pos)))
    ∧ (s.dev.loopRuns = true → exec .faultsumSend s = .next (s.looped (fun d => d.faultsum)))
    ∧ (∀ (n : Fin 33), s.dev.loopRuns = true → exec (.nodelost n) s = .next (s.looped (fun d => d.nodeLost n)))
    ∧ (s.dev.loopRuns = true → exec .mgrlost s = .next (s.looped (fun d => d.mgrLost)))
    ∧ (∀ (w : Nat), s.Lands .core F.LNK_TUN_CTRL_GO.addr → s.dev.goBlocked F.LNK_TUN_CTRL_GO.addr w = false → exec (.tunnelGo w) s = .next (s.did (fun d => d.tunnelGo w)))
    ∧ (∀ (write : Bool) (addr : Nat) (w : Nat), exec (.tunnelRequestRx write addr w) s = .next (s.tunnelIn write addr w))
    ∧ (∀ (data : Nat), s.dev.loopRuns = true → exec (.tunnelReplyRx data) s = .next (s.looped (fun d => d.tunnelReply data)))
    ∧ (s.dev.loopRuns = true → exec .tunnelNoreply s = .next (s.looped (fun d => d.tunnelNone)))

/-- Every command on Clamps, snapshots and the waveform completes with its block's operation (R53, R401, R402, R404, R405, R408,
R409). Each of these commands answers a next state, the one that its block's own operation gives, wherever it can act: an event of
LOOP while LOOP runs, an event of SYS while SYS runs, one of the service port out of a cold reset, a register write where it gets
to its block. Queue and fuses stay as they are but where the operation names the fuses. Commands: clampPinEdge, clampFrameRx,
snpFire, snpRearm, snapRecordsStaged, waveformSample, waveformFreeze, waveRecordsStaged, clampPulseEnd. -/
def Obligations.ClampCommandsComplete : Prop :=
  ∀ s : State,
    (s.dev.loopRuns = true → exec .clampPinEdge s = .next (s.looped (fun d => d.clampPin)))
    ∧ (∀ (origin : Nat) (tick : Nat) (cause : Fin 8) (scope : Fin 4), s.dev.loopRuns = true → exec (.clampFrameRx origin tick cause scope) s = .next (s.looped (fun d => d.clampFrame origin tick cause scope)))
    ∧ (s.Takes F.SNP_CTRL_FIRE.addr (s.dev.wordWith F.SNP_CTRL_FIRE 1) → exec .snpFire s = .next (s.did (fun d => d.snpBus (d.wordWith F.SNP_CTRL_FIRE 1))))
    ∧ (s.Takes F.SNP_CTRL_REARM.addr (s.dev.wordWith F.SNP_CTRL_REARM 1) → exec .snpRearm s = .next (s.did (fun d => d.snpBus (d.wordWith F.SNP_CTRL_REARM 1))))
    ∧ (s.dev.loopRuns = true → exec .snapRecordsStaged s = .next (s.looped (fun d => d.snapStaged)))
    ∧ (s.dev.loopRuns = true → exec .waveformSample s = .next (s.looped (fun d => d.waveSample)))
    ∧ (s.dev.loopRuns = true → exec .waveformFreeze s = .next (s.looped (fun d => d.waveFreeze)))
    ∧ (s.dev.loopRuns = true → exec .waveRecordsStaged s = .next (s.looped (fun d => d.waveStaged)))
    ∧ (s.dev.loopRuns = true → exec .clampPulseEnd s = .next (s.looped (fun d => d.clampEnd)))

/-- Every command on the recorder, the storage ports and the vault completes with its block's operation (R412, R414, R415, R416, R418,
R419, R420, R423, R424). Each of these commands answers a next state, the one that its block's own operation gives, wherever it
can act: an event of LOOP while LOOP runs, an event of SYS while SYS runs, one of the service port out of a cold reset, a register
write where it gets to its block. Queue and fuses stay as they are but where the operation names the fuses. Commands:
lostRecordWrite, pageFlushTimer, evrFlushnow, pageWriteDone, nandPortTrain, evrColdScan, evrReadGo, evrReadDone, nonceRead,
nonceExpiry, clearGo, clearVerdict, evrFwGo, vaultWrite, vaultUnitDone. -/
def Obligations.RecorderCommandsComplete : Prop :=
  ∀ s : State,
    (s.dev.sysRuns = true → exec .lostRecordWrite s = .next (s.did (fun d => d.lostRecord)))
    ∧ (s.dev.sysRuns = true → exec .pageFlushTimer s = .next (s.did (fun d => d.flushTimer)))
    ∧ (s.Lands .core F.EVR_CTRL_FLUSHNOW.addr → exec .evrFlushnow s = .next (s.did (fun d => d.evrBus .core F.EVR_CTRL_FLUSHNOW.addr (d.wordWith F.EVR_CTRL_FLUSHNOW 1))))
    ∧ (∀ (outcome : PageOutcome), s.dev.sysRuns = true → exec (.pageWriteDone outcome) s = .next (s.did (fun d => d.pageDone outcome)))
    ∧ (∀ (p : Fin 2) (geom : NandGeom), s.dev.sysRuns = true → exec (.nandPortTrain p geom) s = .next (s.did (fun d => d.portTrain p geom)))
    ∧ (s.dev.sysRuns = true → exec .evrColdScan s = .next (s.did (fun d => d.coldScan)))
    ∧ (∀ (w : Nat), s.Lands .core F.EVR_RD_CTRL_GO.addr → exec (.evrReadGo w) s = .next (s.did (fun d => d.readGo w)))
    ∧ (∀ (bad : List Nat), s.dev.sysRuns = true → exec (.evrReadDone bad) s = .next (s.did (fun d => d.readDone bad)))
    ∧ (s.dev.sysRuns = true → exec .nonceRead s = .next (s.did (fun d => (d.busRead (F.EVR_NONCE_WORD 0).addr).1)))
    ∧ (s.dev.sysRuns = true → exec .nonceExpiry s = .next (s.did (fun d => d.nonceExpiry)))
    ∧ (∀ (m : Master) (w : Nat), s.Lands m F.EVR_CLR_CTRL_GO.addr → exec (.clearGo m w) s = .next (s.did (fun d => d.clearGo m w)))
    ∧ (s.dev.sysRuns = true → exec .clearVerdict s = .next (s.did (fun d => d.clearVerdict s.otp)))
    ∧ (∀ (w : Nat), s.Lands .core F.EVR_FW_CTRL_GO.addr → exec (.evrFwGo w) s = .next (s.did (fun d => d.fwRecord w)))
    ∧ (∀ (word : Fin 2048) (w : Nat), s.Lands .core (F.NVS_VAULT_WORD word).addr → exec (.vaultWrite word w) s = .next (s.did (fun d => d.vaultUser word w)))
    ∧ (exec .vaultUnitDone s = .next (s.did (fun d => d.vaultUnit)))

/-- Every command on the host port and the Drawer completes with its block's operation (R426, R427, R429, R430, R434, R436, R437,
R439). Each of these commands answers a next state, the one that its block's own operation gives, wherever it can act: an event of
LOOP while LOOP runs, an event of SYS while SYS runs, one of the service port out of a cold reset, a register write where it gets
to its block. Queue and fuses stay as they are but where the operation names the fuses. Commands: hostRdstat, hostRdreg,
hostWrreg, hostRdwin, hostWrwin, hostXfer, hostRdown, hostUnknownCommand, hostRequestDone, bellWrite, winXfer, pageBad,
pageZeroDone, coreDrawerAccess, coreLateWrite, fenceWO, fenceIR. -/
def Obligations.HostCommandsComplete : Prop :=
  ∀ s : State,
    (s.dev.rst.cold = false → (s.dev.sup.a || s.dev.sup.b) = true → exec .hostRdstat s = .next (s.did (fun d =>
      (d.hostLast (portReq .rdstat)).answer 0 [d.statusByte (if d.hst.pend.isSome || !d.ready 20 then stBusy else 0)])))
    ∧ (∀ (addr : Nat) (period : Nat), s.HostOpen (portReq (.rdreg addr)) period → exec (.hostRdreg addr period) s = .next (s.hostServed (portReq (.rdreg addr))))
    ∧ (∀ (addr : Nat) (w : Nat) (period : Nat), s.HostOpen (portReq (.wrreg addr w)) period → exec (.hostWrreg addr w period) s = .next (s.hostServed (portReq (.wrreg addr w))))
    ∧ (∀ (off : Nat) (len : Nat) (period : Nat), s.HostOpen (portReq (.rdwin off len)) period → exec (.hostRdwin off len period) s = .next (s.hostServed (portReq (.rdwin off len))))
    ∧ (∀ (off : Nat) (bytes : List Nat) (period : Nat), s.HostOpen (portReq (.wrwin off bytes)) period → exec (.hostWrwin off bytes period) s = .next (s.hostServed (portReq (.wrwin off bytes))))
    ∧ (∀ (page : Fin 64) (src : Fin 4) (dst : Fin 4) (period : Nat), s.HostOpen (portReq (.xfer page src dst)) period → exec (.hostXfer page src dst period) s = .next (s.hostServed (portReq (.xfer page src dst))))
    ∧ (∀ (period : Nat), s.HostOpen (portReq .rdown) period → exec (.hostRdown period) s = .next (s.hostServed (portReq .rdown)))
    ∧ (s.dev.rst.cold = false → (s.dev.sup.a || s.dev.sup.b) = true → exec .hostUnknownCommand s = .next (s.did (fun d => d.hostStray.fwPulse 66)))
    ∧ (exec .hostRequestDone s = .next (s.requestEnd .host))
    ∧ (∀ (m : Master) (core : Bool) (mask : Nat), s.Lands m (F.HST_HOSTBELL_BELL.addr + 4 * core.toNat) → exec (.bellWrite m core mask) s = .next (s.did (fun d => d.bellWrite m.hostSide core mask)))
    ∧ (∀ (w : Nat), s.Lands .core F.WIN_XFER_PAGE.addr → exec (.winXfer w) s = .next (s.did (fun d => d.winXfer false w)))
    ∧ (∀ (at_ : EccAt), s.dev.sysRuns = true → exec (.pageBad at_) s = .next (s.did (fun d => d.memEcc at_)))
    ∧ (∀ (p : Fin 64), s.dev.sysRuns = true → exec (.pageZeroDone p) s = .next (s.did (fun d => d.pageZeroDone p)))
    ∧ (∀ (off : Nat) (store : Option Nat), s.dev.sysRuns = true → exec (.coreDrawerAccess off store) s = .next (s.did (fun d => d.coreAccess off store)))
    ∧ (s.dev.sysRuns = true → exec .coreLateWrite s = .next (s.did (fun d => d.coreLate)))
    ∧ (s.dev.sysRuns = true → exec .fenceWO s = .next (s.did (fun d => d.drainAll d.wbuf.length)))
    ∧ (exec .fenceIR s = .next s)

/-- Every command on the DMA engine completes with its block's operation (R443, R444, R446, R447, R449, R450). Each of these commands
answers a next state, the one that its block's own operation gives, wherever it can act: an event of LOOP while LOOP runs, an
event of SYS while SYS runs, one of the service port out of a cold reset, a register write where it gets to its block. Queue and
fuses stay as they are but where the operation names the fuses. Commands: dmaGo, dmaStop, dmaResume, dmaClear, dmaHalf, dmaFull,
dmaPageReturn, dmaBusError. -/
def Obligations.DmaCommandsComplete : Prop :=
  ∀ s : State,
    (∀ (ch : Fin 8), s.Lands .core (F.DMA_CTRL_GO ch).addr → exec (.dmaGo ch) s = .next (s.did (fun d =>
      if d.goBlocked (F.DMA_CTRL_GO ch).addr (d.wordWith (F.DMA_CTRL_GO ch) 1) then
        d.goIgnored (F.DMA_CTRL_GO ch).addr (d.wordWith (F.DMA_CTRL_GO ch) 1) (goMask (F.DMA_CTRL_GO ch).addr)
      else if (ch : Nat) = 7 then d.note 2 (F.DMA_CTRL_GO ch).addr (d.wordWith (F.DMA_CTRL_GO ch) 1) (d.plainWord (F.DMA_CTRL_GO ch).addr)
      else d.dmaCtrl ch (d.wordWith (F.DMA_CTRL_GO ch) 1))))
    ∧ (∀ (ch : Fin 8), s.Lands .core (F.DMA_CTRL_GO ch).addr → exec (.dmaStop ch) s = .next (s.did (fun d =>
      if d.goBlocked (F.DMA_CTRL_GO ch).addr (d.wordWith (F.DMA_CTRL_GO ch) 0) then
        d.goIgnored (F.DMA_CTRL_GO ch).addr (d.wordWith (F.DMA_CTRL_GO ch) 0) (goMask (F.DMA_CTRL_GO ch).addr)
      else if (ch : Nat) = 7 then d.note 2 (F.DMA_CTRL_GO ch).addr (d.wordWith (F.DMA_CTRL_GO ch) 0) (d.plainWord (F.DMA_CTRL_GO ch).addr)
      else d.dmaCtrl ch (d.wordWith (F.DMA_CTRL_GO ch) 0))))
    ∧ (∀ (ch : Fin 8), s.Lands .core (F.DMA_CTRL_GO ch).addr → exec (.dmaResume ch) s = .next (s.did (fun d =>
      if d.goBlocked (F.DMA_CTRL_GO ch).addr (d.wordWith (F.DMA_CTRL_RESUME ch) 1) then
        d.goIgnored (F.DMA_CTRL_GO ch).addr (d.wordWith (F.DMA_CTRL_RESUME ch) 1) (goMask (F.DMA_CTRL_GO ch).addr)
      else if (ch : Nat) = 7 then d.note 2 (F.DMA_CTRL_GO ch).addr (d.wordWith (F.DMA_CTRL_RESUME ch) 1) (d.plainWord (F.DMA_CTRL_GO ch).addr)
      else d.dmaCtrl ch (d.wordWith (F.DMA_CTRL_RESUME ch) 1))))
    ∧ (s.Lands .core F.DMA_GCTRL_CLEAR.addr → exec .dmaClear s = .next (s.did (fun d => if d.goBlocked F.DMA_GCTRL_CLEAR.addr 1 then d.goIgnored F.DMA_GCTRL_CLEAR.addr 1 (goMask F.DMA_GCTRL_CLEAR.addr) else d.dmaClear)))
    ∧ (∀ (ch : Fin 8), s.dev.sysRuns = true → exec (.dmaHalf ch) s = .next (s.dmaHalf ch))
    ∧ (∀ (ch : Fin 8), s.dev.sysRuns = true → exec (.dmaFull ch) s = .next (s.dmaFull ch))
    ∧ (∀ (ch : Fin 8), s.dev.sysRuns = true → exec (.dmaPageReturn ch) s = .next (s.did (fun d => d.dmaPageBack ch)))
    ∧ (∀ (addr : Nat) (wr : Bool) (progress : List (Nat × Nat)), s.dev.sysRuns = true → exec (.dmaBusError addr wr progress) s = .next (s.dmaFail addr wr progress))

/-- Every command on the two-wire buses and their target completes with its block's operation (R454, R457, R459, R460, R463, R464,
R466). Each of these commands answers a next state, the one that its block's own operation gives, wherever it can act: an event of
LOOP while LOOP runs, an event of SYS while SYS runs, one of the service port out of a cold reset, a register write where it gets
to its block. Queue and fuses stay as they are but where the operation names the fuses. Commands: twbCmdGo, twbTransactionStart,
twbAttemptEnd, twbTimeout, stuckRetry, tgtCapability, tgtPmbusRevision, tgtMfrId, tgtMfrModel, tgtRegAddr, tgtRegDataRead,
tgtRegDataWrite, tgtRegStat, tgtRequestDone, tgtAlertResponse, tgtProtocolError, tgtSclTimeout. -/
def Obligations.TwoWireCommandsComplete : Prop :=
  ∀ s : State,
    (∀ (x : Fin 4), s.Lands .core (F.TWB_CMD_GO x).addr → exec (.twbCmdGo x) s = .next (s.did (fun d => d.twbBus (F.TWB_CMD_GO x).addr (d.wordWith (F.TWB_CMD_GO x) 1))))
    ∧ (∀ (x : Fin 4), s.dev.sysRuns = true → exec (.twbTransactionStart x) s = .next (s.did (fun d => d.txnStart x)))
    ∧ (∀ (x : Fin 4) (result : TwResult), s.dev.sysRuns = true → exec (.twbAttemptEnd x result) s = .next (s.did (fun d => d.attemptEnd x result)))
    ∧ (∀ (x : Fin 4) (sdaFree : Bool), s.dev.sysRuns = true → exec (.twbTimeout x sdaFree) s = .next (s.did (fun d => d.busTimeout x sdaFree)))
    ∧ (∀ (x : Fin 4) (sdaFree : Bool), s.dev.sysRuns = true → exec (.stuckRetry x sdaFree) s = .next (s.did (fun d => d.stuckRetry x sdaFree)))
    ∧ (s.dev.sysRuns = true → exec .tgtCapability s = .next (s.did (fun d => d.tgtAnswer [0xD0])))
    ∧ (s.dev.sysRuns = true → exec .tgtPmbusRevision s = .next (s.did (fun d => d.tgtAnswer [0x33])))
    ∧ (s.dev.sysRuns = true → exec .tgtMfrId s = .next (s.did (fun d => d.tgtAnswer [3, 0x53, 0x54, 0x57])))
    ∧ (s.dev.sysRuns = true → exec .tgtMfrModel s = .next (s.did (fun d => d.tgtAnswer [6, 0x4B, 0x53, 0x43, 0x39, 0x36, 0x30])))
    ∧ (∀ (addr : Nat) (pecOk : Bool), s.dev.sysRuns = true → exec (.tgtRegAddr addr pecOk) s = .next (s.did (fun d => d.tgtSetAddr addr pecOk)))
    ∧ (s.dev.tgtOn = true → exec .tgtRegDataRead s = .next (s.tgtRead))
    ∧ (∀ (w : Nat) (pecOk : Bool), s.dev.tgtOn = true → exec (.tgtRegDataWrite w pecOk) s = .next (s.tgtWrite w pecOk))
    ∧ (s.dev.sysRuns = true → exec .tgtRegStat s = .next (s.did (fun d => d.tgtAnswer [d.target.stat])))
    ∧ (exec .tgtRequestDone s = .next (s.tgtDone))
    ∧ (s.dev.sysRuns = true → exec .tgtAlertResponse s = .next (s.did (fun d => d.tgtRespond)))
    ∧ (s.dev.sysRuns = true → exec .tgtProtocolError s = .next (s.did (fun d => d.tgtError)))
    ∧ (s.dev.sysRuns = true → exec .tgtSclTimeout s = .next (s.did (fun d => d.tgtReset)))

/-- Every command on the service port completes with its block's operation (R469, R471, R472, R473, R474, R475, R476, R479). Each of
these commands answers a next state, the one that its block's own operation gives, wherever it can act: an event of LOOP while
LOOP runs, an event of SYS while SYS runs, one of the service port out of a cold reset, a register write where it gets to its
block. Queue and fuses stay as they are but where the operation names the fuses. Commands: ccAttach, ccDetach, sourceCapsRx,
pdRequestRx, getCapRx, prSwapRx, drSwapRx, vdmRx, hardResetRx, cpdHardrst, frSwapTrigger, sourceOvercurrent, errorRecoveryEnd,
usbOutTransfer, usbRequestDone, pdReplyMessageRx, softResetRx, usbConfigured, usbInTransfer. -/
def Obligations.PortCommandsComplete : Prop :=
  ∀ s : State,
    (∀ (rp : Fin 4) (cc2 : Bool), s.dev.rst.cold = false → exec (.ccAttach rp cc2) s = .next (s.did (fun d => d.ccAttach rp cc2)))
    ∧ (s.dev.rst.cold = false → exec .ccDetach s = .next (s.did (fun d => d.ccDetach)))
    ∧ (∀ (objs : List (Nat × Nat)), s.dev.rst.cold = false → exec (.sourceCapsRx objs) s = .next (s.did (fun d => d.sourceCaps objs)))
    ∧ (∀ (pos : Fin 8) (cur : Nat), s.dev.rst.cold = false → exec (.pdRequestRx pos cur) s = .next (s.did (fun d => d.pdRequest pos cur)))
    ∧ (∀ (sink : Bool), s.dev.rst.cold = false → exec (.getCapRx sink) s = .next (s.did (fun d => d.getCap sink)))
    ∧ (s.dev.rst.cold = false → exec .prSwapRx s = .next (s.did (fun d => d.prSwap)))
    ∧ (s.dev.rst.cold = false → exec .drSwapRx s = .next (s.did (fun d => d.drSwap)))
    ∧ (s.dev.rst.cold = false → exec .vdmRx s = .next (s.did (fun d => d.pdUnsupported)))
    ∧ (s.dev.rst.cold = false → exec .hardResetRx s = .next (s.did (fun d => d.hardReset)))
    ∧ (s.Lands .core F.CPD_CTRL_HARDRST.addr → exec .cpdHardrst s = .next (s.did (fun d => d.cpdCtrl (d.wordWith F.CPD_CTRL_HARDRST 1))))
    ∧ (∀ (vhk : Bool), s.dev.rst.cold = false → exec (.frSwapTrigger vhk) s = .next (s.did (fun d => d.frSwap vhk)))
    ∧ (∀ (vhk : Bool), s.dev.rst.cold = false → exec (.sourceOvercurrent vhk) s = .next (s.did (fun d => d.overcurrent vhk)))
    ∧ (s.dev.rst.cold = false → exec .errorRecoveryEnd s = .next (s.did (fun d => d.recoveryEnd)))
    ∧ (∀ (cmd : PortCmd), exec (.usbOutTransfer cmd) s = .next (s.usbOut cmd))
    ∧ (exec .usbRequestDone s = .next (s.requestEnd .usb))
    ∧ (∀ (msg : PdReply), s.dev.rst.cold = false → exec (.pdReplyMessageRx msg) s = .next (s.did (fun d => d.pdReply msg)))
    ∧ (s.dev.rst.cold = false → exec .softResetRx s = .next (s.did (fun d => d.softReset)))
    ∧ (s.dev.rst.cold = false → exec .usbConfigured s = .next (s.did (fun d => d.usbConfigured)))
    ∧ (s.dev.rst.cold = false → exec .usbInTransfer s = .next (s.did (fun d => d.usbIn)))

/-- Every command on updates and the fuses completes with its block's operation (R483, R490, R491, R493, R495, R496, R498, R499). Each
of these commands answers a next state, the one that its block's own operation gives, wherever it can act: an event of LOOP while
LOOP runs, an event of SYS while SYS runs, one of the service port out of a cold reset, a register write where it gets to its
block. Queue and fuses stay as they are but where the operation names the fuses. Commands: updIngest, imageBlockRx,
containerVerified, imageAckRx, relayTimeout, packageStaged, updActivate, activateFrameRx, activationRetry, updHandover,
handoverDrainEnd, handoverRelease, handoverDrainTimeout, updConfirm, confirmWindowExpiry, partialRevertRetry, updAbort, secProgGo. -/
def Obligations.UpdateCommandsComplete : Prop :=
  ∀ s : State,
    (∀ (container : Container), s.dev.sysRuns = true → exec (.updIngest container) s = .next (s.did (fun d => d.ingest container)))
    ∧ (∀ (index : Nat) (block : Nat) (whole : Option Container), s.dev.sysRuns = true → exec (.imageBlockRx index block whole) s = .next (s.did (fun d => d.imageBlock index block whole)))
    ∧ (∀ (stored : Bool), s.dev.sysRuns = true → exec (.containerVerified stored) s = .next (s.put (s.dev.verified s.otp stored)))
    ∧ (∀ (p : Fin 3) (ok : Bool) (code : Nat), s.dev.sysRuns = true → exec (.imageAckRx p ok code) s = .next (s.did (fun d => d.imageAck p ok code)))
    ∧ (s.dev.sysRuns = true → exec .relayTimeout s = .next (s.did (fun d => d.relayTimeout)))
    ∧ (s.dev.sysRuns = true → exec .packageStaged s = .next (s.did (fun d => d.packageStaged s.otp)))
    ∧ (s.Lands .core F.UPD_CTRL_ACTIVATE.addr → exec .updActivate s = .next (s.did (fun d => d.updCtrl (d.wordWith F.UPD_CTRL_ACTIVATE 1))))
    ∧ (∀ (pkg : Nat), s.dev.sysRuns = true → exec (.activateFrameRx pkg) s = .next (s.did (fun d => d.activateFrame pkg)))
    ∧ (s.dev.sysRuns = true → exec .activationRetry s = .next (s.did (fun d => d.activateRetry)))
    ∧ (∀ (page : Fin 64) (valid : Bool), s.Lands .core F.UPD_CTRL_HANDOVER.addr → exec (.updHandover page valid) s = .next (s.did (fun d => d.updCtrl (d.handoverWord page valid))))
    ∧ (s.dev.sysRuns = true → exec .handoverDrainEnd s = .next (s.did (fun d => d.drainDone)))
    ∧ (s.dev.sysRuns = true → exec .handoverRelease s = .next (s.did (fun d => d.handoverRelease)))
    ∧ (s.dev.sysRuns = true → exec .handoverDrainTimeout s = .next (s.did (fun d => d.drainTimeout)))
    ∧ (∀ (m : Master) (key : Nat), s.Lands m F.UPD_CONFIRM_KEY.addr → exec (.updConfirm m key) s = .next (s.put (s.dev.confirm s.otp m key)))
    ∧ (s.dev.sysRuns = true → exec .confirmWindowExpiry s = .next (s.did (fun d => d.windowExpiry)))
    ∧ (s.dev.sysRuns = true → exec .partialRevertRetry s = .next (s.did (fun d => d.revertRetry)))
    ∧ (s.Lands .core F.UPD_CTRL_ABORT.addr → exec .updAbort s = .next (s.did (fun d => d.updCtrl (d.wordWith F.UPD_CTRL_ABORT 1))))
    ∧ (∀ (m : Master) (w : Nat), s.Lands m F.SEC_PROG_GO.addr → w.testBit 31 = true → exec (.secProgGo m w) s = .next (s.put (s.dev.secProg s.otp m w)))
end

