-- ==== Sys2Proof/Laws/Memory.lean ====
section
/-! SUPPORT. What the register file and the byte memories do: a read after a write, whatever the list, and the one form that every
operation keeps. -/

namespace Sys2Proof.Machine

/-! ### The register file -/

/-- A key that a filter keeps reads as before. -/
theorem RegFile.read_filter {j k : Nat} (hne : j ≠ k) : ∀ l : List (Nat × Nat),
    RegFile.read j (l.filter (fun x => x.1 != k)) = RegFile.read j l
  | [] => rfl
  | (k', v) :: t => by
    by_cases hk : k' = k
    · subst hk; simp [RegFile.read, hne, RegFile.read_filter hne t]
    · by_cases hj : j = k' <;> simp [RegFile.read, hk, hj, RegFile.read_filter hne t]

/-- A key taken out reads 0. -/
theorem RegFile.read_filter_self (k : Nat) : ∀ l : List (Nat × Nat), RegFile.read k (l.filter (fun x => x.1 != k)) = 0
  | [] => rfl
  | (k', v) :: t => by
    by_cases hk : k' = k
    · subst hk; simp [RegFile.read_filter_self k' t]
    · have : k ≠ k' := fun h => hk h.symm
      simp [RegFile.read, hk, this, RegFile.read_filter_self k t]

theorem RegFile.read_put (k v : Nat) : ∀ l : List (Nat × Nat), RegFile.read k (RegFile.put k v l) = v
  | [] => by simp [RegFile.put, RegFile.read]
  | (k', v') :: t => by
    by_cases h1 : k < k'
    · simp [RegFile.put, h1, RegFile.read]
    · by_cases h2 : k = k'
      · simp [RegFile.put, h2, RegFile.read]
      · simp [RegFile.put, h1, h2, RegFile.read, RegFile.read_put k v t]

theorem RegFile.read_put_other {j k v : Nat} (hne : j ≠ k) : ∀ l : List (Nat × Nat),
    RegFile.read j (RegFile.put k v l) = RegFile.read j l
  | [] => by simp [RegFile.put, RegFile.read, hne]
  | (k', v') :: t => by
    by_cases h1 : k < k'
    · simp [RegFile.put, h1, RegFile.read, hne]
    · by_cases h2 : k = k'
      · subst h2; simp [RegFile.put, RegFile.read, hne]
      · by_cases hj : j = k' <;> simp [RegFile.put, h1, h2, RegFile.read, hj, RegFile.read_put_other hne t]

/-- The key written reads the value. -/
@[simp] theorem RegFile.read_write_same (k v : Nat) (l : List (Nat × Nat)) : RegFile.read k (RegFile.write k v l) = v := by
  by_cases hv : v = 0
  · simp [RegFile.write, hv, RegFile.read_filter_self]
  · simp [RegFile.write, hv, RegFile.read_put]

/-- Every other key reads as before. -/
theorem RegFile.read_write_other {j k : Nat} (hne : j ≠ k) (v : Nat) (l : List (Nat × Nat)) :
    RegFile.read j (RegFile.write k v l) = RegFile.read j l := by
  by_cases hv : v = 0
  · simp [RegFile.write, hv, RegFile.read_filter hne]
  · simp [RegFile.write, hv, RegFile.read_put_other hne]

theorem RegFile.wfAbove_mono {a b : Nat} (h : a ≤ b) : ∀ {l : List (Nat × Nat)}, RegFile.wfAbove b l = true → RegFile.wfAbove a l = true
  | [], _ => rfl
  | (k, v) :: t, hl => by
    simp only [RegFile.wfAbove, Bool.and_eq_true, decide_eq_true_eq] at hl ⊢
    exact ⟨⟨by omega, hl.1.2⟩, hl.2⟩

theorem RegFile.wfAbove_filter {b : Nat} (p : Nat × Nat → Bool) :
    ∀ {l : List (Nat × Nat)}, RegFile.wfAbove b l = true → RegFile.wfAbove b (l.filter p) = true
  | [], _ => rfl
  | (k, v) :: t, hl => by
    simp only [RegFile.wfAbove, Bool.and_eq_true, decide_eq_true_eq] at hl
    have ih := RegFile.wfAbove_filter p hl.2
    by_cases hp : p (k, v) = true
    · simp only [List.filter_cons, hp, if_true, RegFile.wfAbove, Bool.and_eq_true, decide_eq_true_eq]; exact ⟨hl.1, ih⟩
    · simp only [List.filter_cons, hp]; exact RegFile.wfAbove_mono (by omega) ih

theorem RegFile.wfAbove_put {b k v : Nat} (hb : b ≤ k) (hv : v ≠ 0) :
    ∀ {l : List (Nat × Nat)}, RegFile.wfAbove b l = true → RegFile.wfAbove b (RegFile.put k v l) = true
  | [], _ => by simp [RegFile.put, RegFile.wfAbove, hv, hb]
  | (k', v') :: t, hl => by
    simp only [RegFile.wfAbove, Bool.and_eq_true, decide_eq_true_eq] at hl
    obtain ⟨⟨h1, h2⟩, h3⟩ := hl
    rcases Nat.lt_trichotomy k k' with hk | hk | hk
    · simp only [RegFile.put, hk, if_true, RegFile.wfAbove, Bool.and_eq_true, decide_eq_true_eq]
      exact ⟨⟨hb, hv⟩, ⟨by omega, h2⟩, h3⟩
    · subst hk; simp [RegFile.put, RegFile.wfAbove, hb, hv, h3]
    · have n1 : ¬ k < k' := by omega
      have n2 : k ≠ k' := by omega
      simp only [RegFile.put, n1, n2, if_false, RegFile.wfAbove, Bool.and_eq_true, decide_eq_true_eq]
      exact ⟨⟨h1, h2⟩, RegFile.wfAbove_put (by omega) hv h3⟩

/-- Every write of the register file keeps its one form. -/
theorem RegFile.wf_write (k v : Nat) {l : List (Nat × Nat)} (h : RegFile.wf l = true) : RegFile.wf (RegFile.write k v l) = true := by
  by_cases hv : v = 0
  · simp only [RegFile.write, hv, if_true]; exact RegFile.wfAbove_filter _ h
  · simp only [RegFile.write, hv, if_false]; exact RegFile.wfAbove_put (Nat.zero_le k) hv h

/-! ### Byte memories -/

theorem Memory.read_filter {c a : Nat} (hne : c ≠ a) : ∀ l : List Host.Cell,
    Memory.read c (l.filter (fun x => x.1 != a)) = Memory.read c l
  | [] => rfl
  | (k, v) :: t => by
    by_cases hk : k = a
    · subst hk; simp [Memory.read, hne, Memory.read_filter hne t]
    · by_cases hj : c = k <;> simp [Memory.read, hk, hj, Memory.read_filter hne t]

theorem Memory.read_filter_self (a : Nat) : ∀ l : List Host.Cell, Memory.read a (l.filter (fun x => x.1 != a)) = Memory.blank
  | [] => rfl
  | (k, v) :: t => by
    by_cases hk : k = a
    · subst hk; simp [Memory.read_filter_self k t]
    · have : a ≠ k := fun h => hk h.symm
      simp [Memory.read, hk, this, Memory.read_filter_self a t]

theorem Memory.read_put (a : Nat) (b : BitVec 8) : ∀ l : List Host.Cell, Memory.read a (Memory.put a b l) = b
  | [] => by simp [Memory.put, Memory.read]
  | (k, v) :: t => by
    by_cases h1 : a < k
    · simp [Memory.put, h1, Memory.read]
    · by_cases h2 : a = k
      · simp [Memory.put, h2, Memory.read]
      · simp [Memory.put, h1, h2, Memory.read, Memory.read_put a b t]

theorem Memory.read_put_other {c a : Nat} (b : BitVec 8) (hne : c ≠ a) : ∀ l : List Host.Cell,
    Memory.read c (Memory.put a b l) = Memory.read c l
  | [] => by simp [Memory.put, Memory.read, hne]
  | (k, v) :: t => by
    by_cases h1 : a < k
    · simp [Memory.put, h1, Memory.read, hne]
    · by_cases h2 : a = k
      · subst h2; simp [Memory.put, Memory.read, hne]
      · by_cases hj : c = k <;> simp [Memory.put, h1, h2, Memory.read, hj, Memory.read_put_other b hne t]

/-- The address written reads the byte. -/
@[simp] theorem Memory.read_write_same (a : Nat) (b : BitVec 8) (l : List Host.Cell) : Memory.read a (Memory.write a b l) = b := by
  by_cases hb : b = Memory.blank
  · simp [Memory.write, hb, Memory.read_filter_self]
  · simp [Memory.write, hb, Memory.read_put]

/-- Every other address reads as before. -/
theorem Memory.read_write_other {c a : Nat} (hne : c ≠ a) (b : BitVec 8) (l : List Host.Cell) :
    Memory.read c (Memory.write a b l) = Memory.read c l := by
  by_cases hb : b = Memory.blank
  · simp [Memory.write, hb, Memory.read_filter hne]
  · simp [Memory.write, hb, Memory.read_put_other b hne]

theorem Memory.wfAbove_mono {a b : Nat} (h : a ≤ b) : ∀ {l : List Host.Cell}, Memory.wfAbove b l = true → Memory.wfAbove a l = true
  | [], _ => rfl
  | (k, v) :: t, hl => by
    simp only [Memory.wfAbove, Bool.and_eq_true, decide_eq_true_eq] at hl ⊢
    exact ⟨⟨by omega, hl.1.2⟩, hl.2⟩

theorem Memory.wfAbove_filter {b : Nat} (p : Host.Cell → Bool) :
    ∀ {l : List Host.Cell}, Memory.wfAbove b l = true → Memory.wfAbove b (l.filter p) = true
  | [], _ => rfl
  | (k, v) :: t, hl => by
    simp only [Memory.wfAbove, Bool.and_eq_true, decide_eq_true_eq] at hl
    have ih := Memory.wfAbove_filter p hl.2
    by_cases hp : p (k, v) = true
    · simp only [List.filter_cons, hp, if_true, Memory.wfAbove, Bool.and_eq_true, decide_eq_true_eq]; exact ⟨hl.1, ih⟩
    · simp only [List.filter_cons, hp]; exact Memory.wfAbove_mono (by omega) ih

theorem Memory.wfAbove_put {lo a : Nat} {b : BitVec 8} (hb : lo ≤ a) (hv : b ≠ Memory.blank) :
    ∀ {l : List Host.Cell}, Memory.wfAbove lo l = true → Memory.wfAbove lo (Memory.put a b l) = true
  | [], _ => by simp [Memory.put, Memory.wfAbove, hv, hb]
  | (k, v) :: t, hl => by
    simp only [Memory.wfAbove, Bool.and_eq_true, decide_eq_true_eq] at hl
    obtain ⟨⟨h1, h2⟩, h3⟩ := hl
    rcases Nat.lt_trichotomy a k with hk | hk | hk
    · simp only [Memory.put, hk, if_true, Memory.wfAbove, Bool.and_eq_true, decide_eq_true_eq]
      exact ⟨⟨hb, hv⟩, ⟨by omega, h2⟩, h3⟩
    · subst hk; simp [Memory.put, Memory.wfAbove, hb, hv, h3]
    · have n1 : ¬ a < k := by omega
      have n2 : a ≠ k := by omega
      simp only [Memory.put, n1, n2, if_false, Memory.wfAbove, Bool.and_eq_true, decide_eq_true_eq]
      exact ⟨⟨h1, h2⟩, Memory.wfAbove_put (by omega) hv h3⟩

/-- Every write of a memory keeps its one form. -/
theorem Memory.wf_write (a : Nat) (b : BitVec 8) {l : List Host.Cell} (h : Memory.wf l = true) : Memory.wf (Memory.write a b l) = true := by
  by_cases hb : b = Memory.blank
  · simp only [Memory.write, hb, if_true]; exact Memory.wfAbove_filter _ h
  · simp only [Memory.write, hb, if_false]; exact Memory.wfAbove_put (Nat.zero_le a) hb h

/-- A range forgotten keeps the one form. -/
theorem Memory.wf_forget (lo hi : Nat) {l : List Host.Cell} (h : Memory.wf l = true) : Memory.wf (Memory.forget lo hi l) = true :=
  Memory.wfAbove_filter _ h

/-! ### The memories and the registers of State.reset have the one form -/

theorem reset_mem_wf : Memory.wf State.reset.dev.mem = true := rfl

theorem reset_vault_wf : Memory.wf State.reset.dev.vault.bytes = true := rfl

theorem reset_regs_wf : RegFile.wf State.reset.dev.regs = true := by decide +kernel

end Sys2Proof.Machine
end

