-- ==== Sys2Proof/Laws/State.lean ====
section
/-! SUPPORT. Each update of the state, field by field: what it leaves as it was, so that no proof unfolds a record update. Every lemma
holds by definition. -/

namespace Sys2Proof.Machine

/-! ### The whole state -/
@[simp] theorem State.onDev_pending (s : State) (f : Dev → Dev) : (s.onDev f).pending = s.pending := rfl
@[simp] theorem State.loopDo_pending (f : Dev → Dev) (s : State) : (s.loopDo f).pending = s.pending := rfl
@[simp] theorem State.sysDo_pending (f : Dev → Dev) (s : State) : (s.sysDo f).pending = s.pending := rfl
@[simp] theorem State.pdDo_pending (f : Dev → Dev) (s : State) : (s.pdDo f).pending = s.pending := rfl
@[simp] theorem State.tick_pending (s : State) : s.tick.pending = s.pending := rfl
@[simp] theorem State.onDev_otp (s : State) (f : Dev → Dev) : (s.onDev f).otp = s.otp := rfl
@[simp] theorem State.loopDo_otp (f : Dev → Dev) (s : State) : (s.loopDo f).otp = s.otp := rfl
@[simp] theorem State.sysDo_otp (f : Dev → Dev) (s : State) : (s.sysDo f).otp = s.otp := rfl
@[simp] theorem State.pdDo_otp (f : Dev → Dev) (s : State) : (s.pdDo f).otp = s.otp := rfl
@[simp] theorem State.tick_otp (s : State) : s.tick.otp = s.otp := rfl
@[simp] theorem State.onDev_dev (s : State) (f : Dev → Dev) : (s.onDev f).dev = f s.dev := rfl
@[simp] theorem State.put_pending (s : State) (x : Dev × Otp) : (s.put x).pending = s.pending := rfl
@[simp] theorem State.put_otp (s : State) (x : Dev × Otp) : (s.put x).otp = x.2 := rfl
@[simp] theorem State.put_dev (s : State) (x : Dev × Otp) : (s.put x).dev = x.1 := rfl
/-! ### A register field set -/
@[simp] theorem Dev.set_now (d : Dev) (f : Fld) (v : Nat) : (d.set f v).now = d.now := rfl
@[simp] theorem Dev.set_loop (d : Dev) (f : Fld) (v : Nat) : (d.set f v).loop = d.loop := rfl
@[simp] theorem Dev.set_tim (d : Dev) (f : Fld) (v : Nat) : (d.set f v).tim = d.tim := rfl
@[simp] theorem Dev.set_free (d : Dev) (f : Fld) (v : Nat) : (d.set f v).free = d.free := rfl
@[simp] theorem Dev.set_cfg (d : Dev) (f : Fld) (v : Nat) : (d.set f v).cfg = d.cfg := rfl
@[simp] theorem Dev.set_raised (d : Dev) (f : Fld) (v : Nat) : (d.set f v).raised = d.raised := rfl
@[simp] theorem Dev.set_proStart (d : Dev) (f : Fld) (v : Nat) : (d.set f v).proStart = d.proStart := rfl
@[simp] theorem Dev.set_proNow (d : Dev) (f : Fld) (v : Nat) : (d.set f v).proNow = d.proNow := rfl
@[simp] theorem Dev.set_safeLine (d : Dev) (f : Fld) (v : Nat) : (d.set f v).safeLine = d.safeLine := rfl
@[simp] theorem Dev.set_asyncLow (d : Dev) (f : Fld) (v : Nat) : (d.set f v).asyncLow = d.asyncLow := rfl
@[simp] theorem Dev.set_fresh (d : Dev) (f : Fld) (v : Nat) : (d.set f v).fresh = d.fresh := rfl
@[simp] theorem Dev.set_freshSrc (d : Dev) (f : Fld) (v : Nat) : (d.set f v).freshSrc = d.freshSrc := rfl
@[simp] theorem Dev.set_killLow (d : Dev) (f : Fld) (v : Nat) : (d.set f v).killLow = d.killLow := rfl
@[simp] theorem Dev.set_out (d : Dev) (f : Fld) (v : Nat) : (d.set f v).out = d.out := rfl
@[simp] theorem Dev.set_chans (d : Dev) (f : Fld) (v : Nat) : (d.set f v).chans = d.chans := rfl
@[simp] theorem Dev.set_mons (d : Dev) (f : Fld) (v : Nat) : (d.set f v).mons = d.mons := rfl
@[simp] theorem Dev.set_benches (d : Dev) (f : Fld) (v : Nat) : (d.set f v).benches = d.benches := rfl
@[simp] theorem Dev.set_rails (d : Dev) (f : Fld) (v : Nat) : (d.set f v).rails = d.rails := rfl
@[simp] theorem Dev.set_groups (d : Dev) (f : Fld) (v : Nat) : (d.set f v).groups = d.groups := rfl
@[simp] theorem Dev.set_lastRep (d : Dev) (f : Fld) (v : Nat) : (d.set f v).lastRep = d.lastRep := rfl
@[simp] theorem Dev.set_slots (d : Dev) (f : Fld) (v : Nat) : (d.set f v).slots = d.slots := rfl
@[simp] theorem Dev.set_lanes (d : Dev) (f : Fld) (v : Nat) : (d.set f v).lanes = d.lanes := rfl
@[simp] theorem Dev.set_lines (d : Dev) (f : Fld) (v : Nat) : (d.set f v).lines = d.lines := rfl
@[simp] theorem Dev.set_vault (d : Dev) (f : Fld) (v : Nat) : (d.set f v).vault = d.vault := rfl
@[simp] theorem Dev.set_sensors (d : Dev) (f : Fld) (v : Nat) : (d.set f v).sensors = d.sensors := rfl
@[simp] theorem Dev.set_safeThm (d : Dev) (f : Fld) (v : Nat) : (d.set f v).safeThm = d.safeThm := rfl
@[simp] theorem Dev.set_buses (d : Dev) (f : Fld) (v : Nat) : (d.set f v).buses = d.buses := rfl
@[simp] theorem Dev.set_rects (d : Dev) (f : Fld) (v : Nat) : (d.set f v).rects = d.rects := rfl
@[simp] theorem Dev.set_cap (d : Dev) (f : Fld) (v : Nat) : (d.set f v).cap = d.cap := rfl
@[simp] theorem Dev.set_eng (d : Dev) (f : Fld) (v : Nat) : (d.set f v).eng = d.eng := rfl
@[simp] theorem Dev.set_strs (d : Dev) (f : Fld) (v : Nat) : (d.set f v).strs = d.strs := rfl
@[simp] theorem Dev.set_dpx (d : Dev) (f : Fld) (v : Nat) : (d.set f v).dpx = d.dpx := rfl
@[simp] theorem Dev.set_link (d : Dev) (f : Fld) (v : Nat) : (d.set f v).link = d.link := rfl
@[simp] theorem Dev.set_timSt (d : Dev) (f : Fld) (v : Nat) : (d.set f v).timSt = d.timSt := rfl
@[simp] theorem Dev.set_sup (d : Dev) (f : Fld) (v : Nat) : (d.set f v).sup = d.sup := rfl
@[simp] theorem Dev.set_rst (d : Dev) (f : Fld) (v : Nat) : (d.set f v).rst = d.rst := rfl
@[simp] theorem Dev.set_hung (d : Dev) (f : Fld) (v : Nat) : (d.set f v).hung = d.hung := rfl
@[simp] theorem Dev.set_dmaHeld (d : Dev) (f : Fld) (v : Nat) : (d.set f v).dmaHeld = d.dmaHeld := rfl
@[simp] theorem Dev.set_fwCross (d : Dev) (f : Fld) (v : Nat) : (d.set f v).fwCross = d.fwCross := rfl
@[simp] theorem Dev.set_alertX (d : Dev) (f : Fld) (v : Nat) : (d.set f v).alertX = d.alertX := rfl
@[simp] theorem Dev.set_fifos (d : Dev) (f : Fld) (v : Nat) : (d.set f v).fifos = d.fifos := rfl
@[simp] theorem Dev.set_cfgBad (d : Dev) (f : Fld) (v : Nat) : (d.set f v).cfgBad = d.cfgBad := rfl
@[simp] theorem Dev.set_cfgMem (d : Dev) (f : Fld) (v : Nat) : (d.set f v).cfgMem = d.cfgMem := rfl
@[simp] theorem Dev.set_dowels (d : Dev) (f : Fld) (v : Nat) : (d.set f v).dowels = d.dowels := rfl
@[simp] theorem Dev.set_loading (d : Dev) (f : Fld) (v : Nat) : (d.set f v).loading = d.loading := rfl
@[simp] theorem Dev.set_mem (d : Dev) (f : Fld) (v : Nat) : (d.set f v).mem = d.mem := rfl
@[simp] theorem Dev.set_wbuf (d : Dev) (f : Fld) (v : Nat) : (d.set f v).wbuf = d.wbuf := rfl
@[simp] theorem Dev.set_zeroing (d : Dev) (f : Fld) (v : Nat) : (d.set f v).zeroing = d.zeroing := rfl
@[simp] theorem Dev.set_hst (d : Dev) (f : Fld) (v : Nat) : (d.set f v).hst = d.hst := rfl
@[simp] theorem Dev.set_tgt (d : Dev) (f : Fld) (v : Nat) : (d.set f v).tgt = d.tgt := rfl
@[simp] theorem Dev.set_usb (d : Dev) (f : Fld) (v : Nat) : (d.set f v).usb = d.usb := rfl
@[simp] theorem Dev.set_target (d : Dev) (f : Fld) (v : Nat) : (d.set f v).target = d.target := rfl
@[simp] theorem Dev.set_cpd (d : Dev) (f : Fld) (v : Nat) : (d.set f v).cpd = d.cpd := rfl
@[simp] theorem Dev.set_ports (d : Dev) (f : Fld) (v : Nat) : (d.set f v).ports = d.ports := rfl
@[simp] theorem Dev.set_upd (d : Dev) (f : Fld) (v : Nat) : (d.set f v).upd = d.upd := rfl
@[simp] theorem Dev.set_snap (d : Dev) (f : Fld) (v : Nat) : (d.set f v).snap = d.snap := rfl
@[simp] theorem Dev.set_evr (d : Dev) (f : Fld) (v : Nat) : (d.set f v).evr = d.evr := rfl
@[simp] theorem Dev.setB_now (d : Dev) (f : Fld) (b : Bool) : (d.setB f b).now = d.now := rfl
@[simp] theorem Dev.setB_loop (d : Dev) (f : Fld) (b : Bool) : (d.setB f b).loop = d.loop := rfl
@[simp] theorem Dev.setB_tim (d : Dev) (f : Fld) (b : Bool) : (d.setB f b).tim = d.tim := rfl
@[simp] theorem Dev.setB_free (d : Dev) (f : Fld) (b : Bool) : (d.setB f b).free = d.free := rfl
@[simp] theorem Dev.setB_cfg (d : Dev) (f : Fld) (b : Bool) : (d.setB f b).cfg = d.cfg := rfl
@[simp] theorem Dev.setB_raised (d : Dev) (f : Fld) (b : Bool) : (d.setB f b).raised = d.raised := rfl
@[simp] theorem Dev.setB_proStart (d : Dev) (f : Fld) (b : Bool) : (d.setB f b).proStart = d.proStart := rfl
@[simp] theorem Dev.setB_proNow (d : Dev) (f : Fld) (b : Bool) : (d.setB f b).proNow = d.proNow := rfl
@[simp] theorem Dev.setB_safeLine (d : Dev) (f : Fld) (b : Bool) : (d.setB f b).safeLine = d.safeLine := rfl
@[simp] theorem Dev.setB_asyncLow (d : Dev) (f : Fld) (b : Bool) : (d.setB f b).asyncLow = d.asyncLow := rfl
@[simp] theorem Dev.setB_fresh (d : Dev) (f : Fld) (b : Bool) : (d.setB f b).fresh = d.fresh := rfl
@[simp] theorem Dev.setB_freshSrc (d : Dev) (f : Fld) (b : Bool) : (d.setB f b).freshSrc = d.freshSrc := rfl
@[simp] theorem Dev.setB_killLow (d : Dev) (f : Fld) (b : Bool) : (d.setB f b).killLow = d.killLow := rfl
@[simp] theorem Dev.setB_out (d : Dev) (f : Fld) (b : Bool) : (d.setB f b).out = d.out := rfl
@[simp] theorem Dev.setB_chans (d : Dev) (f : Fld) (b : Bool) : (d.setB f b).chans = d.chans := rfl
@[simp] theorem Dev.setB_mons (d : Dev) (f : Fld) (b : Bool) : (d.setB f b).mons = d.mons := rfl
@[simp] theorem Dev.setB_benches (d : Dev) (f : Fld) (b : Bool) : (d.setB f b).benches = d.benches := rfl
@[simp] theorem Dev.setB_rails (d : Dev) (f : Fld) (b : Bool) : (d.setB f b).rails = d.rails := rfl
@[simp] theorem Dev.setB_groups (d : Dev) (f : Fld) (b : Bool) : (d.setB f b).groups = d.groups := rfl
@[simp] theorem Dev.setB_lastRep (d : Dev) (f : Fld) (b : Bool) : (d.setB f b).lastRep = d.lastRep := rfl
@[simp] theorem Dev.setB_slots (d : Dev) (f : Fld) (b : Bool) : (d.setB f b).slots = d.slots := rfl
@[simp] theorem Dev.setB_lanes (d : Dev) (f : Fld) (b : Bool) : (d.setB f b).lanes = d.lanes := rfl
@[simp] theorem Dev.setB_lines (d : Dev) (f : Fld) (b : Bool) : (d.setB f b).lines = d.lines := rfl
@[simp] theorem Dev.setB_vault (d : Dev) (f : Fld) (b : Bool) : (d.setB f b).vault = d.vault := rfl
@[simp] theorem Dev.setB_sensors (d : Dev) (f : Fld) (b : Bool) : (d.setB f b).sensors = d.sensors := rfl
@[simp] theorem Dev.setB_safeThm (d : Dev) (f : Fld) (b : Bool) : (d.setB f b).safeThm = d.safeThm := rfl
@[simp] theorem Dev.setB_buses (d : Dev) (f : Fld) (b : Bool) : (d.setB f b).buses = d.buses := rfl
@[simp] theorem Dev.setB_rects (d : Dev) (f : Fld) (b : Bool) : (d.setB f b).rects = d.rects := rfl
@[simp] theorem Dev.setB_cap (d : Dev) (f : Fld) (b : Bool) : (d.setB f b).cap = d.cap := rfl
@[simp] theorem Dev.setB_eng (d : Dev) (f : Fld) (b : Bool) : (d.setB f b).eng = d.eng := rfl
@[simp] theorem Dev.setB_strs (d : Dev) (f : Fld) (b : Bool) : (d.setB f b).strs = d.strs := rfl
@[simp] theorem Dev.setB_dpx (d : Dev) (f : Fld) (b : Bool) : (d.setB f b).dpx = d.dpx := rfl
@[simp] theorem Dev.setB_link (d : Dev) (f : Fld) (b : Bool) : (d.setB f b).link = d.link := rfl
@[simp] theorem Dev.setB_timSt (d : Dev) (f : Fld) (b : Bool) : (d.setB f b).timSt = d.timSt := rfl
@[simp] theorem Dev.setB_sup (d : Dev) (f : Fld) (b : Bool) : (d.setB f b).sup = d.sup := rfl
@[simp] theorem Dev.setB_rst (d : Dev) (f : Fld) (b : Bool) : (d.setB f b).rst = d.rst := rfl
@[simp] theorem Dev.setB_hung (d : Dev) (f : Fld) (b : Bool) : (d.setB f b).hung = d.hung := rfl
@[simp] theorem Dev.setB_dmaHeld (d : Dev) (f : Fld) (b : Bool) : (d.setB f b).dmaHeld = d.dmaHeld := rfl
@[simp] theorem Dev.setB_fwCross (d : Dev) (f : Fld) (b : Bool) : (d.setB f b).fwCross = d.fwCross := rfl
@[simp] theorem Dev.setB_alertX (d : Dev) (f : Fld) (b : Bool) : (d.setB f b).alertX = d.alertX := rfl
@[simp] theorem Dev.setB_fifos (d : Dev) (f : Fld) (b : Bool) : (d.setB f b).fifos = d.fifos := rfl
@[simp] theorem Dev.setB_cfgBad (d : Dev) (f : Fld) (b : Bool) : (d.setB f b).cfgBad = d.cfgBad := rfl
@[simp] theorem Dev.setB_cfgMem (d : Dev) (f : Fld) (b : Bool) : (d.setB f b).cfgMem = d.cfgMem := rfl
@[simp] theorem Dev.setB_dowels (d : Dev) (f : Fld) (b : Bool) : (d.setB f b).dowels = d.dowels := rfl
@[simp] theorem Dev.setB_loading (d : Dev) (f : Fld) (b : Bool) : (d.setB f b).loading = d.loading := rfl
@[simp] theorem Dev.setB_mem (d : Dev) (f : Fld) (b : Bool) : (d.setB f b).mem = d.mem := rfl
@[simp] theorem Dev.setB_wbuf (d : Dev) (f : Fld) (b : Bool) : (d.setB f b).wbuf = d.wbuf := rfl
@[simp] theorem Dev.setB_zeroing (d : Dev) (f : Fld) (b : Bool) : (d.setB f b).zeroing = d.zeroing := rfl
@[simp] theorem Dev.setB_hst (d : Dev) (f : Fld) (b : Bool) : (d.setB f b).hst = d.hst := rfl
@[simp] theorem Dev.setB_tgt (d : Dev) (f : Fld) (b : Bool) : (d.setB f b).tgt = d.tgt := rfl
@[simp] theorem Dev.setB_usb (d : Dev) (f : Fld) (b : Bool) : (d.setB f b).usb = d.usb := rfl
@[simp] theorem Dev.setB_target (d : Dev) (f : Fld) (b : Bool) : (d.setB f b).target = d.target := rfl
@[simp] theorem Dev.setB_cpd (d : Dev) (f : Fld) (b : Bool) : (d.setB f b).cpd = d.cpd := rfl
@[simp] theorem Dev.setB_ports (d : Dev) (f : Fld) (b : Bool) : (d.setB f b).ports = d.ports := rfl
@[simp] theorem Dev.setB_upd (d : Dev) (f : Fld) (b : Bool) : (d.setB f b).upd = d.upd := rfl
@[simp] theorem Dev.setB_snap (d : Dev) (f : Fld) (b : Bool) : (d.setB f b).snap = d.snap := rfl
@[simp] theorem Dev.setB_evr (d : Dev) (f : Fld) (b : Bool) : (d.setB f b).evr = d.evr := rfl
@[simp] theorem Dev.inc_now (d : Dev) (f : Fld) : (d.inc f).now = d.now := rfl
@[simp] theorem Dev.inc_loop (d : Dev) (f : Fld) : (d.inc f).loop = d.loop := rfl
@[simp] theorem Dev.inc_tim (d : Dev) (f : Fld) : (d.inc f).tim = d.tim := rfl
@[simp] theorem Dev.inc_free (d : Dev) (f : Fld) : (d.inc f).free = d.free := rfl
@[simp] theorem Dev.inc_cfg (d : Dev) (f : Fld) : (d.inc f).cfg = d.cfg := rfl
@[simp] theorem Dev.inc_raised (d : Dev) (f : Fld) : (d.inc f).raised = d.raised := rfl
@[simp] theorem Dev.inc_proStart (d : Dev) (f : Fld) : (d.inc f).proStart = d.proStart := rfl
@[simp] theorem Dev.inc_proNow (d : Dev) (f : Fld) : (d.inc f).proNow = d.proNow := rfl
@[simp] theorem Dev.inc_safeLine (d : Dev) (f : Fld) : (d.inc f).safeLine = d.safeLine := rfl
@[simp] theorem Dev.inc_asyncLow (d : Dev) (f : Fld) : (d.inc f).asyncLow = d.asyncLow := rfl
@[simp] theorem Dev.inc_fresh (d : Dev) (f : Fld) : (d.inc f).fresh = d.fresh := rfl
@[simp] theorem Dev.inc_freshSrc (d : Dev) (f : Fld) : (d.inc f).freshSrc = d.freshSrc := rfl
@[simp] theorem Dev.inc_killLow (d : Dev) (f : Fld) : (d.inc f).killLow = d.killLow := rfl
@[simp] theorem Dev.inc_out (d : Dev) (f : Fld) : (d.inc f).out = d.out := rfl
@[simp] theorem Dev.inc_chans (d : Dev) (f : Fld) : (d.inc f).chans = d.chans := rfl
@[simp] theorem Dev.inc_mons (d : Dev) (f : Fld) : (d.inc f).mons = d.mons := rfl
@[simp] theorem Dev.inc_benches (d : Dev) (f : Fld) : (d.inc f).benches = d.benches := rfl
@[simp] theorem Dev.inc_rails (d : Dev) (f : Fld) : (d.inc f).rails = d.rails := rfl
@[simp] theorem Dev.inc_groups (d : Dev) (f : Fld) : (d.inc f).groups = d.groups := rfl
@[simp] theorem Dev.inc_lastRep (d : Dev) (f : Fld) : (d.inc f).lastRep = d.lastRep := rfl
@[simp] theorem Dev.inc_slots (d : Dev) (f : Fld) : (d.inc f).slots = d.slots := rfl
@[simp] theorem Dev.inc_lanes (d : Dev) (f : Fld) : (d.inc f).lanes = d.lanes := rfl
@[simp] theorem Dev.inc_lines (d : Dev) (f : Fld) : (d.inc f).lines = d.lines := rfl
@[simp] theorem Dev.inc_vault (d : Dev) (f : Fld) : (d.inc f).vault = d.vault := rfl
@[simp] theorem Dev.inc_sensors (d : Dev) (f : Fld) : (d.inc f).sensors = d.sensors := rfl
@[simp] theorem Dev.inc_safeThm (d : Dev) (f : Fld) : (d.inc f).safeThm = d.safeThm := rfl
@[simp] theorem Dev.inc_buses (d : Dev) (f : Fld) : (d.inc f).buses = d.buses := rfl
@[simp] theorem Dev.inc_rects (d : Dev) (f : Fld) : (d.inc f).rects = d.rects := rfl
@[simp] theorem Dev.inc_cap (d : Dev) (f : Fld) : (d.inc f).cap = d.cap := rfl
@[simp] theorem Dev.inc_eng (d : Dev) (f : Fld) : (d.inc f).eng = d.eng := rfl
@[simp] theorem Dev.inc_strs (d : Dev) (f : Fld) : (d.inc f).strs = d.strs := rfl
@[simp] theorem Dev.inc_dpx (d : Dev) (f : Fld) : (d.inc f).dpx = d.dpx := rfl
@[simp] theorem Dev.inc_link (d : Dev) (f : Fld) : (d.inc f).link = d.link := rfl
@[simp] theorem Dev.inc_timSt (d : Dev) (f : Fld) : (d.inc f).timSt = d.timSt := rfl
@[simp] theorem Dev.inc_sup (d : Dev) (f : Fld) : (d.inc f).sup = d.sup := rfl
@[simp] theorem Dev.inc_rst (d : Dev) (f : Fld) : (d.inc f).rst = d.rst := rfl
@[simp] theorem Dev.inc_hung (d : Dev) (f : Fld) : (d.inc f).hung = d.hung := rfl
@[simp] theorem Dev.inc_dmaHeld (d : Dev) (f : Fld) : (d.inc f).dmaHeld = d.dmaHeld := rfl
@[simp] theorem Dev.inc_fwCross (d : Dev) (f : Fld) : (d.inc f).fwCross = d.fwCross := rfl
@[simp] theorem Dev.inc_alertX (d : Dev) (f : Fld) : (d.inc f).alertX = d.alertX := rfl
@[simp] theorem Dev.inc_fifos (d : Dev) (f : Fld) : (d.inc f).fifos = d.fifos := rfl
@[simp] theorem Dev.inc_cfgBad (d : Dev) (f : Fld) : (d.inc f).cfgBad = d.cfgBad := rfl
@[simp] theorem Dev.inc_cfgMem (d : Dev) (f : Fld) : (d.inc f).cfgMem = d.cfgMem := rfl
@[simp] theorem Dev.inc_dowels (d : Dev) (f : Fld) : (d.inc f).dowels = d.dowels := rfl
@[simp] theorem Dev.inc_loading (d : Dev) (f : Fld) : (d.inc f).loading = d.loading := rfl
@[simp] theorem Dev.inc_mem (d : Dev) (f : Fld) : (d.inc f).mem = d.mem := rfl
@[simp] theorem Dev.inc_wbuf (d : Dev) (f : Fld) : (d.inc f).wbuf = d.wbuf := rfl
@[simp] theorem Dev.inc_zeroing (d : Dev) (f : Fld) : (d.inc f).zeroing = d.zeroing := rfl
@[simp] theorem Dev.inc_hst (d : Dev) (f : Fld) : (d.inc f).hst = d.hst := rfl
@[simp] theorem Dev.inc_tgt (d : Dev) (f : Fld) : (d.inc f).tgt = d.tgt := rfl
@[simp] theorem Dev.inc_usb (d : Dev) (f : Fld) : (d.inc f).usb = d.usb := rfl
@[simp] theorem Dev.inc_target (d : Dev) (f : Fld) : (d.inc f).target = d.target := rfl
@[simp] theorem Dev.inc_cpd (d : Dev) (f : Fld) : (d.inc f).cpd = d.cpd := rfl
@[simp] theorem Dev.inc_ports (d : Dev) (f : Fld) : (d.inc f).ports = d.ports := rfl
@[simp] theorem Dev.inc_upd (d : Dev) (f : Fld) : (d.inc f).upd = d.upd := rfl
@[simp] theorem Dev.inc_snap (d : Dev) (f : Fld) : (d.inc f).snap = d.snap := rfl
@[simp] theorem Dev.inc_evr (d : Dev) (f : Fld) : (d.inc f).evr = d.evr := rfl
@[simp] theorem Dev.incMod_now (d : Dev) (f : Fld) : (d.incMod f).now = d.now := rfl
@[simp] theorem Dev.incMod_loop (d : Dev) (f : Fld) : (d.incMod f).loop = d.loop := rfl
@[simp] theorem Dev.incMod_tim (d : Dev) (f : Fld) : (d.incMod f).tim = d.tim := rfl
@[simp] theorem Dev.incMod_free (d : Dev) (f : Fld) : (d.incMod f).free = d.free := rfl
@[simp] theorem Dev.incMod_cfg (d : Dev) (f : Fld) : (d.incMod f).cfg = d.cfg := rfl
@[simp] theorem Dev.incMod_raised (d : Dev) (f : Fld) : (d.incMod f).raised = d.raised := rfl
@[simp] theorem Dev.incMod_proStart (d : Dev) (f : Fld) : (d.incMod f).proStart = d.proStart := rfl
@[simp] theorem Dev.incMod_proNow (d : Dev) (f : Fld) : (d.incMod f).proNow = d.proNow := rfl
@[simp] theorem Dev.incMod_safeLine (d : Dev) (f : Fld) : (d.incMod f).safeLine = d.safeLine := rfl
@[simp] theorem Dev.incMod_asyncLow (d : Dev) (f : Fld) : (d.incMod f).asyncLow = d.asyncLow := rfl
@[simp] theorem Dev.incMod_fresh (d : Dev) (f : Fld) : (d.incMod f).fresh = d.fresh := rfl
@[simp] theorem Dev.incMod_freshSrc (d : Dev) (f : Fld) : (d.incMod f).freshSrc = d.freshSrc := rfl
@[simp] theorem Dev.incMod_killLow (d : Dev) (f : Fld) : (d.incMod f).killLow = d.killLow := rfl
@[simp] theorem Dev.incMod_out (d : Dev) (f : Fld) : (d.incMod f).out = d.out := rfl
@[simp] theorem Dev.incMod_chans (d : Dev) (f : Fld) : (d.incMod f).chans = d.chans := rfl
@[simp] theorem Dev.incMod_mons (d : Dev) (f : Fld) : (d.incMod f).mons = d.mons := rfl
@[simp] theorem Dev.incMod_benches (d : Dev) (f : Fld) : (d.incMod f).benches = d.benches := rfl
@[simp] theorem Dev.incMod_rails (d : Dev) (f : Fld) : (d.incMod f).rails = d.rails := rfl
@[simp] theorem Dev.incMod_groups (d : Dev) (f : Fld) : (d.incMod f).groups = d.groups := rfl
@[simp] theorem Dev.incMod_lastRep (d : Dev) (f : Fld) : (d.incMod f).lastRep = d.lastRep := rfl
@[simp] theorem Dev.incMod_slots (d : Dev) (f : Fld) : (d.incMod f).slots = d.slots := rfl
@[simp] theorem Dev.incMod_lanes (d : Dev) (f : Fld) : (d.incMod f).lanes = d.lanes := rfl
@[simp] theorem Dev.incMod_lines (d : Dev) (f : Fld) : (d.incMod f).lines = d.lines := rfl
@[simp] theorem Dev.incMod_vault (d : Dev) (f : Fld) : (d.incMod f).vault = d.vault := rfl
@[simp] theorem Dev.incMod_sensors (d : Dev) (f : Fld) : (d.incMod f).sensors = d.sensors := rfl
@[simp] theorem Dev.incMod_safeThm (d : Dev) (f : Fld) : (d.incMod f).safeThm = d.safeThm := rfl
@[simp] theorem Dev.incMod_buses (d : Dev) (f : Fld) : (d.incMod f).buses = d.buses := rfl
@[simp] theorem Dev.incMod_rects (d : Dev) (f : Fld) : (d.incMod f).rects = d.rects := rfl
@[simp] theorem Dev.incMod_cap (d : Dev) (f : Fld) : (d.incMod f).cap = d.cap := rfl
@[simp] theorem Dev.incMod_eng (d : Dev) (f : Fld) : (d.incMod f).eng = d.eng := rfl
@[simp] theorem Dev.incMod_strs (d : Dev) (f : Fld) : (d.incMod f).strs = d.strs := rfl
@[simp] theorem Dev.incMod_dpx (d : Dev) (f : Fld) : (d.incMod f).dpx = d.dpx := rfl
@[simp] theorem Dev.incMod_link (d : Dev) (f : Fld) : (d.incMod f).link = d.link := rfl
@[simp] theorem Dev.incMod_timSt (d : Dev) (f : Fld) : (d.incMod f).timSt = d.timSt := rfl
@[simp] theorem Dev.incMod_sup (d : Dev) (f : Fld) : (d.incMod f).sup = d.sup := rfl
@[simp] theorem Dev.incMod_rst (d : Dev) (f : Fld) : (d.incMod f).rst = d.rst := rfl
@[simp] theorem Dev.incMod_hung (d : Dev) (f : Fld) : (d.incMod f).hung = d.hung := rfl
@[simp] theorem Dev.incMod_dmaHeld (d : Dev) (f : Fld) : (d.incMod f).dmaHeld = d.dmaHeld := rfl
@[simp] theorem Dev.incMod_fwCross (d : Dev) (f : Fld) : (d.incMod f).fwCross = d.fwCross := rfl
@[simp] theorem Dev.incMod_alertX (d : Dev) (f : Fld) : (d.incMod f).alertX = d.alertX := rfl
@[simp] theorem Dev.incMod_fifos (d : Dev) (f : Fld) : (d.incMod f).fifos = d.fifos := rfl
@[simp] theorem Dev.incMod_cfgBad (d : Dev) (f : Fld) : (d.incMod f).cfgBad = d.cfgBad := rfl
@[simp] theorem Dev.incMod_cfgMem (d : Dev) (f : Fld) : (d.incMod f).cfgMem = d.cfgMem := rfl
@[simp] theorem Dev.incMod_dowels (d : Dev) (f : Fld) : (d.incMod f).dowels = d.dowels := rfl
@[simp] theorem Dev.incMod_loading (d : Dev) (f : Fld) : (d.incMod f).loading = d.loading := rfl
@[simp] theorem Dev.incMod_mem (d : Dev) (f : Fld) : (d.incMod f).mem = d.mem := rfl
@[simp] theorem Dev.incMod_wbuf (d : Dev) (f : Fld) : (d.incMod f).wbuf = d.wbuf := rfl
@[simp] theorem Dev.incMod_zeroing (d : Dev) (f : Fld) : (d.incMod f).zeroing = d.zeroing := rfl
@[simp] theorem Dev.incMod_hst (d : Dev) (f : Fld) : (d.incMod f).hst = d.hst := rfl
@[simp] theorem Dev.incMod_tgt (d : Dev) (f : Fld) : (d.incMod f).tgt = d.tgt := rfl
@[simp] theorem Dev.incMod_usb (d : Dev) (f : Fld) : (d.incMod f).usb = d.usb := rfl
@[simp] theorem Dev.incMod_target (d : Dev) (f : Fld) : (d.incMod f).target = d.target := rfl
@[simp] theorem Dev.incMod_cpd (d : Dev) (f : Fld) : (d.incMod f).cpd = d.cpd := rfl
@[simp] theorem Dev.incMod_ports (d : Dev) (f : Fld) : (d.incMod f).ports = d.ports := rfl
@[simp] theorem Dev.incMod_upd (d : Dev) (f : Fld) : (d.incMod f).upd = d.upd := rfl
@[simp] theorem Dev.incMod_snap (d : Dev) (f : Fld) : (d.incMod f).snap = d.snap := rfl
@[simp] theorem Dev.incMod_evr (d : Dev) (f : Fld) : (d.incMod f).evr = d.evr := rfl
@[simp] theorem Dev.orBits_now (d : Dev) (f : Fld) (m : Nat) : (d.orBits f m).now = d.now := rfl
@[simp] theorem Dev.orBits_loop (d : Dev) (f : Fld) (m : Nat) : (d.orBits f m).loop = d.loop := rfl
@[simp] theorem Dev.orBits_tim (d : Dev) (f : Fld) (m : Nat) : (d.orBits f m).tim = d.tim := rfl
@[simp] theorem Dev.orBits_free (d : Dev) (f : Fld) (m : Nat) : (d.orBits f m).free = d.free := rfl
@[simp] theorem Dev.orBits_cfg (d : Dev) (f : Fld) (m : Nat) : (d.orBits f m).cfg = d.cfg := rfl
@[simp] theorem Dev.orBits_raised (d : Dev) (f : Fld) (m : Nat) : (d.orBits f m).raised = d.raised := rfl
@[simp] theorem Dev.orBits_proStart (d : Dev) (f : Fld) (m : Nat) : (d.orBits f m).proStart = d.proStart := rfl
@[simp] theorem Dev.orBits_proNow (d : Dev) (f : Fld) (m : Nat) : (d.orBits f m).proNow = d.proNow := rfl
@[simp] theorem Dev.orBits_safeLine (d : Dev) (f : Fld) (m : Nat) : (d.orBits f m).safeLine = d.safeLine := rfl
@[simp] theorem Dev.orBits_asyncLow (d : Dev) (f : Fld) (m : Nat) : (d.orBits f m).asyncLow = d.asyncLow := rfl
@[simp] theorem Dev.orBits_fresh (d : Dev) (f : Fld) (m : Nat) : (d.orBits f m).fresh = d.fresh := rfl
@[simp] theorem Dev.orBits_freshSrc (d : Dev) (f : Fld) (m : Nat) : (d.orBits f m).freshSrc = d.freshSrc := rfl
@[simp] theorem Dev.orBits_killLow (d : Dev) (f : Fld) (m : Nat) : (d.orBits f m).killLow = d.killLow := rfl
@[simp] theorem Dev.orBits_out (d : Dev) (f : Fld) (m : Nat) : (d.orBits f m).out = d.out := rfl
@[simp] theorem Dev.orBits_chans (d : Dev) (f : Fld) (m : Nat) : (d.orBits f m).chans = d.chans := rfl
@[simp] theorem Dev.orBits_mons (d : Dev) (f : Fld) (m : Nat) : (d.orBits f m).mons = d.mons := rfl
@[simp] theorem Dev.orBits_benches (d : Dev) (f : Fld) (m : Nat) : (d.orBits f m).benches = d.benches := rfl
@[simp] theorem Dev.orBits_rails (d : Dev) (f : Fld) (m : Nat) : (d.orBits f m).rails = d.rails := rfl
@[simp] theorem Dev.orBits_groups (d : Dev) (f : Fld) (m : Nat) : (d.orBits f m).groups = d.groups := rfl
@[simp] theorem Dev.orBits_lastRep (d : Dev) (f : Fld) (m : Nat) : (d.orBits f m).lastRep = d.lastRep := rfl
@[simp] theorem Dev.orBits_slots (d : Dev) (f : Fld) (m : Nat) : (d.orBits f m).slots = d.slots := rfl
@[simp] theorem Dev.orBits_lanes (d : Dev) (f : Fld) (m : Nat) : (d.orBits f m).lanes = d.lanes := rfl
@[simp] theorem Dev.orBits_lines (d : Dev) (f : Fld) (m : Nat) : (d.orBits f m).lines = d.lines := rfl
@[simp] theorem Dev.orBits_vault (d : Dev) (f : Fld) (m : Nat) : (d.orBits f m).vault = d.vault := rfl
@[simp] theorem Dev.orBits_sensors (d : Dev) (f : Fld) (m : Nat) : (d.orBits f m).sensors = d.sensors := rfl
@[simp] theorem Dev.orBits_safeThm (d : Dev) (f : Fld) (m : Nat) : (d.orBits f m).safeThm = d.safeThm := rfl
@[simp] theorem Dev.orBits_buses (d : Dev) (f : Fld) (m : Nat) : (d.orBits f m).buses = d.buses := rfl
@[simp] theorem Dev.orBits_rects (d : Dev) (f : Fld) (m : Nat) : (d.orBits f m).rects = d.rects := rfl
@[simp] theorem Dev.orBits_cap (d : Dev) (f : Fld) (m : Nat) : (d.orBits f m).cap = d.cap := rfl
@[simp] theorem Dev.orBits_eng (d : Dev) (f : Fld) (m : Nat) : (d.orBits f m).eng = d.eng := rfl
@[simp] theorem Dev.orBits_strs (d : Dev) (f : Fld) (m : Nat) : (d.orBits f m).strs = d.strs := rfl
@[simp] theorem Dev.orBits_dpx (d : Dev) (f : Fld) (m : Nat) : (d.orBits f m).dpx = d.dpx := rfl
@[simp] theorem Dev.orBits_link (d : Dev) (f : Fld) (m : Nat) : (d.orBits f m).link = d.link := rfl
@[simp] theorem Dev.orBits_timSt (d : Dev) (f : Fld) (m : Nat) : (d.orBits f m).timSt = d.timSt := rfl
@[simp] theorem Dev.orBits_sup (d : Dev) (f : Fld) (m : Nat) : (d.orBits f m).sup = d.sup := rfl
@[simp] theorem Dev.orBits_rst (d : Dev) (f : Fld) (m : Nat) : (d.orBits f m).rst = d.rst := rfl
@[simp] theorem Dev.orBits_hung (d : Dev) (f : Fld) (m : Nat) : (d.orBits f m).hung = d.hung := rfl
@[simp] theorem Dev.orBits_dmaHeld (d : Dev) (f : Fld) (m : Nat) : (d.orBits f m).dmaHeld = d.dmaHeld := rfl
@[simp] theorem Dev.orBits_fwCross (d : Dev) (f : Fld) (m : Nat) : (d.orBits f m).fwCross = d.fwCross := rfl
@[simp] theorem Dev.orBits_alertX (d : Dev) (f : Fld) (m : Nat) : (d.orBits f m).alertX = d.alertX := rfl
@[simp] theorem Dev.orBits_fifos (d : Dev) (f : Fld) (m : Nat) : (d.orBits f m).fifos = d.fifos := rfl
@[simp] theorem Dev.orBits_cfgBad (d : Dev) (f : Fld) (m : Nat) : (d.orBits f m).cfgBad = d.cfgBad := rfl
@[simp] theorem Dev.orBits_cfgMem (d : Dev) (f : Fld) (m : Nat) : (d.orBits f m).cfgMem = d.cfgMem := rfl
@[simp] theorem Dev.orBits_dowels (d : Dev) (f : Fld) (m : Nat) : (d.orBits f m).dowels = d.dowels := rfl
@[simp] theorem Dev.orBits_loading (d : Dev) (f : Fld) (m : Nat) : (d.orBits f m).loading = d.loading := rfl
@[simp] theorem Dev.orBits_mem (d : Dev) (f : Fld) (m : Nat) : (d.orBits f m).mem = d.mem := rfl
@[simp] theorem Dev.orBits_wbuf (d : Dev) (f : Fld) (m : Nat) : (d.orBits f m).wbuf = d.wbuf := rfl
@[simp] theorem Dev.orBits_zeroing (d : Dev) (f : Fld) (m : Nat) : (d.orBits f m).zeroing = d.zeroing := rfl
@[simp] theorem Dev.orBits_hst (d : Dev) (f : Fld) (m : Nat) : (d.orBits f m).hst = d.hst := rfl
@[simp] theorem Dev.orBits_tgt (d : Dev) (f : Fld) (m : Nat) : (d.orBits f m).tgt = d.tgt := rfl
@[simp] theorem Dev.orBits_usb (d : Dev) (f : Fld) (m : Nat) : (d.orBits f m).usb = d.usb := rfl
@[simp] theorem Dev.orBits_target (d : Dev) (f : Fld) (m : Nat) : (d.orBits f m).target = d.target := rfl
@[simp] theorem Dev.orBits_cpd (d : Dev) (f : Fld) (m : Nat) : (d.orBits f m).cpd = d.cpd := rfl
@[simp] theorem Dev.orBits_ports (d : Dev) (f : Fld) (m : Nat) : (d.orBits f m).ports = d.ports := rfl
@[simp] theorem Dev.orBits_upd (d : Dev) (f : Fld) (m : Nat) : (d.orBits f m).upd = d.upd := rfl
@[simp] theorem Dev.orBits_snap (d : Dev) (f : Fld) (m : Nat) : (d.orBits f m).snap = d.snap := rfl
@[simp] theorem Dev.orBits_evr (d : Dev) (f : Fld) (m : Nat) : (d.orBits f m).evr = d.evr := rfl
@[simp] theorem Dev.clrBits_now (d : Dev) (f : Fld) (m : Nat) : (d.clrBits f m).now = d.now := rfl
@[simp] theorem Dev.clrBits_loop (d : Dev) (f : Fld) (m : Nat) : (d.clrBits f m).loop = d.loop := rfl
@[simp] theorem Dev.clrBits_tim (d : Dev) (f : Fld) (m : Nat) : (d.clrBits f m).tim = d.tim := rfl
@[simp] theorem Dev.clrBits_free (d : Dev) (f : Fld) (m : Nat) : (d.clrBits f m).free = d.free := rfl
@[simp] theorem Dev.clrBits_cfg (d : Dev) (f : Fld) (m : Nat) : (d.clrBits f m).cfg = d.cfg := rfl
@[simp] theorem Dev.clrBits_raised (d : Dev) (f : Fld) (m : Nat) : (d.clrBits f m).raised = d.raised := rfl
@[simp] theorem Dev.clrBits_proStart (d : Dev) (f : Fld) (m : Nat) : (d.clrBits f m).proStart = d.proStart := rfl
@[simp] theorem Dev.clrBits_proNow (d : Dev) (f : Fld) (m : Nat) : (d.clrBits f m).proNow = d.proNow := rfl
@[simp] theorem Dev.clrBits_safeLine (d : Dev) (f : Fld) (m : Nat) : (d.clrBits f m).safeLine = d.safeLine := rfl
@[simp] theorem Dev.clrBits_asyncLow (d : Dev) (f : Fld) (m : Nat) : (d.clrBits f m).asyncLow = d.asyncLow := rfl
@[simp] theorem Dev.clrBits_fresh (d : Dev) (f : Fld) (m : Nat) : (d.clrBits f m).fresh = d.fresh := rfl
@[simp] theorem Dev.clrBits_freshSrc (d : Dev) (f : Fld) (m : Nat) : (d.clrBits f m).freshSrc = d.freshSrc := rfl
@[simp] theorem Dev.clrBits_killLow (d : Dev) (f : Fld) (m : Nat) : (d.clrBits f m).killLow = d.killLow := rfl
@[simp] theorem Dev.clrBits_out (d : Dev) (f : Fld) (m : Nat) : (d.clrBits f m).out = d.out := rfl
@[simp] theorem Dev.clrBits_chans (d : Dev) (f : Fld) (m : Nat) : (d.clrBits f m).chans = d.chans := rfl
@[simp] theorem Dev.clrBits_mons (d : Dev) (f : Fld) (m : Nat) : (d.clrBits f m).mons = d.mons := rfl
@[simp] theorem Dev.clrBits_benches (d : Dev) (f : Fld) (m : Nat) : (d.clrBits f m).benches = d.benches := rfl
@[simp] theorem Dev.clrBits_rails (d : Dev) (f : Fld) (m : Nat) : (d.clrBits f m).rails = d.rails := rfl
@[simp] theorem Dev.clrBits_groups (d : Dev) (f : Fld) (m : Nat) : (d.clrBits f m).groups = d.groups := rfl
@[simp] theorem Dev.clrBits_lastRep (d : Dev) (f : Fld) (m : Nat) : (d.clrBits f m).lastRep = d.lastRep := rfl
@[simp] theorem Dev.clrBits_slots (d : Dev) (f : Fld) (m : Nat) : (d.clrBits f m).slots = d.slots := rfl
@[simp] theorem Dev.clrBits_lanes (d : Dev) (f : Fld) (m : Nat) : (d.clrBits f m).lanes = d.lanes := rfl
@[simp] theorem Dev.clrBits_lines (d : Dev) (f : Fld) (m : Nat) : (d.clrBits f m).lines = d.lines := rfl
@[simp] theorem Dev.clrBits_vault (d : Dev) (f : Fld) (m : Nat) : (d.clrBits f m).vault = d.vault := rfl
@[simp] theorem Dev.clrBits_sensors (d : Dev) (f : Fld) (m : Nat) : (d.clrBits f m).sensors = d.sensors := rfl
@[simp] theorem Dev.clrBits_safeThm (d : Dev) (f : Fld) (m : Nat) : (d.clrBits f m).safeThm = d.safeThm := rfl
@[simp] theorem Dev.clrBits_buses (d : Dev) (f : Fld) (m : Nat) : (d.clrBits f m).buses = d.buses := rfl
@[simp] theorem Dev.clrBits_rects (d : Dev) (f : Fld) (m : Nat) : (d.clrBits f m).rects = d.rects := rfl
@[simp] theorem Dev.clrBits_cap (d : Dev) (f : Fld) (m : Nat) : (d.clrBits f m).cap = d.cap := rfl
@[simp] theorem Dev.clrBits_eng (d : Dev) (f : Fld) (m : Nat) : (d.clrBits f m).eng = d.eng := rfl
@[simp] theorem Dev.clrBits_strs (d : Dev) (f : Fld) (m : Nat) : (d.clrBits f m).strs = d.strs := rfl
@[simp] theorem Dev.clrBits_dpx (d : Dev) (f : Fld) (m : Nat) : (d.clrBits f m).dpx = d.dpx := rfl
@[simp] theorem Dev.clrBits_link (d : Dev) (f : Fld) (m : Nat) : (d.clrBits f m).link = d.link := rfl
@[simp] theorem Dev.clrBits_timSt (d : Dev) (f : Fld) (m : Nat) : (d.clrBits f m).timSt = d.timSt := rfl
@[simp] theorem Dev.clrBits_sup (d : Dev) (f : Fld) (m : Nat) : (d.clrBits f m).sup = d.sup := rfl
@[simp] theorem Dev.clrBits_rst (d : Dev) (f : Fld) (m : Nat) : (d.clrBits f m).rst = d.rst := rfl
@[simp] theorem Dev.clrBits_hung (d : Dev) (f : Fld) (m : Nat) : (d.clrBits f m).hung = d.hung := rfl
@[simp] theorem Dev.clrBits_dmaHeld (d : Dev) (f : Fld) (m : Nat) : (d.clrBits f m).dmaHeld = d.dmaHeld := rfl
@[simp] theorem Dev.clrBits_fwCross (d : Dev) (f : Fld) (m : Nat) : (d.clrBits f m).fwCross = d.fwCross := rfl
@[simp] theorem Dev.clrBits_alertX (d : Dev) (f : Fld) (m : Nat) : (d.clrBits f m).alertX = d.alertX := rfl
@[simp] theorem Dev.clrBits_fifos (d : Dev) (f : Fld) (m : Nat) : (d.clrBits f m).fifos = d.fifos := rfl
@[simp] theorem Dev.clrBits_cfgBad (d : Dev) (f : Fld) (m : Nat) : (d.clrBits f m).cfgBad = d.cfgBad := rfl
@[simp] theorem Dev.clrBits_cfgMem (d : Dev) (f : Fld) (m : Nat) : (d.clrBits f m).cfgMem = d.cfgMem := rfl
@[simp] theorem Dev.clrBits_dowels (d : Dev) (f : Fld) (m : Nat) : (d.clrBits f m).dowels = d.dowels := rfl
@[simp] theorem Dev.clrBits_loading (d : Dev) (f : Fld) (m : Nat) : (d.clrBits f m).loading = d.loading := rfl
@[simp] theorem Dev.clrBits_mem (d : Dev) (f : Fld) (m : Nat) : (d.clrBits f m).mem = d.mem := rfl
@[simp] theorem Dev.clrBits_wbuf (d : Dev) (f : Fld) (m : Nat) : (d.clrBits f m).wbuf = d.wbuf := rfl
@[simp] theorem Dev.clrBits_zeroing (d : Dev) (f : Fld) (m : Nat) : (d.clrBits f m).zeroing = d.zeroing := rfl
@[simp] theorem Dev.clrBits_hst (d : Dev) (f : Fld) (m : Nat) : (d.clrBits f m).hst = d.hst := rfl
@[simp] theorem Dev.clrBits_tgt (d : Dev) (f : Fld) (m : Nat) : (d.clrBits f m).tgt = d.tgt := rfl
@[simp] theorem Dev.clrBits_usb (d : Dev) (f : Fld) (m : Nat) : (d.clrBits f m).usb = d.usb := rfl
@[simp] theorem Dev.clrBits_target (d : Dev) (f : Fld) (m : Nat) : (d.clrBits f m).target = d.target := rfl
@[simp] theorem Dev.clrBits_cpd (d : Dev) (f : Fld) (m : Nat) : (d.clrBits f m).cpd = d.cpd := rfl
@[simp] theorem Dev.clrBits_ports (d : Dev) (f : Fld) (m : Nat) : (d.clrBits f m).ports = d.ports := rfl
@[simp] theorem Dev.clrBits_upd (d : Dev) (f : Fld) (m : Nat) : (d.clrBits f m).upd = d.upd := rfl
@[simp] theorem Dev.clrBits_snap (d : Dev) (f : Fld) (m : Nat) : (d.clrBits f m).snap = d.snap := rfl
@[simp] theorem Dev.clrBits_evr (d : Dev) (f : Fld) (m : Nat) : (d.clrBits f m).evr = d.evr := rfl
@[simp] theorem Dev.setS_now (d : Dev) (f : Fld) (i : Int) : (d.setS f i).now = d.now := rfl
@[simp] theorem Dev.setS_loop (d : Dev) (f : Fld) (i : Int) : (d.setS f i).loop = d.loop := rfl
@[simp] theorem Dev.setS_tim (d : Dev) (f : Fld) (i : Int) : (d.setS f i).tim = d.tim := rfl
@[simp] theorem Dev.setS_free (d : Dev) (f : Fld) (i : Int) : (d.setS f i).free = d.free := rfl
@[simp] theorem Dev.setS_cfg (d : Dev) (f : Fld) (i : Int) : (d.setS f i).cfg = d.cfg := rfl
@[simp] theorem Dev.setS_raised (d : Dev) (f : Fld) (i : Int) : (d.setS f i).raised = d.raised := rfl
@[simp] theorem Dev.setS_proStart (d : Dev) (f : Fld) (i : Int) : (d.setS f i).proStart = d.proStart := rfl
@[simp] theorem Dev.setS_proNow (d : Dev) (f : Fld) (i : Int) : (d.setS f i).proNow = d.proNow := rfl
@[simp] theorem Dev.setS_safeLine (d : Dev) (f : Fld) (i : Int) : (d.setS f i).safeLine = d.safeLine := rfl
@[simp] theorem Dev.setS_asyncLow (d : Dev) (f : Fld) (i : Int) : (d.setS f i).asyncLow = d.asyncLow := rfl
@[simp] theorem Dev.setS_fresh (d : Dev) (f : Fld) (i : Int) : (d.setS f i).fresh = d.fresh := rfl
@[simp] theorem Dev.setS_freshSrc (d : Dev) (f : Fld) (i : Int) : (d.setS f i).freshSrc = d.freshSrc := rfl
@[simp] theorem Dev.setS_killLow (d : Dev) (f : Fld) (i : Int) : (d.setS f i).killLow = d.killLow := rfl
@[simp] theorem Dev.setS_out (d : Dev) (f : Fld) (i : Int) : (d.setS f i).out = d.out := rfl
@[simp] theorem Dev.setS_chans (d : Dev) (f : Fld) (i : Int) : (d.setS f i).chans = d.chans := rfl
@[simp] theorem Dev.setS_mons (d : Dev) (f : Fld) (i : Int) : (d.setS f i).mons = d.mons := rfl
@[simp] theorem Dev.setS_benches (d : Dev) (f : Fld) (i : Int) : (d.setS f i).benches = d.benches := rfl
@[simp] theorem Dev.setS_rails (d : Dev) (f : Fld) (i : Int) : (d.setS f i).rails = d.rails := rfl
@[simp] theorem Dev.setS_groups (d : Dev) (f : Fld) (i : Int) : (d.setS f i).groups = d.groups := rfl
@[simp] theorem Dev.setS_lastRep (d : Dev) (f : Fld) (i : Int) : (d.setS f i).lastRep = d.lastRep := rfl
@[simp] theorem Dev.setS_slots (d : Dev) (f : Fld) (i : Int) : (d.setS f i).slots = d.slots := rfl
@[simp] theorem Dev.setS_lanes (d : Dev) (f : Fld) (i : Int) : (d.setS f i).lanes = d.lanes := rfl
@[simp] theorem Dev.setS_lines (d : Dev) (f : Fld) (i : Int) : (d.setS f i).lines = d.lines := rfl
@[simp] theorem Dev.setS_vault (d : Dev) (f : Fld) (i : Int) : (d.setS f i).vault = d.vault := rfl
@[simp] theorem Dev.setS_sensors (d : Dev) (f : Fld) (i : Int) : (d.setS f i).sensors = d.sensors := rfl
@[simp] theorem Dev.setS_safeThm (d : Dev) (f : Fld) (i : Int) : (d.setS f i).safeThm = d.safeThm := rfl
@[simp] theorem Dev.setS_buses (d : Dev) (f : Fld) (i : Int) : (d.setS f i).buses = d.buses := rfl
@[simp] theorem Dev.setS_rects (d : Dev) (f : Fld) (i : Int) : (d.setS f i).rects = d.rects := rfl
@[simp] theorem Dev.setS_cap (d : Dev) (f : Fld) (i : Int) : (d.setS f i).cap = d.cap := rfl
@[simp] theorem Dev.setS_eng (d : Dev) (f : Fld) (i : Int) : (d.setS f i).eng = d.eng := rfl
@[simp] theorem Dev.setS_strs (d : Dev) (f : Fld) (i : Int) : (d.setS f i).strs = d.strs := rfl
@[simp] theorem Dev.setS_dpx (d : Dev) (f : Fld) (i : Int) : (d.setS f i).dpx = d.dpx := rfl
@[simp] theorem Dev.setS_link (d : Dev) (f : Fld) (i : Int) : (d.setS f i).link = d.link := rfl
@[simp] theorem Dev.setS_timSt (d : Dev) (f : Fld) (i : Int) : (d.setS f i).timSt = d.timSt := rfl
@[simp] theorem Dev.setS_sup (d : Dev) (f : Fld) (i : Int) : (d.setS f i).sup = d.sup := rfl
@[simp] theorem Dev.setS_rst (d : Dev) (f : Fld) (i : Int) : (d.setS f i).rst = d.rst := rfl
@[simp] theorem Dev.setS_hung (d : Dev) (f : Fld) (i : Int) : (d.setS f i).hung = d.hung := rfl
@[simp] theorem Dev.setS_dmaHeld (d : Dev) (f : Fld) (i : Int) : (d.setS f i).dmaHeld = d.dmaHeld := rfl
@[simp] theorem Dev.setS_fwCross (d : Dev) (f : Fld) (i : Int) : (d.setS f i).fwCross = d.fwCross := rfl
@[simp] theorem Dev.setS_alertX (d : Dev) (f : Fld) (i : Int) : (d.setS f i).alertX = d.alertX := rfl
@[simp] theorem Dev.setS_fifos (d : Dev) (f : Fld) (i : Int) : (d.setS f i).fifos = d.fifos := rfl
@[simp] theorem Dev.setS_cfgBad (d : Dev) (f : Fld) (i : Int) : (d.setS f i).cfgBad = d.cfgBad := rfl
@[simp] theorem Dev.setS_cfgMem (d : Dev) (f : Fld) (i : Int) : (d.setS f i).cfgMem = d.cfgMem := rfl
@[simp] theorem Dev.setS_dowels (d : Dev) (f : Fld) (i : Int) : (d.setS f i).dowels = d.dowels := rfl
@[simp] theorem Dev.setS_loading (d : Dev) (f : Fld) (i : Int) : (d.setS f i).loading = d.loading := rfl
@[simp] theorem Dev.setS_mem (d : Dev) (f : Fld) (i : Int) : (d.setS f i).mem = d.mem := rfl
@[simp] theorem Dev.setS_wbuf (d : Dev) (f : Fld) (i : Int) : (d.setS f i).wbuf = d.wbuf := rfl
@[simp] theorem Dev.setS_zeroing (d : Dev) (f : Fld) (i : Int) : (d.setS f i).zeroing = d.zeroing := rfl
@[simp] theorem Dev.setS_hst (d : Dev) (f : Fld) (i : Int) : (d.setS f i).hst = d.hst := rfl
@[simp] theorem Dev.setS_tgt (d : Dev) (f : Fld) (i : Int) : (d.setS f i).tgt = d.tgt := rfl
@[simp] theorem Dev.setS_usb (d : Dev) (f : Fld) (i : Int) : (d.setS f i).usb = d.usb := rfl
@[simp] theorem Dev.setS_target (d : Dev) (f : Fld) (i : Int) : (d.setS f i).target = d.target := rfl
@[simp] theorem Dev.setS_cpd (d : Dev) (f : Fld) (i : Int) : (d.setS f i).cpd = d.cpd := rfl
@[simp] theorem Dev.setS_ports (d : Dev) (f : Fld) (i : Int) : (d.setS f i).ports = d.ports := rfl
@[simp] theorem Dev.setS_upd (d : Dev) (f : Fld) (i : Int) : (d.setS f i).upd = d.upd := rfl
@[simp] theorem Dev.setS_snap (d : Dev) (f : Fld) (i : Int) : (d.setS f i).snap = d.snap := rfl
@[simp] theorem Dev.setS_evr (d : Dev) (f : Fld) (i : Int) : (d.setS f i).evr = d.evr := rfl
/-! ### A part of a block changed -/
@[simp] theorem Dev.modBench_regs (d : Dev) (n : Nat) (f : Bench → Bench) : (d.modBench n f).regs = d.regs := rfl
@[simp] theorem Dev.modBench_now (d : Dev) (n : Nat) (f : Bench → Bench) : (d.modBench n f).now = d.now := rfl
@[simp] theorem Dev.modBench_loop (d : Dev) (n : Nat) (f : Bench → Bench) : (d.modBench n f).loop = d.loop := rfl
@[simp] theorem Dev.modBench_tim (d : Dev) (n : Nat) (f : Bench → Bench) : (d.modBench n f).tim = d.tim := rfl
@[simp] theorem Dev.modBench_cfg (d : Dev) (n : Nat) (f : Bench → Bench) : (d.modBench n f).cfg = d.cfg := rfl
@[simp] theorem Dev.modBench_raised (d : Dev) (n : Nat) (f : Bench → Bench) : (d.modBench n f).raised = d.raised := rfl
@[simp] theorem Dev.modBench_out (d : Dev) (n : Nat) (f : Bench → Bench) : (d.modBench n f).out = d.out := rfl
@[simp] theorem Dev.modBench_rst (d : Dev) (n : Nat) (f : Bench → Bench) : (d.modBench n f).rst = d.rst := rfl
@[simp] theorem Dev.modBench_mem (d : Dev) (n : Nat) (f : Bench → Bench) : (d.modBench n f).mem = d.mem := rfl
@[simp] theorem Dev.modBench_vault (d : Dev) (n : Nat) (f : Bench → Bench) : (d.modBench n f).vault = d.vault := rfl
@[simp] theorem Dev.modBench_sup (d : Dev) (n : Nat) (f : Bench → Bench) : (d.modBench n f).sup = d.sup := rfl
@[simp] theorem Dev.modBench_free (d : Dev) (n : Nat) (f : Bench → Bench) : (d.modBench n f).free = d.free := rfl
@[simp] theorem Dev.modBench_get (d : Dev) (n : Nat) (f : Bench → Bench) (g : Fld) : (d.modBench n f).get g = d.get g := rfl
@[simp] theorem Dev.modChan_regs (d : Dev) (n : Nat) (f : Chan → Chan) : (d.modChan n f).regs = d.regs := rfl
@[simp] theorem Dev.modChan_now (d : Dev) (n : Nat) (f : Chan → Chan) : (d.modChan n f).now = d.now := rfl
@[simp] theorem Dev.modChan_loop (d : Dev) (n : Nat) (f : Chan → Chan) : (d.modChan n f).loop = d.loop := rfl
@[simp] theorem Dev.modChan_tim (d : Dev) (n : Nat) (f : Chan → Chan) : (d.modChan n f).tim = d.tim := rfl
@[simp] theorem Dev.modChan_cfg (d : Dev) (n : Nat) (f : Chan → Chan) : (d.modChan n f).cfg = d.cfg := rfl
@[simp] theorem Dev.modChan_raised (d : Dev) (n : Nat) (f : Chan → Chan) : (d.modChan n f).raised = d.raised := rfl
@[simp] theorem Dev.modChan_out (d : Dev) (n : Nat) (f : Chan → Chan) : (d.modChan n f).out = d.out := rfl
@[simp] theorem Dev.modChan_rst (d : Dev) (n : Nat) (f : Chan → Chan) : (d.modChan n f).rst = d.rst := rfl
@[simp] theorem Dev.modChan_mem (d : Dev) (n : Nat) (f : Chan → Chan) : (d.modChan n f).mem = d.mem := rfl
@[simp] theorem Dev.modChan_vault (d : Dev) (n : Nat) (f : Chan → Chan) : (d.modChan n f).vault = d.vault := rfl
@[simp] theorem Dev.modChan_sup (d : Dev) (n : Nat) (f : Chan → Chan) : (d.modChan n f).sup = d.sup := rfl
@[simp] theorem Dev.modChan_free (d : Dev) (n : Nat) (f : Chan → Chan) : (d.modChan n f).free = d.free := rfl
@[simp] theorem Dev.modChan_get (d : Dev) (n : Nat) (f : Chan → Chan) (g : Fld) : (d.modChan n f).get g = d.get g := rfl
@[simp] theorem Dev.modMon_regs (d : Dev) (n : Nat) (f : MonIn → MonIn) : (d.modMon n f).regs = d.regs := rfl
@[simp] theorem Dev.modMon_now (d : Dev) (n : Nat) (f : MonIn → MonIn) : (d.modMon n f).now = d.now := rfl
@[simp] theorem Dev.modMon_loop (d : Dev) (n : Nat) (f : MonIn → MonIn) : (d.modMon n f).loop = d.loop := rfl
@[simp] theorem Dev.modMon_tim (d : Dev) (n : Nat) (f : MonIn → MonIn) : (d.modMon n f).tim = d.tim := rfl
@[simp] theorem Dev.modMon_cfg (d : Dev) (n : Nat) (f : MonIn → MonIn) : (d.modMon n f).cfg = d.cfg := rfl
@[simp] theorem Dev.modMon_raised (d : Dev) (n : Nat) (f : MonIn → MonIn) : (d.modMon n f).raised = d.raised := rfl
@[simp] theorem Dev.modMon_out (d : Dev) (n : Nat) (f : MonIn → MonIn) : (d.modMon n f).out = d.out := rfl
@[simp] theorem Dev.modMon_rst (d : Dev) (n : Nat) (f : MonIn → MonIn) : (d.modMon n f).rst = d.rst := rfl
@[simp] theorem Dev.modMon_mem (d : Dev) (n : Nat) (f : MonIn → MonIn) : (d.modMon n f).mem = d.mem := rfl
@[simp] theorem Dev.modMon_vault (d : Dev) (n : Nat) (f : MonIn → MonIn) : (d.modMon n f).vault = d.vault := rfl
@[simp] theorem Dev.modMon_sup (d : Dev) (n : Nat) (f : MonIn → MonIn) : (d.modMon n f).sup = d.sup := rfl
@[simp] theorem Dev.modMon_free (d : Dev) (n : Nat) (f : MonIn → MonIn) : (d.modMon n f).free = d.free := rfl
@[simp] theorem Dev.modMon_get (d : Dev) (n : Nat) (f : MonIn → MonIn) (g : Fld) : (d.modMon n f).get g = d.get g := rfl
@[simp] theorem Dev.modSlot_regs (d : Dev) (n : Nat) (f : Slot → Slot) : (d.modSlot n f).regs = d.regs := rfl
@[simp] theorem Dev.modSlot_now (d : Dev) (n : Nat) (f : Slot → Slot) : (d.modSlot n f).now = d.now := rfl
@[simp] theorem Dev.modSlot_loop (d : Dev) (n : Nat) (f : Slot → Slot) : (d.modSlot n f).loop = d.loop := rfl
@[simp] theorem Dev.modSlot_tim (d : Dev) (n : Nat) (f : Slot → Slot) : (d.modSlot n f).tim = d.tim := rfl
@[simp] theorem Dev.modSlot_cfg (d : Dev) (n : Nat) (f : Slot → Slot) : (d.modSlot n f).cfg = d.cfg := rfl
@[simp] theorem Dev.modSlot_raised (d : Dev) (n : Nat) (f : Slot → Slot) : (d.modSlot n f).raised = d.raised := rfl
@[simp] theorem Dev.modSlot_out (d : Dev) (n : Nat) (f : Slot → Slot) : (d.modSlot n f).out = d.out := rfl
@[simp] theorem Dev.modSlot_rst (d : Dev) (n : Nat) (f : Slot → Slot) : (d.modSlot n f).rst = d.rst := rfl
@[simp] theorem Dev.modSlot_mem (d : Dev) (n : Nat) (f : Slot → Slot) : (d.modSlot n f).mem = d.mem := rfl
@[simp] theorem Dev.modSlot_vault (d : Dev) (n : Nat) (f : Slot → Slot) : (d.modSlot n f).vault = d.vault := rfl
@[simp] theorem Dev.modSlot_sup (d : Dev) (n : Nat) (f : Slot → Slot) : (d.modSlot n f).sup = d.sup := rfl
@[simp] theorem Dev.modSlot_free (d : Dev) (n : Nat) (f : Slot → Slot) : (d.modSlot n f).free = d.free := rfl
@[simp] theorem Dev.modSlot_get (d : Dev) (n : Nat) (f : Slot → Slot) (g : Fld) : (d.modSlot n f).get g = d.get g := rfl
@[simp] theorem Dev.modGroup_regs (d : Dev) (n : Nat) (f : Group → Group) : (d.modGroup n f).regs = d.regs := rfl
@[simp] theorem Dev.modGroup_now (d : Dev) (n : Nat) (f : Group → Group) : (d.modGroup n f).now = d.now := rfl
@[simp] theorem Dev.modGroup_loop (d : Dev) (n : Nat) (f : Group → Group) : (d.modGroup n f).loop = d.loop := rfl
@[simp] theorem Dev.modGroup_tim (d : Dev) (n : Nat) (f : Group → Group) : (d.modGroup n f).tim = d.tim := rfl
@[simp] theorem Dev.modGroup_cfg (d : Dev) (n : Nat) (f : Group → Group) : (d.modGroup n f).cfg = d.cfg := rfl
@[simp] theorem Dev.modGroup_raised (d : Dev) (n : Nat) (f : Group → Group) : (d.modGroup n f).raised = d.raised := rfl
@[simp] theorem Dev.modGroup_out (d : Dev) (n : Nat) (f : Group → Group) : (d.modGroup n f).out = d.out := rfl
@[simp] theorem Dev.modGroup_rst (d : Dev) (n : Nat) (f : Group → Group) : (d.modGroup n f).rst = d.rst := rfl
@[simp] theorem Dev.modGroup_mem (d : Dev) (n : Nat) (f : Group → Group) : (d.modGroup n f).mem = d.mem := rfl
@[simp] theorem Dev.modGroup_vault (d : Dev) (n : Nat) (f : Group → Group) : (d.modGroup n f).vault = d.vault := rfl
@[simp] theorem Dev.modGroup_sup (d : Dev) (n : Nat) (f : Group → Group) : (d.modGroup n f).sup = d.sup := rfl
@[simp] theorem Dev.modGroup_free (d : Dev) (n : Nat) (f : Group → Group) : (d.modGroup n f).free = d.free := rfl
@[simp] theorem Dev.modGroup_get (d : Dev) (n : Nat) (f : Group → Group) (g : Fld) : (d.modGroup n f).get g = d.get g := rfl
@[simp] theorem Dev.modRail_regs (d : Dev) (n : Nat) (f : RailSt → RailSt) : (d.modRail n f).regs = d.regs := rfl
@[simp] theorem Dev.modRail_now (d : Dev) (n : Nat) (f : RailSt → RailSt) : (d.modRail n f).now = d.now := rfl
@[simp] theorem Dev.modRail_loop (d : Dev) (n : Nat) (f : RailSt → RailSt) : (d.modRail n f).loop = d.loop := rfl
@[simp] theorem Dev.modRail_tim (d : Dev) (n : Nat) (f : RailSt → RailSt) : (d.modRail n f).tim = d.tim := rfl
@[simp] theorem Dev.modRail_cfg (d : Dev) (n : Nat) (f : RailSt → RailSt) : (d.modRail n f).cfg = d.cfg := rfl
@[simp] theorem Dev.modRail_raised (d : Dev) (n : Nat) (f : RailSt → RailSt) : (d.modRail n f).raised = d.raised := rfl
@[simp] theorem Dev.modRail_out (d : Dev) (n : Nat) (f : RailSt → RailSt) : (d.modRail n f).out = d.out := rfl
@[simp] theorem Dev.modRail_rst (d : Dev) (n : Nat) (f : RailSt → RailSt) : (d.modRail n f).rst = d.rst := rfl
@[simp] theorem Dev.modRail_mem (d : Dev) (n : Nat) (f : RailSt → RailSt) : (d.modRail n f).mem = d.mem := rfl
@[simp] theorem Dev.modRail_vault (d : Dev) (n : Nat) (f : RailSt → RailSt) : (d.modRail n f).vault = d.vault := rfl
@[simp] theorem Dev.modRail_sup (d : Dev) (n : Nat) (f : RailSt → RailSt) : (d.modRail n f).sup = d.sup := rfl
@[simp] theorem Dev.modRail_free (d : Dev) (n : Nat) (f : RailSt → RailSt) : (d.modRail n f).free = d.free := rfl
@[simp] theorem Dev.modRail_get (d : Dev) (n : Nat) (f : RailSt → RailSt) (g : Fld) : (d.modRail n f).get g = d.get g := rfl
@[simp] theorem Dev.modRect_regs (d : Dev) (n : Nat) (f : Rect → Rect) : (d.modRect n f).regs = d.regs := rfl
@[simp] theorem Dev.modRect_now (d : Dev) (n : Nat) (f : Rect → Rect) : (d.modRect n f).now = d.now := rfl
@[simp] theorem Dev.modRect_loop (d : Dev) (n : Nat) (f : Rect → Rect) : (d.modRect n f).loop = d.loop := rfl
@[simp] theorem Dev.modRect_tim (d : Dev) (n : Nat) (f : Rect → Rect) : (d.modRect n f).tim = d.tim := rfl
@[simp] theorem Dev.modRect_cfg (d : Dev) (n : Nat) (f : Rect → Rect) : (d.modRect n f).cfg = d.cfg := rfl
@[simp] theorem Dev.modRect_raised (d : Dev) (n : Nat) (f : Rect → Rect) : (d.modRect n f).raised = d.raised := rfl
@[simp] theorem Dev.modRect_out (d : Dev) (n : Nat) (f : Rect → Rect) : (d.modRect n f).out = d.out := rfl
@[simp] theorem Dev.modRect_rst (d : Dev) (n : Nat) (f : Rect → Rect) : (d.modRect n f).rst = d.rst := rfl
@[simp] theorem Dev.modRect_mem (d : Dev) (n : Nat) (f : Rect → Rect) : (d.modRect n f).mem = d.mem := rfl
@[simp] theorem Dev.modRect_vault (d : Dev) (n : Nat) (f : Rect → Rect) : (d.modRect n f).vault = d.vault := rfl
@[simp] theorem Dev.modRect_sup (d : Dev) (n : Nat) (f : Rect → Rect) : (d.modRect n f).sup = d.sup := rfl
@[simp] theorem Dev.modRect_free (d : Dev) (n : Nat) (f : Rect → Rect) : (d.modRect n f).free = d.free := rfl
@[simp] theorem Dev.modRect_get (d : Dev) (n : Nat) (f : Rect → Rect) (g : Fld) : (d.modRect n f).get g = d.get g := rfl
@[simp] theorem Dev.modStr_regs (d : Dev) (n : Nat) (f : Str → Str) : (d.modStr n f).regs = d.regs := rfl
@[simp] theorem Dev.modStr_now (d : Dev) (n : Nat) (f : Str → Str) : (d.modStr n f).now = d.now := rfl
@[simp] theorem Dev.modStr_loop (d : Dev) (n : Nat) (f : Str → Str) : (d.modStr n f).loop = d.loop := rfl
@[simp] theorem Dev.modStr_tim (d : Dev) (n : Nat) (f : Str → Str) : (d.modStr n f).tim = d.tim := rfl
@[simp] theorem Dev.modStr_cfg (d : Dev) (n : Nat) (f : Str → Str) : (d.modStr n f).cfg = d.cfg := rfl
@[simp] theorem Dev.modStr_raised (d : Dev) (n : Nat) (f : Str → Str) : (d.modStr n f).raised = d.raised := rfl
@[simp] theorem Dev.modStr_out (d : Dev) (n : Nat) (f : Str → Str) : (d.modStr n f).out = d.out := rfl
@[simp] theorem Dev.modStr_rst (d : Dev) (n : Nat) (f : Str → Str) : (d.modStr n f).rst = d.rst := rfl
@[simp] theorem Dev.modStr_mem (d : Dev) (n : Nat) (f : Str → Str) : (d.modStr n f).mem = d.mem := rfl
@[simp] theorem Dev.modStr_vault (d : Dev) (n : Nat) (f : Str → Str) : (d.modStr n f).vault = d.vault := rfl
@[simp] theorem Dev.modStr_sup (d : Dev) (n : Nat) (f : Str → Str) : (d.modStr n f).sup = d.sup := rfl
@[simp] theorem Dev.modStr_free (d : Dev) (n : Nat) (f : Str → Str) : (d.modStr n f).free = d.free := rfl
@[simp] theorem Dev.modStr_get (d : Dev) (n : Nat) (f : Str → Str) (g : Fld) : (d.modStr n f).get g = d.get g := rfl
@[simp] theorem Dev.modSensor_regs (d : Dev) (n : Nat) (f : Sensor → Sensor) : (d.modSensor n f).regs = d.regs := rfl
@[simp] theorem Dev.modSensor_now (d : Dev) (n : Nat) (f : Sensor → Sensor) : (d.modSensor n f).now = d.now := rfl
@[simp] theorem Dev.modSensor_loop (d : Dev) (n : Nat) (f : Sensor → Sensor) : (d.modSensor n f).loop = d.loop := rfl
@[simp] theorem Dev.modSensor_tim (d : Dev) (n : Nat) (f : Sensor → Sensor) : (d.modSensor n f).tim = d.tim := rfl
@[simp] theorem Dev.modSensor_cfg (d : Dev) (n : Nat) (f : Sensor → Sensor) : (d.modSensor n f).cfg = d.cfg := rfl
@[simp] theorem Dev.modSensor_raised (d : Dev) (n : Nat) (f : Sensor → Sensor) : (d.modSensor n f).raised = d.raised := rfl
@[simp] theorem Dev.modSensor_out (d : Dev) (n : Nat) (f : Sensor → Sensor) : (d.modSensor n f).out = d.out := rfl
@[simp] theorem Dev.modSensor_rst (d : Dev) (n : Nat) (f : Sensor → Sensor) : (d.modSensor n f).rst = d.rst := rfl
@[simp] theorem Dev.modSensor_mem (d : Dev) (n : Nat) (f : Sensor → Sensor) : (d.modSensor n f).mem = d.mem := rfl
@[simp] theorem Dev.modSensor_vault (d : Dev) (n : Nat) (f : Sensor → Sensor) : (d.modSensor n f).vault = d.vault := rfl
@[simp] theorem Dev.modSensor_sup (d : Dev) (n : Nat) (f : Sensor → Sensor) : (d.modSensor n f).sup = d.sup := rfl
@[simp] theorem Dev.modSensor_free (d : Dev) (n : Nat) (f : Sensor → Sensor) : (d.modSensor n f).free = d.free := rfl
@[simp] theorem Dev.modSensor_get (d : Dev) (n : Nat) (f : Sensor → Sensor) (g : Fld) : (d.modSensor n f).get g = d.get g := rfl
@[simp] theorem Dev.modBus_regs (d : Dev) (n : Nat) (f : TwBus → TwBus) : (d.modBus n f).regs = d.regs := rfl
@[simp] theorem Dev.modBus_now (d : Dev) (n : Nat) (f : TwBus → TwBus) : (d.modBus n f).now = d.now := rfl
@[simp] theorem Dev.modBus_loop (d : Dev) (n : Nat) (f : TwBus → TwBus) : (d.modBus n f).loop = d.loop := rfl
@[simp] theorem Dev.modBus_tim (d : Dev) (n : Nat) (f : TwBus → TwBus) : (d.modBus n f).tim = d.tim := rfl
@[simp] theorem Dev.modBus_cfg (d : Dev) (n : Nat) (f : TwBus → TwBus) : (d.modBus n f).cfg = d.cfg := rfl
@[simp] theorem Dev.modBus_raised (d : Dev) (n : Nat) (f : TwBus → TwBus) : (d.modBus n f).raised = d.raised := rfl
@[simp] theorem Dev.modBus_out (d : Dev) (n : Nat) (f : TwBus → TwBus) : (d.modBus n f).out = d.out := rfl
@[simp] theorem Dev.modBus_rst (d : Dev) (n : Nat) (f : TwBus → TwBus) : (d.modBus n f).rst = d.rst := rfl
@[simp] theorem Dev.modBus_mem (d : Dev) (n : Nat) (f : TwBus → TwBus) : (d.modBus n f).mem = d.mem := rfl
@[simp] theorem Dev.modBus_vault (d : Dev) (n : Nat) (f : TwBus → TwBus) : (d.modBus n f).vault = d.vault := rfl
@[simp] theorem Dev.modBus_sup (d : Dev) (n : Nat) (f : TwBus → TwBus) : (d.modBus n f).sup = d.sup := rfl
@[simp] theorem Dev.modBus_free (d : Dev) (n : Nat) (f : TwBus → TwBus) : (d.modBus n f).free = d.free := rfl
@[simp] theorem Dev.modBus_get (d : Dev) (n : Nat) (f : TwBus → TwBus) (g : Fld) : (d.modBus n f).get g = d.get g := rfl
@[simp] theorem Dev.modFwx_regs (d : Dev) (n : Nat) (f : PulseX → PulseX) : (d.modFwx n f).regs = d.regs := rfl
@[simp] theorem Dev.modFwx_now (d : Dev) (n : Nat) (f : PulseX → PulseX) : (d.modFwx n f).now = d.now := rfl
@[simp] theorem Dev.modFwx_loop (d : Dev) (n : Nat) (f : PulseX → PulseX) : (d.modFwx n f).loop = d.loop := rfl
@[simp] theorem Dev.modFwx_tim (d : Dev) (n : Nat) (f : PulseX → PulseX) : (d.modFwx n f).tim = d.tim := rfl
@[simp] theorem Dev.modFwx_cfg (d : Dev) (n : Nat) (f : PulseX → PulseX) : (d.modFwx n f).cfg = d.cfg := rfl
@[simp] theorem Dev.modFwx_raised (d : Dev) (n : Nat) (f : PulseX → PulseX) : (d.modFwx n f).raised = d.raised := rfl
@[simp] theorem Dev.modFwx_out (d : Dev) (n : Nat) (f : PulseX → PulseX) : (d.modFwx n f).out = d.out := rfl
@[simp] theorem Dev.modFwx_rst (d : Dev) (n : Nat) (f : PulseX → PulseX) : (d.modFwx n f).rst = d.rst := rfl
@[simp] theorem Dev.modFwx_mem (d : Dev) (n : Nat) (f : PulseX → PulseX) : (d.modFwx n f).mem = d.mem := rfl
@[simp] theorem Dev.modFwx_vault (d : Dev) (n : Nat) (f : PulseX → PulseX) : (d.modFwx n f).vault = d.vault := rfl
@[simp] theorem Dev.modFwx_sup (d : Dev) (n : Nat) (f : PulseX → PulseX) : (d.modFwx n f).sup = d.sup := rfl
@[simp] theorem Dev.modFwx_free (d : Dev) (n : Nat) (f : PulseX → PulseX) : (d.modFwx n f).free = d.free := rfl
@[simp] theorem Dev.modFwx_get (d : Dev) (n : Nat) (f : PulseX → PulseX) (g : Fld) : (d.modFwx n f).get g = d.get g := rfl
@[simp] theorem Dev.modFifo_regs (d : Dev) (n : Nat) (f : FifoSt → FifoSt) : (d.modFifo n f).regs = d.regs := rfl
@[simp] theorem Dev.modFifo_now (d : Dev) (n : Nat) (f : FifoSt → FifoSt) : (d.modFifo n f).now = d.now := rfl
@[simp] theorem Dev.modFifo_loop (d : Dev) (n : Nat) (f : FifoSt → FifoSt) : (d.modFifo n f).loop = d.loop := rfl
@[simp] theorem Dev.modFifo_tim (d : Dev) (n : Nat) (f : FifoSt → FifoSt) : (d.modFifo n f).tim = d.tim := rfl
@[simp] theorem Dev.modFifo_cfg (d : Dev) (n : Nat) (f : FifoSt → FifoSt) : (d.modFifo n f).cfg = d.cfg := rfl
@[simp] theorem Dev.modFifo_raised (d : Dev) (n : Nat) (f : FifoSt → FifoSt) : (d.modFifo n f).raised = d.raised := rfl
@[simp] theorem Dev.modFifo_out (d : Dev) (n : Nat) (f : FifoSt → FifoSt) : (d.modFifo n f).out = d.out := rfl
@[simp] theorem Dev.modFifo_rst (d : Dev) (n : Nat) (f : FifoSt → FifoSt) : (d.modFifo n f).rst = d.rst := rfl
@[simp] theorem Dev.modFifo_mem (d : Dev) (n : Nat) (f : FifoSt → FifoSt) : (d.modFifo n f).mem = d.mem := rfl
@[simp] theorem Dev.modFifo_vault (d : Dev) (n : Nat) (f : FifoSt → FifoSt) : (d.modFifo n f).vault = d.vault := rfl
@[simp] theorem Dev.modFifo_sup (d : Dev) (n : Nat) (f : FifoSt → FifoSt) : (d.modFifo n f).sup = d.sup := rfl
@[simp] theorem Dev.modFifo_free (d : Dev) (n : Nat) (f : FifoSt → FifoSt) : (d.modFifo n f).free = d.free := rfl
@[simp] theorem Dev.modFifo_get (d : Dev) (n : Nat) (f : FifoSt → FifoSt) (g : Fld) : (d.modFifo n f).get g = d.get g := rfl
@[simp] theorem Dev.modDowel_regs (d : Dev) (n : Nat) (f : DowelSt → DowelSt) : (d.modDowel n f).regs = d.regs := rfl
@[simp] theorem Dev.modDowel_now (d : Dev) (n : Nat) (f : DowelSt → DowelSt) : (d.modDowel n f).now = d.now := rfl
@[simp] theorem Dev.modDowel_loop (d : Dev) (n : Nat) (f : DowelSt → DowelSt) : (d.modDowel n f).loop = d.loop := rfl
@[simp] theorem Dev.modDowel_tim (d : Dev) (n : Nat) (f : DowelSt → DowelSt) : (d.modDowel n f).tim = d.tim := rfl
@[simp] theorem Dev.modDowel_cfg (d : Dev) (n : Nat) (f : DowelSt → DowelSt) : (d.modDowel n f).cfg = d.cfg := rfl
@[simp] theorem Dev.modDowel_raised (d : Dev) (n : Nat) (f : DowelSt → DowelSt) : (d.modDowel n f).raised = d.raised := rfl
@[simp] theorem Dev.modDowel_out (d : Dev) (n : Nat) (f : DowelSt → DowelSt) : (d.modDowel n f).out = d.out := rfl
@[simp] theorem Dev.modDowel_rst (d : Dev) (n : Nat) (f : DowelSt → DowelSt) : (d.modDowel n f).rst = d.rst := rfl
@[simp] theorem Dev.modDowel_mem (d : Dev) (n : Nat) (f : DowelSt → DowelSt) : (d.modDowel n f).mem = d.mem := rfl
@[simp] theorem Dev.modDowel_vault (d : Dev) (n : Nat) (f : DowelSt → DowelSt) : (d.modDowel n f).vault = d.vault := rfl
@[simp] theorem Dev.modDowel_sup (d : Dev) (n : Nat) (f : DowelSt → DowelSt) : (d.modDowel n f).sup = d.sup := rfl
@[simp] theorem Dev.modDowel_free (d : Dev) (n : Nat) (f : DowelSt → DowelSt) : (d.modDowel n f).free = d.free := rfl
@[simp] theorem Dev.modDowel_get (d : Dev) (n : Nat) (f : DowelSt → DowelSt) (g : Fld) : (d.modDowel n f).get g = d.get g := rfl
@[simp] theorem Dev.modDpx_regs (d : Dev) (f : Dpx → Dpx) : (d.modDpx f).regs = d.regs := rfl
@[simp] theorem Dev.modDpx_now (d : Dev) (f : Dpx → Dpx) : (d.modDpx f).now = d.now := rfl
@[simp] theorem Dev.modDpx_loop (d : Dev) (f : Dpx → Dpx) : (d.modDpx f).loop = d.loop := rfl
@[simp] theorem Dev.modDpx_tim (d : Dev) (f : Dpx → Dpx) : (d.modDpx f).tim = d.tim := rfl
@[simp] theorem Dev.modDpx_cfg (d : Dev) (f : Dpx → Dpx) : (d.modDpx f).cfg = d.cfg := rfl
@[simp] theorem Dev.modDpx_raised (d : Dev) (f : Dpx → Dpx) : (d.modDpx f).raised = d.raised := rfl
@[simp] theorem Dev.modDpx_out (d : Dev) (f : Dpx → Dpx) : (d.modDpx f).out = d.out := rfl
@[simp] theorem Dev.modDpx_rst (d : Dev) (f : Dpx → Dpx) : (d.modDpx f).rst = d.rst := rfl
@[simp] theorem Dev.modDpx_mem (d : Dev) (f : Dpx → Dpx) : (d.modDpx f).mem = d.mem := rfl
@[simp] theorem Dev.modDpx_vault (d : Dev) (f : Dpx → Dpx) : (d.modDpx f).vault = d.vault := rfl
@[simp] theorem Dev.modDpx_sup (d : Dev) (f : Dpx → Dpx) : (d.modDpx f).sup = d.sup := rfl
@[simp] theorem Dev.modDpx_free (d : Dev) (f : Dpx → Dpx) : (d.modDpx f).free = d.free := rfl
@[simp] theorem Dev.modDpx_get (d : Dev) (f : Dpx → Dpx) (g : Fld) : (d.modDpx f).get g = d.get g := rfl
@[simp] theorem Dev.modEng_regs (d : Dev) (f : Eng → Eng) : (d.modEng f).regs = d.regs := rfl
@[simp] theorem Dev.modEng_now (d : Dev) (f : Eng → Eng) : (d.modEng f).now = d.now := rfl
@[simp] theorem Dev.modEng_loop (d : Dev) (f : Eng → Eng) : (d.modEng f).loop = d.loop := rfl
@[simp] theorem Dev.modEng_tim (d : Dev) (f : Eng → Eng) : (d.modEng f).tim = d.tim := rfl
@[simp] theorem Dev.modEng_cfg (d : Dev) (f : Eng → Eng) : (d.modEng f).cfg = d.cfg := rfl
@[simp] theorem Dev.modEng_raised (d : Dev) (f : Eng → Eng) : (d.modEng f).raised = d.raised := rfl
@[simp] theorem Dev.modEng_out (d : Dev) (f : Eng → Eng) : (d.modEng f).out = d.out := rfl
@[simp] theorem Dev.modEng_rst (d : Dev) (f : Eng → Eng) : (d.modEng f).rst = d.rst := rfl
@[simp] theorem Dev.modEng_mem (d : Dev) (f : Eng → Eng) : (d.modEng f).mem = d.mem := rfl
@[simp] theorem Dev.modEng_vault (d : Dev) (f : Eng → Eng) : (d.modEng f).vault = d.vault := rfl
@[simp] theorem Dev.modEng_sup (d : Dev) (f : Eng → Eng) : (d.modEng f).sup = d.sup := rfl
@[simp] theorem Dev.modEng_free (d : Dev) (f : Eng → Eng) : (d.modEng f).free = d.free := rfl
@[simp] theorem Dev.modEng_get (d : Dev) (f : Eng → Eng) (g : Fld) : (d.modEng f).get g = d.get g := rfl
@[simp] theorem Dev.modEvr_regs (d : Dev) (f : Evr → Evr) : (d.modEvr f).regs = d.regs := rfl
@[simp] theorem Dev.modEvr_now (d : Dev) (f : Evr → Evr) : (d.modEvr f).now = d.now := rfl
@[simp] theorem Dev.modEvr_loop (d : Dev) (f : Evr → Evr) : (d.modEvr f).loop = d.loop := rfl
@[simp] theorem Dev.modEvr_tim (d : Dev) (f : Evr → Evr) : (d.modEvr f).tim = d.tim := rfl
@[simp] theorem Dev.modEvr_cfg (d : Dev) (f : Evr → Evr) : (d.modEvr f).cfg = d.cfg := rfl
@[simp] theorem Dev.modEvr_raised (d : Dev) (f : Evr → Evr) : (d.modEvr f).raised = d.raised := rfl
@[simp] theorem Dev.modEvr_out (d : Dev) (f : Evr → Evr) : (d.modEvr f).out = d.out := rfl
@[simp] theorem Dev.modEvr_rst (d : Dev) (f : Evr → Evr) : (d.modEvr f).rst = d.rst := rfl
@[simp] theorem Dev.modEvr_mem (d : Dev) (f : Evr → Evr) : (d.modEvr f).mem = d.mem := rfl
@[simp] theorem Dev.modEvr_vault (d : Dev) (f : Evr → Evr) : (d.modEvr f).vault = d.vault := rfl
@[simp] theorem Dev.modEvr_sup (d : Dev) (f : Evr → Evr) : (d.modEvr f).sup = d.sup := rfl
@[simp] theorem Dev.modEvr_free (d : Dev) (f : Evr → Evr) : (d.modEvr f).free = d.free := rfl
@[simp] theorem Dev.modEvr_get (d : Dev) (f : Evr → Evr) (g : Fld) : (d.modEvr f).get g = d.get g := rfl
@[simp] theorem Dev.modLink_regs (d : Dev) (f : Link → Link) : (d.modLink f).regs = d.regs := rfl
@[simp] theorem Dev.modLink_now (d : Dev) (f : Link → Link) : (d.modLink f).now = d.now := rfl
@[simp] theorem Dev.modLink_loop (d : Dev) (f : Link → Link) : (d.modLink f).loop = d.loop := rfl
@[simp] theorem Dev.modLink_tim (d : Dev) (f : Link → Link) : (d.modLink f).tim = d.tim := rfl
@[simp] theorem Dev.modLink_cfg (d : Dev) (f : Link → Link) : (d.modLink f).cfg = d.cfg := rfl
@[simp] theorem Dev.modLink_raised (d : Dev) (f : Link → Link) : (d.modLink f).raised = d.raised := rfl
@[simp] theorem Dev.modLink_out (d : Dev) (f : Link → Link) : (d.modLink f).out = d.out := rfl
@[simp] theorem Dev.modLink_rst (d : Dev) (f : Link → Link) : (d.modLink f).rst = d.rst := rfl
@[simp] theorem Dev.modLink_mem (d : Dev) (f : Link → Link) : (d.modLink f).mem = d.mem := rfl
@[simp] theorem Dev.modLink_vault (d : Dev) (f : Link → Link) : (d.modLink f).vault = d.vault := rfl
@[simp] theorem Dev.modLink_sup (d : Dev) (f : Link → Link) : (d.modLink f).sup = d.sup := rfl
@[simp] theorem Dev.modLink_free (d : Dev) (f : Link → Link) : (d.modLink f).free = d.free := rfl
@[simp] theorem Dev.modLink_get (d : Dev) (f : Link → Link) (g : Fld) : (d.modLink f).get g = d.get g := rfl
@[simp] theorem Dev.modTim_regs (d : Dev) (f : TimSt → TimSt) : (d.modTim f).regs = d.regs := rfl
@[simp] theorem Dev.modTim_now (d : Dev) (f : TimSt → TimSt) : (d.modTim f).now = d.now := rfl
@[simp] theorem Dev.modTim_loop (d : Dev) (f : TimSt → TimSt) : (d.modTim f).loop = d.loop := rfl
@[simp] theorem Dev.modTim_tim (d : Dev) (f : TimSt → TimSt) : (d.modTim f).tim = d.tim := rfl
@[simp] theorem Dev.modTim_cfg (d : Dev) (f : TimSt → TimSt) : (d.modTim f).cfg = d.cfg := rfl
@[simp] theorem Dev.modTim_raised (d : Dev) (f : TimSt → TimSt) : (d.modTim f).raised = d.raised := rfl
@[simp] theorem Dev.modTim_out (d : Dev) (f : TimSt → TimSt) : (d.modTim f).out = d.out := rfl
@[simp] theorem Dev.modTim_rst (d : Dev) (f : TimSt → TimSt) : (d.modTim f).rst = d.rst := rfl
@[simp] theorem Dev.modTim_mem (d : Dev) (f : TimSt → TimSt) : (d.modTim f).mem = d.mem := rfl
@[simp] theorem Dev.modTim_vault (d : Dev) (f : TimSt → TimSt) : (d.modTim f).vault = d.vault := rfl
@[simp] theorem Dev.modTim_sup (d : Dev) (f : TimSt → TimSt) : (d.modTim f).sup = d.sup := rfl
@[simp] theorem Dev.modTim_free (d : Dev) (f : TimSt → TimSt) : (d.modTim f).free = d.free := rfl
@[simp] theorem Dev.modTim_get (d : Dev) (f : TimSt → TimSt) (g : Fld) : (d.modTim f).get g = d.get g := rfl
@[simp] theorem Dev.modUpd_regs (d : Dev) (f : Upd → Upd) : (d.modUpd f).regs = d.regs := rfl
@[simp] theorem Dev.modUpd_now (d : Dev) (f : Upd → Upd) : (d.modUpd f).now = d.now := rfl
@[simp] theorem Dev.modUpd_loop (d : Dev) (f : Upd → Upd) : (d.modUpd f).loop = d.loop := rfl
@[simp] theorem Dev.modUpd_tim (d : Dev) (f : Upd → Upd) : (d.modUpd f).tim = d.tim := rfl
@[simp] theorem Dev.modUpd_cfg (d : Dev) (f : Upd → Upd) : (d.modUpd f).cfg = d.cfg := rfl
@[simp] theorem Dev.modUpd_raised (d : Dev) (f : Upd → Upd) : (d.modUpd f).raised = d.raised := rfl
@[simp] theorem Dev.modUpd_out (d : Dev) (f : Upd → Upd) : (d.modUpd f).out = d.out := rfl
@[simp] theorem Dev.modUpd_rst (d : Dev) (f : Upd → Upd) : (d.modUpd f).rst = d.rst := rfl
@[simp] theorem Dev.modUpd_mem (d : Dev) (f : Upd → Upd) : (d.modUpd f).mem = d.mem := rfl
@[simp] theorem Dev.modUpd_vault (d : Dev) (f : Upd → Upd) : (d.modUpd f).vault = d.vault := rfl
@[simp] theorem Dev.modUpd_sup (d : Dev) (f : Upd → Upd) : (d.modUpd f).sup = d.sup := rfl
@[simp] theorem Dev.modUpd_free (d : Dev) (f : Upd → Upd) : (d.modUpd f).free = d.free := rfl
@[simp] theorem Dev.modUpd_get (d : Dev) (f : Upd → Upd) (g : Fld) : (d.modUpd f).get g = d.get g := rfl
@[simp] theorem Dev.modCpd_regs (d : Dev) (f : Cpd → Cpd) : (d.modCpd f).regs = d.regs := rfl
@[simp] theorem Dev.modCpd_now (d : Dev) (f : Cpd → Cpd) : (d.modCpd f).now = d.now := rfl
@[simp] theorem Dev.modCpd_loop (d : Dev) (f : Cpd → Cpd) : (d.modCpd f).loop = d.loop := rfl
@[simp] theorem Dev.modCpd_tim (d : Dev) (f : Cpd → Cpd) : (d.modCpd f).tim = d.tim := rfl
@[simp] theorem Dev.modCpd_cfg (d : Dev) (f : Cpd → Cpd) : (d.modCpd f).cfg = d.cfg := rfl
@[simp] theorem Dev.modCpd_raised (d : Dev) (f : Cpd → Cpd) : (d.modCpd f).raised = d.raised := rfl
@[simp] theorem Dev.modCpd_out (d : Dev) (f : Cpd → Cpd) : (d.modCpd f).out = d.out := rfl
@[simp] theorem Dev.modCpd_rst (d : Dev) (f : Cpd → Cpd) : (d.modCpd f).rst = d.rst := rfl
@[simp] theorem Dev.modCpd_mem (d : Dev) (f : Cpd → Cpd) : (d.modCpd f).mem = d.mem := rfl
@[simp] theorem Dev.modCpd_vault (d : Dev) (f : Cpd → Cpd) : (d.modCpd f).vault = d.vault := rfl
@[simp] theorem Dev.modCpd_sup (d : Dev) (f : Cpd → Cpd) : (d.modCpd f).sup = d.sup := rfl
@[simp] theorem Dev.modCpd_free (d : Dev) (f : Cpd → Cpd) : (d.modCpd f).free = d.free := rfl
@[simp] theorem Dev.modCpd_get (d : Dev) (f : Cpd → Cpd) (g : Fld) : (d.modCpd f).get g = d.get g := rfl
@[simp] theorem Dev.modTgt_regs (d : Dev) (f : Target → Target) : (d.modTgt f).regs = d.regs := rfl
@[simp] theorem Dev.modTgt_now (d : Dev) (f : Target → Target) : (d.modTgt f).now = d.now := rfl
@[simp] theorem Dev.modTgt_loop (d : Dev) (f : Target → Target) : (d.modTgt f).loop = d.loop := rfl
@[simp] theorem Dev.modTgt_tim (d : Dev) (f : Target → Target) : (d.modTgt f).tim = d.tim := rfl
@[simp] theorem Dev.modTgt_cfg (d : Dev) (f : Target → Target) : (d.modTgt f).cfg = d.cfg := rfl
@[simp] theorem Dev.modTgt_raised (d : Dev) (f : Target → Target) : (d.modTgt f).raised = d.raised := rfl
@[simp] theorem Dev.modTgt_out (d : Dev) (f : Target → Target) : (d.modTgt f).out = d.out := rfl
@[simp] theorem Dev.modTgt_rst (d : Dev) (f : Target → Target) : (d.modTgt f).rst = d.rst := rfl
@[simp] theorem Dev.modTgt_mem (d : Dev) (f : Target → Target) : (d.modTgt f).mem = d.mem := rfl
@[simp] theorem Dev.modTgt_vault (d : Dev) (f : Target → Target) : (d.modTgt f).vault = d.vault := rfl
@[simp] theorem Dev.modTgt_sup (d : Dev) (f : Target → Target) : (d.modTgt f).sup = d.sup := rfl
@[simp] theorem Dev.modTgt_free (d : Dev) (f : Target → Target) : (d.modTgt f).free = d.free := rfl
@[simp] theorem Dev.modTgt_get (d : Dev) (f : Target → Target) (g : Fld) : (d.modTgt f).get g = d.get g := rfl
@[simp] theorem Dev.modSafe_regs (d : Dev) (f : SafeThm → SafeThm) : (d.modSafe f).regs = d.regs := rfl
@[simp] theorem Dev.modSafe_now (d : Dev) (f : SafeThm → SafeThm) : (d.modSafe f).now = d.now := rfl
@[simp] theorem Dev.modSafe_loop (d : Dev) (f : SafeThm → SafeThm) : (d.modSafe f).loop = d.loop := rfl
@[simp] theorem Dev.modSafe_tim (d : Dev) (f : SafeThm → SafeThm) : (d.modSafe f).tim = d.tim := rfl
@[simp] theorem Dev.modSafe_cfg (d : Dev) (f : SafeThm → SafeThm) : (d.modSafe f).cfg = d.cfg := rfl
@[simp] theorem Dev.modSafe_raised (d : Dev) (f : SafeThm → SafeThm) : (d.modSafe f).raised = d.raised := rfl
@[simp] theorem Dev.modSafe_out (d : Dev) (f : SafeThm → SafeThm) : (d.modSafe f).out = d.out := rfl
@[simp] theorem Dev.modSafe_rst (d : Dev) (f : SafeThm → SafeThm) : (d.modSafe f).rst = d.rst := rfl
@[simp] theorem Dev.modSafe_mem (d : Dev) (f : SafeThm → SafeThm) : (d.modSafe f).mem = d.mem := rfl
@[simp] theorem Dev.modSafe_vault (d : Dev) (f : SafeThm → SafeThm) : (d.modSafe f).vault = d.vault := rfl
@[simp] theorem Dev.modSafe_sup (d : Dev) (f : SafeThm → SafeThm) : (d.modSafe f).sup = d.sup := rfl
@[simp] theorem Dev.modSafe_free (d : Dev) (f : SafeThm → SafeThm) : (d.modSafe f).free = d.free := rfl
@[simp] theorem Dev.modSafe_get (d : Dev) (f : SafeThm → SafeThm) (g : Fld) : (d.modSafe f).get g = d.get g := rfl
end Sys2Proof.Machine
end

