-- ==== Sys2Proof/Laws/Registers.lean ====
section
/-! SUPPORT. What setting a register field does to every field (R15), and what a word written to a register can and cannot do. -/

namespace Sys2Proof.Machine

/-! ### Fields -/

/-- No field reads past its width. -/
theorem Dev.get_le (d : Dev) (f : Fld) : d.get f ≤ f.top := Nat.min_le_right _ _

/-- A field set reads the value, cut at the field's end (R15). -/
@[simp] theorem Dev.get_set_same (d : Dev) (f : Fld) (v : Nat) : (d.set f v).get f = min v f.top := by
  simp [Dev.get, Dev.set]

/-- Every field of another key reads as before. -/
theorem Dev.get_set_other (d : Dev) {f g : Fld} (h : g.key ≠ f.key) (v : Nat) : (d.set f v).get g = d.get g := by
  simp only [Dev.get, Dev.set, RegFile.read_write_other h]

@[simp] theorem Dev.on_setB (d : Dev) (f : Fld) (b : Bool) (hw : 0 < f.width) : (d.setB f b).on f = b := by
  have : 1 ≤ f.top := by
    have : 2 ^ 1 ≤ 2 ^ f.width := Nat.pow_le_pow_right (by decide) hw
    simp only [Fld.top]; omega
  cases b <;> simp [Dev.on, Dev.setB, this]

/-- A counter raised by one stays at its full scale (R15, R32). -/
@[simp] theorem Dev.get_inc (d : Dev) (f : Fld) : (d.inc f).get f = min (d.get f + 1) f.top := by simp [Dev.inc]

/-! ### The device after a register write -/

/-- Everything a register write by a master can come to (R92, R433): nothing while SYS is held in reset; a NOTE where the master may
not write; a wait where the clock is stopped; else the block's own effect. -/
theorem State.regWrite_cases (s : State) (m : Master) (a w : Nat) :
    s.regWrite m a w = s
      ∨ s.regWrite m a w = s.onDev (fun d => d.noteDenied (wordAddr a) w)
      ∨ s.regWrite m a w = s.onDev (fun d => { d with hung := some ⟨m, wordAddr a, w⟩ })
      ∨ s.regWrite m a w = s.put (s.dev.busWrite s.otp m (wordAddr a) w) := by
  unfold State.regWrite
  simp only
  split
  · exact .inl rfl
  · split
    · exact .inr (.inl rfl)
    · split
      · split
        · exact .inl rfl
        · exact .inr (.inr (.inl rfl))
      · exact .inr (.inr (.inr rfl))

/-- A register write that lands: the master's accesses reach it, the master may write there, and nothing waits for a clock. -/
theorem State.regWrite_lands (s : State) (m : Master) (a w : Nat) (h1 : s.dev.masterRuns m = true)
    (h2 : s.dev.mayWrite m (wordAddr a) = true) (h3 : s.dev.hangs (wordAddr a) = false) :
    s.regWrite m a w = s.put (s.dev.busWrite s.otp m (wordAddr a) w) := by
  simp [State.regWrite, h1, h2, h3]

/-- A write by the core to a register of LOOP that its block takes at once: the block writes the word (R359, R363). -/
theorem State.regWrite_loop (s : State) (a w : Nat) (hr : loopRegion (regionOf a) = true) (hw : wordAddr a = a) (ha : a < 0x400000)
    (h : s.Takes a w) : s.regWrite .core a w = s.did (fun d => d.loopWrite a w) := by
  obtain ⟨⟨h1, h2, h3, h4⟩, h5⟩ := h
  rw [hw] at h3
  have hh : s.dev.hangs a = false := by
    have e : ∀ b, loopRegion (regionOf b) = false → (a == b) = false := fun b hb =>
      beq_false_of_ne (fun e => by rw [e, hb] at hr; cases hr)
    have e26 : (regionOf a == 26) = false := beq_false_of_ne (fun e => by rw [e] at hr; cases hr)
    unfold Dev.hangs
    simp [hr, h2, e 0x160100 rfl, e 0x154000 rfl, e 0x154004 rfl, e26]
  rw [State.regWrite_lands s .core a w h1 (by rw [hw]; unfold Dev.mayWrite; simp [ha]) (by rw [hw]; exact hh)]
  rw [hw] at h5
  unfold State.put Dev.busWrite Dev.sysLoopWrite State.did
  rw [hw]
  simp [hr, h5]

@[simp] theorem State.regWrite_pending (s : State) (m : Master) (a w : Nat) : (s.regWrite m a w).pending = s.pending := by
  rcases State.regWrite_cases s m a w with h | h | h | h <;> rw [h] <;> rfl

/-! ### Events of a domain -/

/-- An event of LOOP: the operation, then what SEQ sees of it; nothing where LOOP does not run. -/
theorem State.loopDo_runs (s : State) (f : Dev → Dev) (h : s.dev.loopRuns = true) :
    s.loopDo f = { s with dev := (f s.dev).settle } := by simp [State.loopDo, State.onDev, Dev.when, h]

theorem State.loopDo_stopped (s : State) (f : Dev → Dev) (h : s.dev.loopRuns = false) : s.loopDo f = s := by
  simp [State.loopDo, State.onDev, Dev.when, h]

/-- An event of SYS: the operation; nothing while SYS is held in reset. -/
theorem State.sysDo_runs (s : State) (f : Dev → Dev) (h : s.dev.sysRuns = true) :
    s.sysDo f = { s with dev := f s.dev } := by simp [State.sysDo, State.onDev, Dev.when, h]

theorem State.sysDo_held (s : State) (f : Dev → Dev) (h : s.dev.sysRuns = false) : s.sysDo f = s := by
  simp [State.sysDo, State.onDev, Dev.when, h]

/-- An event of the port controller: the operation; nothing in a cold reset. -/
theorem State.pdDo_runs (s : State) (f : Dev → Dev) (h : s.dev.rst.cold = false) :
    s.pdDo f = { s with dev := f s.dev } := by simp [State.pdDo, State.onDev, Dev.when, h]

theorem State.pdDo_cold (s : State) (f : Dev → Dev) (h : s.dev.rst.cold = true) : s.pdDo f = s := by
  simp [State.pdDo, State.onDev, Dev.when, h]

end Sys2Proof.Machine
end

