-- ==== Sys2Proof/Laws/Fault.lean ====
section
/-! SUPPORT. What recording, a Clamp, a force and a raise leave as it was: the list of raised sources, the configuration and the time;
and what a raise adds to the list (R321, R331). -/

namespace Sys2Proof.Machine

/-- A device that differs from another only in what no raise of a source may change: its list of raised sources, its configuration, its
counters of time, its resets, memory, SAFE line, updates and duplex state are the same. -/
def Dev.SameRaised (d e : Dev) : Prop :=
  e.raised = d.raised ∧ e.cfg = d.cfg ∧ e.loop = d.loop ∧ e.tim = d.tim ∧ e.now = d.now ∧ e.rst = d.rst ∧ e.mem = d.mem
    ∧ e.safeLine = d.safeLine ∧ e.upd = d.upd ∧ e.dpx = d.dpx

theorem Dev.SameRaised.refl (d : Dev) : d.SameRaised d := ⟨rfl, rfl, rfl, rfl, rfl, rfl, rfl, rfl, rfl, rfl⟩

theorem Dev.SameRaised.trans {a b c : Dev} (h : a.SameRaised b) (g : b.SameRaised c) : a.SameRaised c := by
  obtain ⟨h1, h2, h3, h4, h5, h6, h7, h8, h9, h10⟩ := h
  obtain ⟨g1, g2, g3, g4, g5, g6, g7, g8, g9, g10⟩ := g
  exact ⟨g1.trans h1, g2.trans h2, g3.trans h3, g4.trans h4, g5.trans h5, g6.trans h6, g7.trans h7, g8.trans h8, g9.trans h9,
    g10.trans h10⟩

theorem Dev.SameRaised.ite {c : Prop} [Decidable c] {d a b : Dev} (h : d.SameRaised a) (g : d.SameRaised b) :
    d.SameRaised (if c then a else b) := by split <;> assumption

/-- A step done for each item of a list keeps what each of its steps keeps. -/
theorem Dev.SameRaised.each {α : Type} (f : α → Dev → Dev) (h : ∀ a d, Dev.SameRaised d (f a d)) :
    ∀ (l : List α) (d : Dev), d.SameRaised (Dev.each l f d)
  | [], d => .refl d
  | a :: t, d => (h a d).trans (Dev.SameRaised.each f h t (f a d))

theorem Dev.sameRaised_set (d : Dev) (f : Fld) (v : Nat) : d.SameRaised (d.set f v) := .refl _

theorem Dev.sameRaised_admit (d : Dev) (typ flags tick : Nat) (p : List Nat) : d.SameRaised (d.record typ flags tick p) := by
  unfold Dev.record
  exact .ite (.refl _) (.refl _)

theorem Dev.sameRaised_note (d : Dev) (k a w v : Nat) : d.SameRaised (d.note k a w v) := d.sameRaised_admit ..

theorem Dev.sameRaised_setBit (d : Dev) (f : Fld) (i : Nat) (b : Bool) : d.SameRaised (d.setBit f i b) := by
  unfold Dev.setBit; exact .ite (.refl _) (.refl _)

theorem Dev.sameRaised_waveIf (d : Dev) (w : Bool) (r : Nat) : d.SameRaised (d.waveIf w r) := by
  have h : d.SameRaised (d.waveTrigger r) := by
    unfold Dev.waveTrigger; exact .ite (.refl _) (.refl _)
  unfold Dev.waveIf; exact .ite h (.refl _)

theorem Dev.sameRaised_clampRecord (d : Dev) (f c k o r : Nat) : d.SameRaised (d.clampRecord f c k o r) := d.sameRaised_admit ..

theorem Dev.sameRaised_clampMerged (d : Dev) (k : Nat) : d.SameRaised (d.clampMerged k) := by
  have h : d.SameRaised (if d.on F.SNP_STATUS_HELD then d.orBits F.SNP_STATUS_CAUSE (2 ^ k) else d) := .ite (.refl _) (.refl _)
  exact h

theorem Dev.sameRaised_clampMissed (d : Dev) (k c r o : Nat) : d.SameRaised (d.clampMissed k c r o) := by
  have h : d.SameRaised ((d.inc F.SNP_COUNTS_MISSED).incMod F.SNP_NUMBER_NUMBER) :=
    (d.sameRaised_set ..).trans (Dev.sameRaised_set ..)
  unfold Dev.clampMissed
  exact (h.trans (Dev.sameRaised_waveIf ..)).trans (Dev.sameRaised_clampRecord ..)

theorem Dev.sameRaised_clampTake (d : Dev) (k c r o t : Nat) : d.SameRaised (d.clampTake k c r o t) := by
  unfold Dev.clampTake
  refine .ite (.refl _) (.ite (d.sameRaised_clampMerged k) (.ite (d.sameRaised_clampMissed ..) ?_))
  have h : d.SameRaised (((d.incMod F.SNP_NUMBER_NUMBER).clampLatch c r o t).clampShow k c r o) :=
    ⟨rfl, rfl, rfl, rfl, rfl, rfl, rfl, rfl, rfl, rfl⟩
  exact (h.trans (Dev.sameRaised_waveIf ..)).trans (Dev.sameRaised_clampRecord ..)

/-- A frame put into a port's queue changes the link alone. -/
theorem Dev.sameRaised_queueOn (d : Dev) (h : Head) (l : List Nat) (g : Bool) (o : Out) (i : Option Nat) (p : Nat) :
    d.SameRaised (d.queueOn h l g o i p) := by
  unfold Dev.queueOn; exact .ite (.refl _) (.refl _)

theorem Dev.sameRaised_sendFrom (d : Dev) (src dst : Nat) (l : List Nat) (typ : Nat) (o : Out) :
    d.SameRaised (d.sendFrom src dst l typ o) := by
  have h (e : Dev) (o : Out) : e.SameRaised { e with out := e.out ++ [o] } := .refl _
  have k : d.SameRaised (d.seqTake typ) := .refl _
  exact k.trans ((h _ _).trans (Dev.SameRaised.each _ (fun p e => e.sameRaised_queueOn _ _ _ _ _ p) _ _))

theorem Dev.sameRaised_sendClamp (d : Dev) (n t k s : Nat) : d.SameRaised (d.sendClamp n t k s) := by
  unfold Dev.sendClamp
  exact d.sameRaised_sendFrom ..

theorem Dev.sameRaised_clampSend (d : Dev) (k t : Nat) : d.SameRaised (d.clampSend k t) := by
  have h : d.SameRaised (if d.drives && d.ready 17 then d.clampPulse else d) := .ite (.refl _) (.refl _)
  unfold Dev.clampSend
  exact .ite h (h.trans (Dev.sameRaised_sendClamp ..))

theorem Dev.sameRaised_clampOwn (d : Dev) (k c : Nat) : d.SameRaised (d.clampOwn k c) := by
  unfold Dev.clampOwn
  exact .ite ((d.sameRaised_clampTake ..).trans (Dev.sameRaised_clampSend ..)) (.refl _)

theorem Dev.sameRaised_lastFaultHold (d : Dev) (n : Nat) (l : List Nat) : d.SameRaised (d.lastFaultHold n l) := by
  have h : d.SameRaised (if (d.bench n).lf.isSome then d.inc (F.BEN_LFSTAT_LOST n) else d) := .ite (.refl _) (.refl _)
  exact h

theorem Dev.sameRaised_lastFault (d : Dev) (n s c : Nat) : d.SameRaised (d.lastFault n s c) := by
  have h : ∀ g, d.SameRaised (d.modBench n g) := fun _ => .refl _
  unfold Dev.lastFault
  exact .ite ((h _).trans (Dev.sameRaised_lastFaultHold ..)) (.refl _)

theorem Dev.sameRaised_lastFaultMeet (d : Dev) (n s c : Nat) : d.SameRaised (d.lastFaultMeet n s c) := by
  unfold Dev.lastFaultMeet
  split
  · exact .refl _
  · exact .ite (.refl _) (.ite (.refl _) (.refl _))

theorem Dev.sameRaised_prestartForced (d : Dev) (n : Nat) : d.SameRaised (d.prestartForced n) := by
  unfold Dev.prestartForced; exact .ite (.refl _) (.refl _)

theorem Dev.sameRaised_modBench (d : Dev) (n : Nat) (g : Bench → Bench) : d.SameRaised (d.modBench n g) := .refl _

theorem Dev.sameRaised_modMon (d : Dev) (i : Nat) (g : MonIn → MonIn) : d.SameRaised (d.modMon i g) := .refl _

theorem Dev.sameRaised_forceNotes (d : Dev) (n : Nat) : d.SameRaised (d.forceNotes n) := by
  unfold Dev.forceNotes
  refine Dev.SameRaised.trans ?_ (Dev.sameRaised_modBench ..)
  exact .ite (Dev.SameRaised.each _ (fun i e => e.sameRaised_modMon i _) _ _) (.refl _)

theorem Dev.sameRaised_benchRest (d : Dev) (n : Nat) (st : BState) (c : Cond) : d.SameRaised (d.benchRest n st c) := .refl _

theorem Dev.sameRaised_benchForce (d : Dev) (n s : Nat) (c : Cls) : d.SameRaised (d.benchForce n s c) := by
  unfold Dev.benchForce
  exact .ite (.refl _) (.ite (d.sameRaised_lastFaultMeet ..) ((((d.sameRaised_prestartForced n).trans
    (Dev.sameRaised_lastFault _ n s c.code)).trans (Dev.sameRaised_forceNotes _ n)).trans (Dev.sameRaised_benchRest ..)))

theorem Dev.sameRaised_raiseClamp (d : Dev) (e : FaultEntry) (c : Cls) : d.SameRaised (d.raiseClamp e c) := by
  have h : d.SameRaised d.flushNow := .refl _
  unfold Dev.raiseClamp
  exact .ite (h.trans (.refl _)) (.ite (d.sameRaised_clampOwn ..) (.refl _))

theorem Dev.sameRaised_seqEnds (d : Dev) (n : Nat) : d.SameRaised (d.seqEnds n) := by
  unfold Dev.seqEnds; exact .ite (.refl _) (.refl _)

theorem Dev.sameRaised_toForced (d : Dev) (n : Nat) (g : Slot → Slot) : d.SameRaised ((d.modSlot n g).slotGo n .forced) := .refl _

theorem Dev.sameRaised_slotForce (d : Dev) (n : Nat) : d.SameRaised (d.slotForce n) := by
  unfold Dev.slotForce
  exact .ite (.refl _) ((d.sameRaised_seqEnds n).trans (Dev.sameRaised_toForced ..))

theorem Dev.sameRaised_forceFor (d : Dev) (s : Nat) (c : Cls) : d.SameRaised (d.forceFor s c) := by
  unfold Dev.forceFor
  refine .ite (.refl _) ?_
  split
  · exact (Dev.SameRaised.each _ (fun n d => d.sameRaised_benchForce n s .halt) _ _).trans
      (Dev.SameRaised.each _ (fun n d => d.sameRaised_slotForce n) _ _)
  · exact (Dev.SameRaised.each _ (fun n d => .ite (d.sameRaised_benchForce n s .trip) (.refl _)) _ _).trans
      (Dev.SameRaised.each _ (fun n d => .ite (d.sameRaised_slotForce n) (.refl _)) _ _)
  · exact Dev.SameRaised.each _ (fun n d => .ite (d.sameRaised_lastFaultMeet ..) (.refl _)) _ _

/-- A source put into the list is in it. -/
theorem putRaised_mem (x : Raised) : ∀ l : List Raised, x ∈ putRaised x l
  | [] => by simp [putRaised]
  | y :: t => by
    unfold putRaised
    split
    · simp
    · split
      · simp
      · exact List.mem_cons_of_mem _ (putRaised_mem x t)

/-- A correction of the staged records changes the recorder alone. -/
theorem Dev.sameRaised_faultRecordLift (d : Dev) (s : Nat) (e : Cls) : d.SameRaised (d.faultRecordLift s e) := .refl _

theorem Dev.sameRaised_liftActs (d : Dev) (x : Raised) (c : Cls) : d.SameRaised (d.liftActs x c) := by
  have h := (d.sameRaised_faultRecordLift x.src c).trans (Dev.sameRaised_forceFor _ x.src c)
  unfold Dev.liftActs
  simp only
  split
  · exact .ite (h.trans (Dev.sameRaised_raiseClamp ..)) h
  · exact h

/-- The mark of a raise is the source in the list, unacknowledged, and what it lifts (R321, R333). -/
theorem Dev.raiseMark_raised (d : Dev) (s : Nat) (b : Cls) : (d.raiseMark s b).raised = d.raisedAfter b s := rfl

/-- What one raise does to the list of raised sources (R316, R321, R331, R333): nothing for an unused source, one that is already set, or
before PRO is READY; else it adds the source, unacknowledged, with its class judged, and lifts what the source lifts. -/
theorem Dev.raiseOne_raised (d : Dev) (s : Nat) :
    (d.raiseOne s).raised =
      match d.entry s with
      | none => d.raised
      | some e => if !d.ready 12 || d.sticky s then d.raised else d.raisedAfter e.cls s := by
  unfold Dev.raiseOne
  cases d.entry s with
  | none => rfl
  | some e =>
    simp only
    cases h1 : d.ready 12 with
    | false => rfl
    | true =>
      cases h2 : d.sticky s with
      | true => rfl
      | false =>
        exact ((((Dev.sameRaised_admit ..).trans (Dev.sameRaised_forceFor ..)).trans (Dev.sameRaised_raiseClamp ..)).trans
          (Dev.SameRaised.each _ (fun x e => e.sameRaised_liftActs x _) _ _)).1.trans (d.raiseMark_raised s e.cls)

end Sys2Proof.Machine
end

