-- ==== Sys2Proof/Machine/Pins.lean ====
section
/-! DEFINITION. The output pins as the state drives them (R2, R44, R49 to R54 of spec/02_pins.md, R323 and R327 of
spec/14_faults_safe_state.md, R356 and R357 of spec/16_duplex_pair.md). -/

namespace Sys2Proof.Machine

/-- What drives a slot's gate pin HSnnG (R47, R50, R282). -/
inductive GatePin where
  | clamp | sink | source | hold | full
  deriving DecidableEq, Repr

/-- What a device presents to a wired line (R50 to R52): its sink, the 100 kilohms to GND of an unpowered device, or nothing. -/
inductive LinePin where
  | sink | pull | released
  deriving DecidableEq, Repr

/-- The forms in which the table of R50 gives the other pins. `active` is a pin that its block drives as its own chapter says. -/
inductive PinForm where
  | hiz | off | sampled | pullUp | pullDown | low | high | commonMode | idle | rd | sinkPath | busy | active
  deriving DecidableEq, Repr

/-- Whether no supply stands: every pin is unpowered (R49). -/
def Dev.unpowered (d : Dev) : Bool := !d.sup.a && !d.sup.b && !d.sup.s

/-- Whether reset is released and a feed powers the device, so that pins may leave their reset states (R49, R50). -/
def Dev.pinsUp (d : Dev) : Bool := !d.rst.cold && (d.sup.a || d.sup.b)

/-- A wired line that a powered device sinks where `b` holds. -/
def Dev.line (d : Dev) (b : Bool) : LinePin := if d.unpowered then .pull else if b then .sink else .released

/-- KILL_N as this device drives it (R50, R336). -/
def Dev.pinKill (d : Dev) : LinePin := d.line (!d.pinsUp || d.killSink)

/-- PFW_N[g] as this device drives it: sunk until ENG releases it, by ENG, by PRO, and through the SAFE shutdown line (R50, R118, R327).
A duplex device that releases the shelf's lines sinks it in bring-up all the same, until ENG READY: R50 and R372 have it sunk there, R356
has it released in RESOLVE, and the model takes the former (log entry 54). -/
def Dev.pinPfw (d : Dev) (g : Nat) : LinePin :=
  d.line (!d.pinsUp || d.safeLine || !d.ready 8 || (!d.dpxMute
    && (d.get F.ENG_STATUS_STATE == 0 || (d.get F.ENG_STATUS_LINES).testBit g || d.proPfw.testBit g)))

/-- Whether THROTTLE_N is still held in bring-up: until CAP READY, or where CAP is absent until PRO and THM are READY (R50). -/
def Dev.thrBringUp (d : Dev) : Bool := if d.hasCap then !d.ready 7 else !(d.ready 12 && d.ready 13)

/-- Whether this device sinks THROTTLE_N[g]: in bring-up, by CAP or software, by THM, or by PRO; released in reset (R50, R52, R217). In
bring-up a duplex device that releases the shelf's lines sinks it too (log entry 54). -/
def Dev.pinThrottle (d : Dev) (g : Nat) : Bool :=
  d.pinsUp && (d.thrBringUp || (!d.dpxMute && (d.thrAsserted.testBit g || d.proThr.testBit g)))

/-- SHARE[g] as this device drives it: a code, or high impedance until SHR READY, with EN 0, in safe state and off the shelf (R50, R205). -/
def Dev.pinShare (d : Dev) (g : Nat) : Option Nat :=
  if d.pinsUp && d.ready 6 && d.on F.SHR_CTRL_EN && d.drives && !d.safeLine && !d.proShare.testBit g then
    some (d.get (F.SHR_SHARE_CODE g))
  else none

/-- HSnnG of a device that does not drive the shelf: only the Kerf voter and the SAFE line sink it, and in STANDBY PRO too (R356). -/
def Dev.pinGateIdle (d : Dev) (n : Nat) : GatePin :=
  if (d.slot n).latch || (!d.dpxMute && d.slotHeld n) then .sink else .hold

/-- HSnnG as this device drives it (R47, R50, R282, R327, R356). -/
def Dev.pinGate (d : Dev) (n : Nat) : GatePin :=
  if d.unpowered then .clamp
  else if !d.pinsUp || !d.ready 11 || d.safeLine || d.safeWire then .sink
  else if !d.drives then d.pinGateIdle n
  else if (d.slot n).latch then .sink
  else match (d.slot n).gate with
    | .sink => .sink
    | .hold => .hold
    | .source => if (d.slot n).state == .good then .full else .source

/-- HSnnPG: high while the slot is good, outside the safe state (R50, R277, R356). -/
def Dev.pinPg (d : Dev) (n : Nat) : Bool :=
  d.pinsUp && !d.safeLine && !d.safeWire && !d.dpxMute && (d.slot n).state == .good

/-- CLAMP: driven high for 40 ticks on each Clamp originated, once SNP is READY, by a device that drives the shelf (R50, R53, R356). -/
def Dev.pinClamp (d : Dev) : Bool :=
  d.pinsUp && d.ready 17 && d.drives && (match d.snap.pulseEnd with
    | some t => decide (d.loop < t)
    | none => false)

/-- PWM pin `p` (R44, R50): PASSIVE unless a feed powers the device out of reset. -/
def Dev.pinPwm (d : Dev) (p : Nat) : Cond := if d.pinsUp then d.pinCond p else .passive

/-- Whether this duplex device's keepers are enabled, by its state (R356). -/
def Dev.keepersOn (d : Dev) : Bool := d.isDuplex && !d.dpxMute

/-- Whether the keepers hold shared pins that a driving device has let go: for 16 ticks (R54, R357, R368, R374; log entry 91). -/
def Dev.keeping (d : Dev) : Bool :=
  match d.dpx.keeper with
  | some e => decide (d.loop < e)
  | none => false

/-- The level at which the keeper of PWM pin `p` holds it (R54, R357). -/
def Dev.pinKept (d : Dev) (p : Nat) : Option Cond := if d.keeping then d.dpx.keptPwm[p]? else none

/-- The drive at which the keeper of slot `n`'s gate pin holds it (R54, R357). -/
def Dev.gateKept (d : Dev) (n : Nat) : Option Gate := if d.keeping then d.dpx.keptGate[n]? else none

/-- REFEREE_REQ_N: sunk while DPX asks, from DPX READY on (R50, R365). -/
def Dev.pinRefReq (d : Dev) : Bool := d.pinsUp && d.isDuplex && d.on F.DPX_STATUS_REQ

/-- REFEREE_HB: released until DPX READY, then as DPX toggles it (R50, R365). -/
def Dev.pinRefHb (d : Dev) : Option Bool := if d.pinsUp && d.ready 14 then some d.dpx.hb else none

/-- HSnnSA and HSnnSB (R50). -/
def Dev.pinSeat (d : Dev) : PinForm := if d.unpowered then .hiz else .pullUp

/-- The divider of HVMn and BVnn: 1 megohm to GND in every state (R50). -/
def Dev.pinDivider (_d : Dev) : PinForm := .pullDown

/-- MREF: 2.5 V from FAB READY (R50). -/
def Dev.pinMref (d : Dev) : PinForm :=
  if d.unpowered then .hiz else if d.pinsUp && d.ready 1 then .active else .off

/-- The host group: HIO is high impedance, and BUSY is returned until HST READY (R50). -/
def Dev.pinHost (d : Dev) : PinForm := if !d.pinsUp then .hiz else if d.ready 20 then .active else .busy

/-- NVx_CS_N (R50). -/
def Dev.pinNvCs (d : Dev) : PinForm :=
  if d.unpowered then .hiz else if d.rst.cold then .pullUp else if d.svcPower || d.ready 19 then .active else .high

/-- NVx_SCK; NVx_IO and NVx_DQS are high impedance where it is low (R50). -/
def Dev.pinNvSck (d : Dev) : PinForm :=
  if d.unpowered then .hiz else if d.rst.cold then .low else if d.svcPower || d.ready 19 then .active else .low

/-- The two-wire group (R50). -/
def Dev.pinTwoWire (d : Dev) : PinForm := if d.pinsUp && d.ready 23 then .active else .hiz

/-- The transmitter of Igkulink port `p` (R50). -/
def Dev.pinLinkTx (d : Dev) (p : Nat) : PinForm :=
  if d.unpowered then .hiz
  else if d.rst.cold then .commonMode
  else if !d.pinsUp then .off
  else if d.port p = portUp then .active else .idle

/-- Whether PEER is trained: its recovered clock is present and its FIFO READY. -/
def Dev.peerTrained (d : Dev) : Bool := d.isDuplex && d.on F.CLK_PRESENT_PEER && d.fifoOk 3

/-- The transmitters of PEER: idle symbols until the port trains (R50). -/
def Dev.pinPeerTx (d : Dev) : PinForm :=
  if d.unpowered then .hiz
  else if d.rst.cold then .commonMode
  else if !d.pinsUp then .off
  else if d.peerTrained then .active else .idle

/-- The analog inputs of the table of R50: current-sense CS, monitor MON, temperature TSEN, battery BS and BT. -/
inductive AnalogPin where
  | cs | mon | tsen | bs | bt
  deriving DecidableEq, Repr

/-- The block that owns an analog input, as GLB.READY numbers it. -/
def AnalogPin.owner : AnalogPin → Nat
  | .cs => 4
  | .mon => 5
  | .tsen => 13
  | .bs => 9
  | .bt => 9

/-- An analog input: high impedance, and sampled once its owner is READY on a device that a feed powers (R50). -/
def Dev.pinAnalog (d : Dev) (p : AnalogPin) : PinForm := if d.pinsUp && d.ready p.owner then .sampled else .hiz

/-- CC1 and CC2: Rd, dead-battery Rd without power, and under PD policy from CPD READY on (R50). -/
def Dev.pinCc (d : Dev) : PinForm := if d.unpowered || d.rst.cold || !d.ready 24 then .rd else .active

/-- VBUS_S: the sink path to housekeeping, and under PD policy once a feed powers the device out of reset (R50). -/
def Dev.pinVbusS (d : Dev) : PinForm := if d.pinsUp then .active else .sinkPath

/-- TDO (R50). -/
def Dev.pinTdo (d : Dev) : PinForm := if d.unpowered || d.rst.cold then .hiz else .active

end Sys2Proof.Machine
end

