-- ==== Sys2Proof/WellFormed.lean ====
section
/-! DEFINITION. The ranges of the operands of the commands: what a register word, a converter code, a message field or a list of bytes
can hold. Index operands are bounded by their types. -/

namespace Sys2Proof

/-- Every item of a list is a byte. -/
def bytesOk (l : List Nat) : Bool := l.all (fun b => decide (b < 256))

/-- Every item of a list is a record sequence number (R413). -/
def seqsOk (l : List Nat) : Bool := l.all (fun q => decide (q < 2 ^ 32))

/-- A word that may be absent. -/
def optOk (o : Option Nat) : Bool := o.all (fun w => decide (w < 2 ^ 32))

/-- A TIM tick that may be absent (R387). -/
def tickOk (o : Option Nat) : Bool := o.all (fun t => decide (t < 2 ^ 64))

/-- A poll's answer: its READ_IOUT is a LINEAR11 word (R456). -/
def pollOk (o : Option (PollStatus × Nat)) : Bool := o.all (fun x => decide (x.2 < 2 ^ 16))

/-- A rail report: local rail numbers and rail states (R258, R268). -/
def reportOk (l : List (Nat × Nat × Nat)) : Bool := l.all (fun x => decide (x.1 < 64) && decide (x.2.1 < 8) && decide (x.2.2 < 2 ^ 64))

/-- Fixed power data objects: V16 and 10 mA units of 10 bits (R471). -/
def pairsOk (l : List (Nat × Nat)) : Bool := l.all (fun x => decide (x.1 < 2 ^ 16) && decide (x.2 < 1024))

/-- The words that channels have moved by a bus error: each channel at most once (R449). -/
def progressOk (l : List (Nat × Nat)) : Bool := l.all (fun x => decide (x.1 < 8)) && decide (l.map (·.1)).Nodup

/-- A scrub finding names one of the Benches (R143). -/
def findingsOk (l : List ScrubFinding) : Bool :=
  l.all (fun f => match f with
    | .shadow n => decide (n < 16)
    | _ => true)

/-- The bytes and places that an attempt's result names (R459, R462). -/
def TwResult.wf : TwResult → Bool
  | .done b => bytesOk b
  | .arb byte bit => decide (byte < 64) && decide (bit < 8)
  | _ => true

/-- What an item of the partner's frame can name (R358). -/
def PeerItem.wf : PeerItem → Bool
  | .write a w => decide (a < 2 ^ 25) && decide (w < 2 ^ 32)
  | .handover => true
  | .time tick => decide (tick < 65536)
  | .swap n reason => decide (n < 16) && decide (reason < 8)
  | .trip n => decide (n < 16)
  | .adc c code => decide (c < 32) && decide (-8192 ≤ code) && decide (code ≤ 8191)
  | .mon i code => decide (i < 64) && decide (code < 2 ^ 16)
  | .hvm h v => decide (h < 8) && decide (v < 2 ^ 16)
  | .cmp _ _ _ => true
  | .shunt n code lanes => decide (n < 16) && decide (-8192 ≤ code) && decide (code ≤ 8191) && decide (lanes < 8)
  | .volt n vs vds _ => decide (n < 16) && decide (vs < 2 ^ 16) && decide (vds < 2 ^ 16)
  | .therm n _ => decide (n < 6)
  | .bat s _ dt v ta tb => decide (s < 4) && decide (dt < 2 ^ 32) && decide (v < 2 ^ 16) && decide (ta < 2 ^ 16) && decide (tb < 2 ^ 16)
  | .coarse s _ => decide (s < 4)
  | .seat n _ _ => decide (n < 16)
  | .poll r _ => decide (r < 24)
  | .regs l => l.all (fun x => decide (x.1 < 2 ^ 28) && decide (x.2 < 2 ^ 32))
  | .planes l => l.all (fun x => decide (x.1 < 16))
  | .sources l => l.all (fun x => decide (x.1 < 768))

/-- A partner's frame (R358): its state is one of R355, its digest a word. -/
def PeerFrame.wf (f : PeerFrame) : Bool :=
  decide (f.seq < 2 ^ 16) && decide (f.state < 7) && decide (f.trips < 2 ^ 16) && decide (f.digest < 2 ^ 32) && f.items.all (·.2.wf)

/-- A LINKSTAT names an address and a ring index (R378, R382). -/
def LinkStat.wf (s : LinkStat) : Bool := decide (s.addr < 2 ^ 16) && decide (s.index ≤ 32)

/-- A frame's header fields and payload: 10 bytes in a short frame, up to 240 in a long one (R380). -/
def LinkFrame.wf (f : LinkFrame) : Bool :=
  decide (f.typ < 256) && decide (f.hops < 256) && decide (f.src < 2 ^ 16) && decide (f.seq < 2 ^ 16) && decide (f.dst < 2 ^ 16)
    && decide (f.data.length ≤ if f.typ < 0x20 then 10 else 240) && f.data.all (fun b => decide (b < 256))

/-- An ARB frame names a ring position, a side and a state of R355 (R395). -/
def ArbFrame.wf : ArbFrame → Bool
  | .report pos side state _ _ => decide (pos ≤ 32) && decide (side < 2) && decide (state < 7)
  | .decision pos side => decide (pos ≤ 32) && decide (side < 2)

/-- A lost or failing port is one of the two (R416). -/
def PageOutcome.wf : PageOutcome → Bool
  | .done => true
  | .portFail p => decide (p < 2)
  | .blockFail p => decide (p < 2)

/-- A parameter page names a page and a block that hold something (R416). -/
def NandGeom.wf (g : NandGeom) : Bool := decide (0 < g.page) && decide (0 < g.perBlock)

/-- A container is bytes: 256 of header in clear, the encrypted body, 16 of tag and 96 of signature, where its length holds them (R126). -/
def Container.wf (c : Container) : Bool :=
  bytesOk c.raw && bytesOk c.body && decide (c.head.length ≤ 256 ∧ c.tag.length ≤ 16 ∧ c.sig.length ≤ 96)
    && (decide (c.len < 368) || decide (c.head.length = 256 ∧ c.tag.length = 16 ∧ c.sig.length = 96))

/-- A container that may not be there yet. -/
def containerOk (o : Option Container) : Bool := o.all Container.wf

/-- An image that brings a container. -/
def Image.wf : Image → Bool
  | .given c => c.wf
  | _ => true

/-- The Fast Role Swap current of a Sink_Capabilities message is a two-bit field (R474). -/
def PdReply.wf : PdReply → Bool
  | .sinkCaps n => decide (n < 4)
  | _ => true

/-- The fields of a command of the host port or the service function (R427). -/
def PortCmd.wf : PortCmd → Bool
  | .rdreg a => decide (a < 2 ^ 32)
  | .wrreg a w => decide (a < 2 ^ 32) && decide (w < 2 ^ 32)
  | .rdwin off len => decide (off < 2 ^ 32) && decide (len < 2 ^ 16)
  | .wrwin off b => decide (off < 2 ^ 32) && bytesOk b
  | .xfer p a b => decide (p < 64) && decide (a < 4) && decide (b < 4)
  | .rdstat | .rdown | .unknown => true


/-- Whether a command is one that the surroundings can give: every operand in the range of what carries it. -/
def Instr.wf : Instr → Bool
  | .feedGood _ => true
  | .feedLost _ => true
  | .powerOnReset => true
  | .porstNLow => true
  | .resetRelease _ _ _ => true
  | .rstCtrlCold key _ => decide (key < 2 ^ 16)
  | .rstCtrlWarm key => decide (key < 2 ^ 16)
  | .watchdogService w => decide (w < 2 ^ 32)
  | .watchdogExpiry => true
  | .sysPllUnlock => true
  | .loopClockStop => true
  | .loopClockReturn => true
  | .clockPresenceChange _ _ => true
  | .readySet _ => true
  | .rstBlockNv _ => true
  | .rstBlockLink _ => true
  | .rstBlockTwoWire _ _ => true
  | .rstBlockHost => true
  | .rstBlockCpd => true
  | .fifoResyncDone _ discarded => decide (discarded < 2 ^ 16)
  | .nvClockStop _ => true
  | .nvRateWrite _ _ => true
  | .lockWrite addr => decide (addr < 2 ^ 25)
  | .registerWrite _ addr w => decide (addr < 2 ^ 25) && decide (w < 2 ^ 32)
  | .firmwareLoad img => Image.wf img
  | .bitstreamLoad img => Image.wf img
  | .bootHandoff => true
  | .hostBootTimeout => true
  | .pulseTransferDone _ => true
  | .partialLoadGo _ _ planes => decide (planes < 2 ^ 16)
  | .partialLoadDone part => Container.wf part
  | .swapGo mask differs => decide (mask < 2 ^ 16) && decide (differs < 2 ^ 16)
  | .benchSwap _ _ => true
  | .scrubPass findings => findingsOk findings
  | .dowelTimerExpiry _ => true
  | .benchUpdate _ => true
  | .limtimeExpiry _ => true
  | .benchStart _ => true
  | .benchStop _ => true
  | .prestartBiasJudge _ => true
  | .prestartPulse _ => true
  | .prestartPass _ => true
  | .rampReached _ => true
  | .stopFloorReached _ => true
  | .vsetWrite _ w => decide (w < 2 ^ 32)
  | .marginWrite _ w _ => decide (w < 2 ^ 32)
  | .slewWrite _ w => decide (w < 2 ^ 32)
  | .periodWrite _ w => decide (w < 2 ^ 32)
  | .phdropClear _ w => decide (w < 2 ^ 32)
  | .ovuvWrite _ _ w => decide (w < 2 ^ 32)
  | .adcResult _ code => (decide (-8192 ≤ code) && decide (code ≤ 8191))
  | .phocCount _ _ => true
  | .nlEventStart _ _ => true
  | .nlEventEnd _ => true
  | .monResult _ code => decide (code < 2 ^ 16)
  | .hvmResult _ v => decide (v < 2 ^ 16)
  | .windowComparatorChange _ _ _ => true
  | .shrCompute => true
  | .shrVbusWrite w => decide (w < 2 ^ 32)
  | .shrPollPeriod => true
  | .shrPollDone _ answer => pollOk answer
  | .capSample => true
  | .capThrstepExpiry => true
  | .capSheddelayExpiry => true
  | .capReleaseExpiry => true
  | .capmissTimer => true
  | .capForceWrite w => decide (w < 2 ^ 32)
  | .capsumSend => true
  | .capsumRx _ seq pload pdraw contrib => decide (seq < 2 ^ 16) && decide (pload < 2 ^ 32) && decide (pdraw < 2 ^ 32) && decide (contrib < 2 ^ 8)
  | .capsumTimeout _ seq => decide (seq < 2 ^ 16)
  | .capRackRelease => true
  | .capqRx q seq _ => decide (q < 2 ^ 16) && decide (seq < 2 ^ 16)
  | .engCompute => true
  | .inputLost => true
  | .inputReturn => true
  | .engCommit => true
  | .engGroupDown _ => true
  | .engShutdownEnd => true
  | .engRequalExpiry => true
  | .auditStep k _ _ _ => decide (k.val < 4)
  | .auditActiveStep => true
  | .auditActiveEnd => true
  | .batResult _ uA dt v ta tb => (decide (-2147483648 ≤ uA) && decide (uA ≤ 2147483647)) && decide (dt < 2 ^ 32) && decide (v < 2 ^ 16) && decide (ta < 2 ^ 16) && decide (tb < 2 ^ 16)
  | .restReference _ => true
  | .fullReference _ => true
  | .irReference _ => true
  | .refStaleExpiry _ => true
  | .restRequest _ _ => true
  | .restRequestTimeout _ => true
  | .permissionRepeat _ => true
  | .chgforbidExpiry _ => true
  | .chargeRepermit _ => true
  | .stringAbsent _ => true
  | .stringPresent _ => true
  | .newstringWrite _ => true
  | .firstEstimate _ => true
  | .seqReqOn mask => decide (mask < 2 ^ 16)
  | .seqReqOff mask => decide (mask < 2 ^ 16)
  | .seqStrobe => true
  | .seqReading _ => true
  | .railGoodQualified _ => true
  | .railFailDebounce _ => true
  | .railwarnDebounce _ => true
  | .starttimeExpiry _ => true
  | .edgeDelayExpiry e => decide (e < 1536)
  | .requalExpiry _ => true
  | .failmarkClear _ => true
  | .seqMarginWrite _ w => decide (w < 2 ^ 32)
  | .msettleExpiry _ => true
  | .railrepFullReport => true
  | .railrepRx _ entries => reportOk entries
  | .seqreqRx on off => decide (on < 2 ^ 16) && decide (off < 2 ^ 16)
  | .reportStale _ => true
  | .seatingInputChange _ _ _ => true
  | .seatTimerExpiry _ => true
  | .slotRemoval _ => true
  | .seatfaultExpiry _ => true
  | .slotEnable _ => true
  | .slotDisable _ => true
  | .checkEnd _ => true
  | .slotShuntResult _ code _ => (decide (-8192 ≤ code) && decide (code ≤ 8191))
  | .slotVoltResult _ vs vds _ => decide (vs < 2 ^ 16) && decide (vds < 2 ^ 16)
  | .soaExpiry _ => true
  | .ramptimeExpiry _ => true
  | .pgdelayExpiry _ => true
  | .kerfTrip _ _ => true
  | .laneTest _ _ _ _ => true
  | .slotOcExpiry _ => true
  | .fetdegExpiry _ => true
  | .gatefailExpiry _ => true
  | .retryTimerExpiry _ => true
  | .tcleanExpiry _ => true
  | .cooloffExpiry _ => true
  | .slotUnlock _ => true
  | .slotShed _ _ => true
  | .shedWithdraw _ _ => true
  | .stickyClear _ mask => decide (mask < 2 ^ 32)
  | .ackWrite _ mask => decide (mask < 2 ^ 32)
  | .fwraiseWrite _ mask => decide (mask < 2 ^ 32)
  | .killin _ => true
  | .thmReading _ reading => (decide (-32768 ≤ reading) && decide (reading ≤ 65535))
  | .safeshut => true
  | .restartWindowExpiry _ => true
  | .xsensorRecover _ => true
  | .thmLimitWrite _ _ w => decide (w < 2 ^ 32)
  | .peerFrameSend e1 e2 _ => decide (e1 < 2 ^ 32) && decide (e2 < 2 ^ 32)
  | .peerFrameRx frame => PeerFrame.wf frame
  | .lateItem => true
  | .hblost => true
  | .refereeReqRelease => true
  | .refereeActConfirm _ => true
  | .dpxHandover => true
  | .dpxTake => true
  | .dpxRejoin => true
  | .syncTimeout => true
  | .resolveTimeout => true
  | .splitTimeout => true
  | .keeperRelease => true
  | .clkskew ppm => decide (ppm < 2 ^ 16)
  | .portRxClockPresent _ => true
  | .commaAligned _ => true
  | .acquireTimeout _ => true
  | .linkstatSend _ => true
  | .linkstatRx _ stat => LinkStat.wf stat
  | .portDown _ => true
  | .lnkerrWindow _ code crc => decide (code < 2 ^ 16) && decide (crc < 2 ^ 16)
  | .frameRx _ frame => LinkFrame.wf frame
  | .tsyncExchange => true
  | .tsyncRx _ => true
  | .holdoverEntry => true
  | .rootListenEnd child => tickOk child
  | .arbSend => true
  | .arbRx frame => ArbFrame.wf frame
  | .arbTimeout _ => true
  | .faultsumSend => true
  | .nodelost _ => true
  | .mgrlost => true
  | .tunnelGo w => decide (w < 2 ^ 32)
  | .tunnelRequestRx _ addr w => decide (addr < 2 ^ 25) && decide (w < 2 ^ 32)
  | .tunnelReplyRx data => decide (data < 2 ^ 32)
  | .tunnelNoreply => true
  | .clampPinEdge => true
  | .clampFrameRx origin tick _ _ => decide (origin < 2 ^ 16) && decide (tick < 2 ^ 64)
  | .snpFire => true
  | .snpRearm => true
  | .snapRecordsStaged => true
  | .waveformSample => true
  | .waveformFreeze => true
  | .waveRecordsStaged => true
  | .lostRecordWrite => true
  | .pageFlushTimer => true
  | .evrFlushnow => true
  | .pageWriteDone outcome => PageOutcome.wf outcome
  | .nandPortTrain _ geom => NandGeom.wf geom
  | .evrColdScan => true
  | .evrReadGo w => decide (w < 2 ^ 32)
  | .evrReadDone bad => seqsOk bad
  | .nonceRead => true
  | .nonceExpiry => true
  | .clearGo _ w => decide (w < 2 ^ 32)
  | .clearVerdict => true
  | .evrFwGo w => decide (w < 2 ^ 32)
  | .vaultWrite _ w => decide (w < 2 ^ 32)
  | .vaultUnitDone => true
  | .hostRdstat => true
  | .hostRdreg addr period => decide (addr < 2 ^ 32) && decide (0 < period)
  | .hostWrreg addr w period => decide (addr < 2 ^ 32) && decide (w < 2 ^ 32) && decide (0 < period)
  | .hostRdwin off len period => decide (off < 2 ^ 32) && decide (len < 2 ^ 16) && decide (0 < period)
  | .hostWrwin off bytes period => decide (off < 2 ^ 32) && bytesOk bytes && decide (0 < period)
  | .hostXfer _ _ _ period => decide (0 < period)
  | .hostRdown period => decide (0 < period)
  | .hostUnknownCommand => true
  | .hostRequestDone => true
  | .bellWrite _ _ mask => decide (mask < 2 ^ 32)
  | .winXfer w => decide (w < 2 ^ 32)
  | .pageBad a => (match a with
    | .page _ => true
    | .ringRecord seq => decide (seq < 2 ^ 32))
  | .pageZeroDone _ => true
  | .coreDrawerAccess off store => decide (off < 2 ^ 18) && optOk store
  | .coreLateWrite => true
  | .fenceWO => true
  | .fenceIR => true
  | .dmaGo _ => true
  | .dmaStop _ => true
  | .dmaResume _ => true
  | .dmaClear => true
  | .dmaHalf _ => true
  | .dmaFull _ => true
  | .dmaPageReturn _ => true
  | .dmaBusError addr _ progress => decide (addr < 2 ^ 32) && progressOk progress
  | .twbCmdGo _ => true
  | .twbTransactionStart _ => true
  | .twbAttemptEnd _ result => TwResult.wf result
  | .twbTimeout _ _ => true
  | .stuckRetry _ _ => true
  | .tgtCapability => true
  | .tgtPmbusRevision => true
  | .tgtMfrId => true
  | .tgtMfrModel => true
  | .tgtRegAddr addr _ => decide (addr < 2 ^ 32)
  | .tgtRegDataRead => true
  | .tgtRegDataWrite w _ => decide (w < 2 ^ 32)
  | .tgtRegStat => true
  | .tgtRequestDone => true
  | .tgtAlertResponse => true
  | .tgtProtocolError => true
  | .tgtSclTimeout => true
  | .ccAttach _ _ => true
  | .ccDetach => true
  | .sourceCapsRx objs => pairsOk objs
  | .pdRequestRx _ cur => decide (cur < 1024)
  | .getCapRx _ => true
  | .prSwapRx => true
  | .drSwapRx => true
  | .vdmRx => true
  | .hardResetRx => true
  | .cpdHardrst => true
  | .frSwapTrigger _ => true
  | .sourceOvercurrent _ => true
  | .errorRecoveryEnd => true
  | .usbOutTransfer cmd => PortCmd.wf cmd
  | .usbRequestDone => true
  | .updIngest container => Container.wf container
  | .imageBlockRx index block whole => decide (index < 64) && decide (block < 2 ^ 16) && containerOk whole
  | .containerVerified _ => true
  | .imageAckRx _ _ code => decide (code < 64)
  | .relayTimeout => true
  | .packageStaged => true
  | .updActivate => true
  | .activateFrameRx pkg => decide (pkg < 2 ^ 32)
  | .activationRetry => true
  | .updHandover _ _ => true
  | .handoverDrainEnd => true
  | .handoverRelease => true
  | .handoverDrainTimeout => true
  | .updConfirm _ key => decide (key < 2 ^ 32)
  | .confirmWindowExpiry => true
  | .partialRevertRetry => true
  | .updAbort => true
  | .secProgGo _ w => decide (w < 2 ^ 32)
  | .servicePowerApplied _ => true
  | .pllLockChange _ _ => true
  | .pwmPeriodStart _ => true
  | .coarseMagnitudeCheck _ uA => (decide (-2147483648 ≤ uA) && decide (uA ≤ 2147483647))
  | .coreMemoryEccError => true
  | .jtagCoreHalt _ => true
  | .clampPulseEnd => true
  | .refereeHbToggle => true
  | .pdReplyMessageRx msg => PdReply.wf msg
  | .softResetRx => true
  | .usbConfigured => true
  | .usbInTransfer => true

end Sys2Proof
end

