-- ==== Sys2Proof/Tests/Slice0.lean ====
section
/-! SUPPORT. Tests: the checks of WellFormed, single steps on small states with results from the spec's own words, and for each statement
with hypotheses a state and operands that meet them. -/

open Sys2Proof Sys2Proof.Machine

namespace Sys2Proof.Tests

set_option Elab.async false

/-! ### Small states -/

/-- A Bench plane of one phase. -/
def onePhase : List Phase := [{ pin := 0, chan := 0, safeZ := true }]

/-- A plane of that phase. -/
def oneBench : Plane := { tag := 1, phases := [⟨0, 0, true⟩] }

/-- A configuration with the first and the last of each kind of instance. -/
def upContent : Content := {
  slots := [⟨0, 100, 1, 20, 1⟩, ⟨15, 100, 1, 20, 2⟩]
  rails := [⟨0, .watch, true, 0, 0, 10, 20, 0, 1, 1, 1, 15⟩, ⟨1023, .watch, true, 15, 1, 10, 20, 0, 1, 1, 1, 15⟩]
  strings := [⟨0, none, 1, 1, 1, 1, 2, 1, 1, 0, 1, 0, 1, 2, 1, 1, 1, 1, [], 1⟩, ⟨3, none, 1, 1, 1, 1, 2, 1, 1, 0, 1, 0, 1, 2, 1, 1, 1, 1, [], 1⟩]
  therm := [⟨0, 1, 2, 3, 0, 1, 1, 0, 0⟩, ⟨5, 1, 2, 3, 0, 1, 1, 0, 0⟩]
  faults := [{ src := 0, cls := .trip, benches := 1 }, { src := 1, cls := .warn }, { src := 648, cls := .halt }]
  dowels := [⟨0, [.low], 0, .onDelay, 1, 0, false, false⟩, ⟨255, [.low], 0, .pulse, 1, 0, false, false⟩]
  link := some { role := 0, nodes := 2, index := 0, root := true } }

/-- A device out of reset with its clocks present and every function READY, in that configuration. -/
def upDev : Dev :=
  let d : Dev := { Dev.reset with
    rst := { cold := false }
    cfg := upContent
    benches := ((Vector.replicate 16 ({} : Bench)).set 0 { active := oneBench, phases := onePhase }).set 15 { active := oneBench, phases := onePhase } }
  let d := Dev.each (List.range 27) (fun k d => d.setB (rdyFld k) true) d
  let d := Dev.each (List.range 13) (fun k d => d.setB (presentFld k) true) d
  Dev.each [F.CLK_PLL_LOOP_LOCK, F.CLK_PLL_NVA_LOCK, F.CLK_PLL_NVB_LOCK] (fun f d => d.setB f true) d

/-- A state with that device, changed as a test needs it. -/
def up (f : Dev → Dev := id) : State := { dev := f upDev }

/-- The same as one of a duplex pair, in a state of R355. -/
def pair (st : Nat) (f : Dev → Dev := id) : State :=
  up (fun d => f (({ d with cfg := { d.cfg with duplex := some {} } } : Dev).set F.DPX_STATUS_STATE st))

/-- The device with a good feed. -/
def fed (d : Dev) : Dev := { d with sup := { a := true } }

/-- A device whose host pages, access list and dummy period let the host's requests through. -/
def hostUp : State := up (fun d => (((fed d).setOwn 0 ownHost).setOwn 63 ownHost).setBit F.HST_ACL0_WR 22 true)

/-- A device whose slots SEQ owns. -/
def owned : State := up (fun d => { d with cfg := { d.cfg with rails := [
  ⟨0, .slot 0, true, 0, 0, 10, 20, 0, 1, 1, 1, 15⟩, ⟨1, .slot 15, true, 0, 0, 10, 20, 0, 1, 1, 1, 15⟩] } })

/-- A device whose two-wire target is enabled. -/
def tgtUp : State := up (fun d => d.setB (F.TWB_CFG_TGT_EN 0) true)

/-- A device in service mode with a DEBUG fuse value in PROGDATA0. -/
def serviceUp : State := up (fun d => (d.setB F.RST_BOOT_SERVICE true).set (F.SEC_PROGDATA_DATA 0) 1)

/-- A device that holds a snapshot and whose last latch lies 64 ticks back. -/
def heldUp : State := up (fun d => ({ d with tim := 64, snap := { d.snap with c0 := some 0 } } : Dev).setB F.SNP_CTRL_PINEN true |>.setB F.SNP_STATUS_HELD true)

/-- WellFormed refuses an operand out of its range: key wider than 16 bits, warm key wider than 16 bits, watchdog word wider than 32
bits, fifo count past its counter, lock address past 25 bits, register address past 25 bits, register word past 32 bits, plane
mask past 16 bits, swap mask past 16 bits, swap differs past 16 bits, scrub of a bench that is not there, vset word, margin word,
slew word, period word, phdrop word. -/
theorem test_wf_refuses_registers_fabric_and_benches :
    ([.rstCtrlCold 0x10000 true,
      .rstCtrlWarm 0x10000,
      .watchdogService 0x100000000,
      .fifoResyncDone 0 0x10000,
      .lockWrite 0x2000000,
      .registerWrite .core 0x2000000 0,
      .registerWrite .core 0 0x100000000,
      .partialLoadGo 0 1 0x10000,
      .swapGo 0x10000 0,
      .swapGo 0 0x10000,
      .scrubPass [.shadow 16],
      .vsetWrite 0 0x100000000,
      .marginWrite 0 0x100000000 true,
      .slewWrite 0 0x100000000,
      .periodWrite 0 0x100000000,
      .phdropClear 0 0x100000000] : List Instr).all (fun c => !c.wf) = true := by decide

/-- WellFormed refuses an operand out of its range: ovuv word, code above the converter, code below the converter, mon code, hvm
reading, vbus word, poll current that is no word, cap force word, capsum sequence, capsum load, capsum draw, capsum contributors,
capsum timeout sequence, capq share, capq sequence, audit bus, string current low. -/
theorem test_wf_refuses_codes_sharing_and_the_cap :
    ([.ovuvWrite 0 true 0x100000000,
      .adcResult 0 8192,
      .adcResult 0 (-8193),
      .monResult 0 0x10000,
      .hvmResult 0 0x10000,
      .shrVbusWrite 0x100000000,
      .shrPollDone 0 (some (.ok, 0x10000)),
      .capForceWrite 0x100000000,
      .capsumRx 0 0x10000 0 0 0,
      .capsumRx 0 0 0x100000000 0 0,
      .capsumRx 0 0 0 0x100000000 0,
      .capsumRx 0 0 0 0 256,
      .capsumTimeout 0 0x10000,
      .capqRx 0x10000 0 false,
      .capqRx 0 0x10000 false,
      .auditStep 4 0 () (),
      .batResult 0 (-2147483649) 0 0 0 0] : List Instr).all (fun c => !c.wf) = true := by decide

/-- WellFormed refuses an operand out of its range: string current high, string time, string voltage, request on mask, request off
mask, edge number, margin of a group word, rail report of rail 64, rail report of state 8, request frame mask, shunt code, slot
voltage. -/
theorem test_wf_refuses_strings_rails_and_slots :
    ([.batResult 0 2147483648 0 0 0 0,
      .batResult 0 0 0x100000000 0 0 0,
      .batResult 0 0 0 0x10000 0 0,
      .seqReqOn 0x10000,
      .seqReqOff 0x10000,
      .edgeDelayExpiry 1536,
      .seqMarginWrite 0 0x100000000,
      .railrepRx 0 [(64, 0, 0)],
      .railrepRx 0 [(0, 8, 0)],
      .seqreqRx 0x10000 0,
      .slotShuntResult 0 8192 0,
      .slotVoltResult 0 0x10000 0 true] : List Instr).all (fun c => !c.wf) = true := by decide

/-- WellFormed refuses an operand out of its range: slot drain voltage, sticky mask, ack mask, raise mask, thermal reading high,
thermal reading low, thermal limit word, peer digest, peer state that is not one, peer item for slot 16, clock skew, linkstat
index, error window counts, frame type, root tick of a child, arbitration position, tunnel word, tunnel address, tunnel data,
clamp origin. -/
theorem test_wf_refuses_faults_duplex_and_link :
    ([.slotVoltResult 0 0 0x10000 true,
      .stickyClear 0 0x100000000,
      .ackWrite 0 0x100000000,
      .fwraiseWrite false 0x100000000,
      .thmReading 0 65536,
      .thmReading 0 (-32769),
      .thmLimitWrite 0 false 0x100000000,
      .peerFrameSend 0x100000000 0 false,
      .peerFrameRx ⟨0, 7, 0, 0, [], true, true⟩,
      .peerFrameRx ⟨0, 0, 0, 0, [(0, .trip 16)], true, true⟩,
      .clkskew 0x10000,
      .linkstatRx 0 ⟨0, 33, true, true⟩,
      .lnkerrWindow 0 0x10000 0,
      .frameRx 0 ⟨256, 0, 0, 0, 0, [], true⟩,
      .rootListenEnd (some (2 ^ 64)),
      .arbRx (.decision 33 0),
      .tunnelGo 0x100000000,
      .tunnelRequestRx false 0x2000000 0,
      .tunnelReplyRx 0x100000000,
      .clampFrameRx 0x10000 0 0 0] : List Instr).all (fun c => !c.wf) = true := by decide

/-- WellFormed refuses an operand out of its range: page failure on port 2, nand page of no bytes, readout word, bad record number,
clear word, firmware record word, vault word, host address, host clock that stands, host word, window length, window byte, xfer
clock that stands, owner clock that stands, bell mask, xfer word, core offset past the window, core store word, bus error address,
bus error channel twice, attempt byte, arbitration bit, bad ring record. -/
theorem test_wf_refuses_recorder_host_and_dma :
    ([.pageWriteDone (.portFail 2),
      .nandPortTrain 0 ⟨0, 1, 1⟩,
      .evrReadGo 0x100000000,
      .evrReadDone [0x100000000],
      .clearGo .core 0x100000000,
      .evrFwGo 0x100000000,
      .vaultWrite 0 0x100000000,
      .hostRdreg 0x100000000 1,
      .hostRdreg 0 0,
      .hostWrreg 0 0x100000000 1,
      .hostRdwin 0 0x10000 1,
      .hostWrwin 0 [256] 1,
      .hostXfer 0 0 0 0,
      .hostRdown 0,
      .bellWrite .core true 0x100000000,
      .winXfer 0x100000000,
      .coreDrawerAccess 0x40000 none,
      .coreDrawerAccess 0 (some 0x100000000),
      .dmaBusError 0x100000000 true [],
      .dmaBusError 0 true [(1, 0), (1, 0)],
      .twbAttemptEnd 0 (.done [256]),
      .twbAttemptEnd 0 (.arb 0 8),
      .pageBad (.ringRecord 0x100000000)] : List Instr).all (fun c => !c.wf) = true := by decide

/-- WellFormed refuses an operand out of its range: peer tick, peer swap reason, target address, target word, source current field,
request current field, usb byte, usb page, container byte, block index, ack code, package id, confirm key, fuse word, coarse
current, sink current field. -/
theorem test_wf_refuses_two_wire_service_port_and_updates :
    ([.peerFrameRx ⟨0, 0, 0, 0, [(0, .time 65536)], true, true⟩,
      .peerFrameRx ⟨0, 0, 0, 0, [(0, .swap 0 8)], true, true⟩,
      .tgtRegAddr 0x100000000 true,
      .tgtRegDataWrite 0x100000000 true,
      .sourceCapsRx [(0, 1024)],
      .pdRequestRx 0 1024,
      .usbOutTransfer (.wrwin 0 [256]),
      .usbOutTransfer (.xfer 64 0 0),
      .updIngest { head := [256] },
      .imageBlockRx 64 0 none,
      .imageAckRx 0 true 64,
      .activateFrameRx 0x100000000,
      .updConfirm .core 0x100000000,
      .secProgGo .core 0x100000000,
      .coarseMagnitudeCheck 0 2147483648,
      .pdReplyMessageRx (.sinkCaps 4)] : List Instr).all (fun c => !c.wf) = true := by decide

/-- WellFormed accepts the last value of each range. -/
theorem test_wf_accepts_the_last_values :
    Instr.wf (.registerWrite .core 0x1FFFFFC 0xFFFFFFFF) = true ∧ Instr.wf (.adcResult 31 (-8192)) = true ∧ Instr.wf (.adcResult 31 8191) = true := by decide

/-- The table gives no row bits, so no word spells a command (spec/opcode_table.json). -/
theorem test_table_spells_no_command :
    decodeTableWord 32 0xFFFFFFFF = none := rfl

/-- A word that spells nothing puts nothing into the queue. -/
theorem test_fetch_word_leaves_the_queue :
    (State.reset.withFetchWord 32 0).pending = [] := rfl

/-- The check value of CRC-32: the digits 1 to 9 give CBF43926h. -/
theorem test_crc32_of_nine_digits :
    crc32 [0x31, 0x32, 0x33, 0x34, 0x35, 0x36, 0x37, 0x38, 0x39] = 0xCBF43926 := by decide +kernel

/-- A read after a write of a register field gives the value, cut at its width (R15). -/
theorem test_field_is_cut_at_its_width :
    ((up).dev.set F.SNP_COUNTS_MISSED (2 ^ 32)).get F.SNP_COUNTS_MISSED = F.SNP_COUNTS_MISSED.top := by decide +kernel

/-- KILL_N low raises source 648 on a device that does not sink it (R337). -/
theorem test_killin_raises_its_source :
    (match exec (.killin true) (up) with | .next t => (t.dev.sticky 648 : Bool) | _ => false) = true := by decide +kernel

/-- 648 mapped to HALT takes a configured Bench to FORCED, code 5 (R165, R322). -/
theorem test_killin_halt_forces_a_bench :
    (match exec (.killin true) (up) with | .next t => (t.dev.get (F.BEN_STATUS_STATE 15) == 5 : Bool) | _ => false) = true := by decide +kernel

/-- An acknowledgment keeps the source set (R330). -/
theorem test_ack_keeps_the_source :
    (match exec (.ackWrite 0 1) (up (fun d => { d with raised := [⟨0, .trip, .trip, false⟩] })) with | .next t => (t.dev.raised == [⟨0, .trip, .trip, true⟩] : Bool) | _ => false) = true := by decide +kernel

/-- A sticky bit whose cause is gone clears by writing 1 (R334). -/
theorem test_clear_takes_a_gone_cause :
    (match exec (.stickyClear 0 3) (up (fun d => { d with raised := [⟨0, .trip, .trip, false⟩, ⟨1, .warn, .warn, true⟩] })) with | .next t => (t.dev.raised == [] : Bool) | _ => false) = true := by decide +kernel

/-- A bit written 0 leaves its source set (R334). -/
theorem test_clear_leaves_the_rest :
    (match exec (.stickyClear 0 2) (up (fun d => { d with raised := [⟨0, .trip, .trip, false⟩, ⟨1, .warn, .warn, true⟩] })) with | .next t => (t.dev.raised == [⟨0, .trip, .trip, false⟩] : Bool) | _ => false) = true := by decide +kernel

/-- A START before BEN READY is held (R165). -/
theorem test_start_before_ready_is_held :
    (match exec (.benchStart 0) (up (fun d => d.setB (rdyFld 2) false)) with | .next t => ((t.dev.bench 0).startHeld && t.dev.get (F.BEN_STATUS_STATE 0) == 0 : Bool) | _ => false) = true := by decide +kernel

/-- A START in OFF enters PRESTART, code 1 (R165). -/
theorem test_start_enters_prestart :
    (match exec (.benchStart 15) (up) with | .next t => (t.dev.get (F.BEN_STATUS_STATE 15) == 1 : Bool) | _ => false) = true := by decide +kernel

/-- RST.CTRL with the key 5E7Bh and COLD raises a cold reset and shows SWCOLD (R105). -/
theorem test_cold_reset_by_key :
    (match exec (.rstCtrlCold 0x5E7B false) (up) with | .next t => (t.dev.rst.cold && t.dev.on F.RST_CAUSE_SWCOLD : Bool) | _ => false) = true := by decide +kernel

/-- RST.CTRL with another key is ignored (R105). -/
theorem test_cold_reset_without_its_key :
    (match exec (.rstCtrlCold 0x5E7A false) (up) with | .next t => (!t.dev.rst.cold && !t.dev.on F.RST_CAUSE_SWCOLD : Bool) | _ => false) = true := by decide +kernel

/-- PORST_N low holds a cold reset (R105). -/
theorem test_porst_holds_the_device :
    (match exec (.porstNLow) (up) with | .next t => (t.dev.rst.cold : Bool) | _ => false) = true := by decide +kernel

/-- A LOOP clock found stopped asserts the SAFE line and sinks every gate (R24, R106). -/
theorem test_loop_clock_stop_asserts_safe :
    (match exec (.loopClockStop) (up) with | .next t => (t.dev.safeLine && (t.dev.slot 15).gate == .sink : Bool) | _ => false) = true := by decide +kernel

/-- A shed takes a GOOD slot to SHED, code 7 (R294). -/
theorem test_shed_sinks_a_good_slot :
    (match exec (.slotShed 0 .eng) (up (fun d => d.slotGo 0 .good)) with | .next t => (t.dev.get (F.HSW_STATUS_STATE 0) == 7 && (t.dev.slot 0).gate == .sink : Bool) | _ => false) = true := by decide +kernel

/-- IMEAN above IOC for TOC trips a GOOD slot with retries left: TRIPPED, code 6 (R283, R290). -/
theorem test_overcurrent_trip :
    (match exec (.slotOcExpiry 15) (up (fun d => ((d.set (F.HSW_RETRY_NRETRY 15) 3).slotGo 15 .good).modSlot 15 (fun s => { s with ocEnd := some 0 }))) with | .next t => (t.dev.get (F.HSW_STATUS_STATE 15) == 6 : Bool) | _ => false) = true := by decide +kernel

/-- A GOOD rail out of its window for FAILDB is FAILED with cause 1 (R258). -/
theorem test_rail_fails_after_faildb :
    (match exec (.railFailDebounce 1023) (up (fun d => ({ d with loop := 1000 } : Dev).railGo 1023 .good |>.modRail 1023 (fun r => { r with failRun := some 0, read := 1000 }))) with | .next t => (t.dev.rstate 1023 == .failed : Bool) | _ => false) = true := by decide +kernel

/-- A broadcast of none sets PASSIGN to FFFF_FFFFh (R224). -/
theorem test_capq_none_lifts_the_assignment :
    (match exec (.capqRx 0 0 true) (up) with | .next t => (t.dev.get F.CAP_PASSIGN_PASSIGN == 0xFFFFFFFF : Bool) | _ => false) = true := by decide +kernel

/-- A q of 8000h halves what was sent (R222). -/
theorem test_capq_scales_the_contribution :
    (match exec (.capqRx 0x8000 7 false) (up (fun d => { d with cap := { d.cap with sent := [(7, 3000000)] } })) with | .next t => (t.dev.get F.CAP_PASSIGN_PASSIGN == 1500000 : Bool) | _ => false) = true := by decide +kernel

/-- A sensor reading is shown (R340). -/
theorem test_thermal_reading_is_shown :
    (match exec (.thmReading 0 400) (up) with | .next t => ((t.dev.sensor 0).raw == 400 : Bool) | _ => false) = true := by decide +kernel

/-- SYNC ends in FENCED, code 6, after 10 ms (R355). -/
theorem test_sync_times_out_to_fenced :
    (match exec (.syncTimeout) (pair 1 (fun d => { d with dpx := { d.dpx with syncEnd := some 0 } })) with | .next t => (t.dev.get F.DPX_STATUS_STATE == 6 : Bool) | _ => false) = true := by decide +kernel

/-- A receive clock takes a port in use from DOWN to ACQUIRE (R385). -/
theorem test_port_acquires :
    (match exec (.portRxClockPresent 0) (up) with | .next t => (t.dev.port 0 == portAcquire : Bool) | _ => false) = true := by decide +kernel

/-- A rising edge on CLAMP holds a snapshot (R402). -/
theorem test_clamp_pin_latches :
    (match exec (.clampPinEdge) (up (fun d => d.setB F.SNP_CTRL_PINEN true)) with | .next t => (t.dev.on F.SNP_STATUS_HELD && t.dev.get F.SNP_NUMBER_NUMBER == 1 : Bool) | _ => false) = true := by decide +kernel

/-- A LOST record declares what was lost (R414). -/
theorem test_lost_record_resets_the_tally :
    (match exec (.lostRecordWrite) (up (fun d => { d with evr := { d.evr with lostN := 2, lostFirst := 3, lostLast := 9 } })) with | .next t => (t.dev.evr.lostN == 0 && (t.dev.evr.staged.map (·.payload)) == [[2, 0, 0, 0, 3, 0, 0, 0, 0, 0, 0, 0, 9, 0, 0, 0, 0, 0, 0, 0]] : Bool) | _ => false) = true := by decide +kernel

/-- A pulse on the crossing of HST.COUNTS.PROTO raises the counter (R100, R427). -/
theorem test_proto_counts_a_pulse :
    ((up).dev.fwPulse 66).get F.HST_COUNTS_PROTO = 1 := by decide +kernel

/-- A core load of a page that is not DEVICE sets CFAULT (R437). -/
theorem test_core_load_of_a_foreign_page :
    (match exec (.coreDrawerAccess 0x3FFFC none) (up) with | .next t => (t.dev.on F.WIN_STATUS_CFAULT : Bool) | _ => false) = true := by decide +kernel

/-- A page zeroed reads 0 and is FREE (R436). -/
theorem test_zeroed_page_is_free :
    (match exec (.pageZeroDone 63) (up (fun d => { d with zeroing := [63], mem := [(drawerBase + 0x3F000, 7), (drawerBase + 0x3E000, 8)] })) with | .next t => (t.dev.own 63 == ownFree && t.dev.mem == [(drawerBase + 0x3E000, 8)] : Bool) | _ => false) = true := by decide +kernel

/-- A bus error stops a busy channel (R449). -/
theorem test_bus_error_stops_a_channel :
    (match exec (.dmaBusError 0x100 true []) (up (fun d => d.dmaBusy 6 true)) with | .next t => (!t.dev.on (F.DMA_STATUS_BUSY 6) && t.dev.on (F.DMA_STATUS_STOPPED 6) && t.dev.get F.DMA_ERRADDR_ADDR == 0x100 : Bool) | _ => false) = true := by decide +kernel

/-- MFR_ID answers the block STW (R464). -/
theorem test_target_names_its_maker :
    (match exec (.tgtMfrId) tgtUp with | .next t => (t.dev.out == [.reply 1 [3, 0x53, 0x54, 0x57]] : Bool) | _ => false) = true := by decide +kernel

/-- Source over-current opens the port (R473). -/
theorem test_overcurrent_opens_the_port :
    (match exec (.sourceOvercurrent false) (up (fun d => d.set F.CPD_STATUS_STATE ccSource)) with | .next t => (t.dev.ccState == ccError : Bool) | _ => false) = true := by decide +kernel

/-- DEBUG is programmed from the debug port in service mode (R483). -/
theorem test_debug_fuse_blows :
    (match exec (.secProgGo .debug (2 ^ 31 + 6)) serviceUp with | .next t => (t.otp.debug : Bool) | _ => false) = true := by decide +kernel

/-- SEC.PROG is reached from the debug port only (R483). -/
theorem test_core_programs_no_fuse :
    (match exec (.secProgGo .core (2 ^ 31 + 6)) serviceUp with | .next t => (!t.otp.debug : Bool) | _ => false) = true := by decide +kernel

/-- The key 7C15h confirms a trial (R497). -/
theorem test_confirm_takes_the_key :
    (match exec (.updConfirm .core 0x7C15) (up (fun d => d.modUpd (fun u => { u with st := updTrial }))) with | .next t => (t.dev.upd.boot.active == 1 && t.dev.upd.boot.state1 == 3 : Bool) | _ => false) = true := by decide +kernel

/-- The end of an on-delay window sets the output (R134). -/
theorem test_on_delay_sets_its_dowel :
    (match exec (.dowelTimerExpiry 0) (up (fun d => d.modDowel 0 (fun y => { y with deadline := some 0 }))) with | .next t => (t.dev.dowelOut 0 : Bool) | _ => false) = true := by decide +kernel

/-- The end of a pulse clears the output (R134). -/
theorem test_pulse_ends :
    (match exec (.dowelTimerExpiry 255) (up (fun d => (d.setBit (F.FAB_DOWEL_OUT_OUT 7) 31 true).modDowel 255 (fun y => { y with deadline := some 0 }))) with | .next t => (!t.dev.dowelOut 255 : Bool) | _ => false) = true := by decide +kernel

/-- A rest request shows in BAT.s.CTRL (R304). -/
theorem test_string_request_is_shown :
    (match exec (.restRequest 3 true) (up) with | .next t => (t.dev.on (F.BAT_CTRL_REST 3) : Bool) | _ => false) = true := by decide +kernel

/-- A step on an empty queue is one tick (R16). -/
theorem test_tick_counts :
    (match step (up) with | .next t => t.dev.now == 1 && t.dev.loop == 1 | _ => false) = true := by decide +kernel

/-- What meets the hypotheses of `Obligations.EmptyQueueIsOneTick`, clause by clause. -/
theorem test_wit_EmptyQueueIsOneTick :
    State.reset.pending = [] ∧ State.reset.dev.dpx.items = [] ∧ (up).dev.loopRuns = true ∧ (up).pending = [] ∧ (up).dev.dpx.items = [] := by decide +kernel

/-- What meets the hypotheses of `Obligations.FusesOnlyBlow`, clause by clause. -/
theorem test_wit_FusesOnlyBlow :
    step State.reset = .next State.reset.tick := rfl

/-- What meets the hypotheses of `Obligations.ProvLockClosesProvisioning`, clause by clause. -/
theorem test_wit_ProvLockClosesProvisioning :
    ({ otp := { provLock := true } } : State).otp.provLock = true
      ∧ step ({ otp := { provLock := true } } : State) = .next ({ otp := { provLock := true } } : State).tick := ⟨rfl, rfl⟩

/-- What meets the hypotheses of `Obligations.FloorsStayInTheirFuses`, clause by clause. -/
theorem test_wit_FloorsStayInTheirFuses :
    Otp.FloorsFit { floorFw := 128, floorBs := 128 } ∧ step ({ otp := { floorFw := 128, floorBs := 128 } } : State)
      = .next ({ otp := { floorFw := 128, floorBs := 128 } } : State).tick := ⟨by decide, rfl⟩

/-- What meets the hypotheses of `Obligations.StoppedLoopIgnoresItsEvents`, clause by clause. -/
theorem test_wit_StoppedLoopIgnoresItsEvents :
    inLoop .engCommit = true ∧ State.reset.dev.loopRuns = false ∧ (up (fun d => d.setB F.CLK_PRESENT_LOOP false)).dev.loopRuns = false := by decide +kernel

/-- What meets the hypotheses of `Obligations.HeldSysIgnoresItsEvents`, clause by clause. -/
theorem test_wit_HeldSysIgnoresItsEvents :
    inSys .dmaClear = true ∧ State.reset.dev.sysRuns = false ∧ (up (fun d => { d with rst := { d.rst with sys := true } })).dev.sysRuns = false := by decide +kernel

/-- What meets the hypotheses of `Obligations.AckMarksOnlySetSources`, clause by clause. -/
theorem test_wit_AckMarksOnlySetSources :
    (up).dev.masterRuns .core = true ∧ (up).dev.loopClk = true ∧ (up).dev.ownWrite (F.PRO_ACK_ACK 0).addr = true ∧ (up).dev.ownWrite (F.PRO_ACK_ACK 23).addr = true
      ∧ (pair 3).dev.masterRuns .core = true ∧ (pair 3).dev.loopClk = true ∧ (pair 3).dev.ownWrite (F.PRO_ACK_ACK 0).addr = false
      ∧ ([⟨31, .trip, .trip, true⟩, ⟨767, .warn, .warn, true⟩].map Raised.src).Nodup
      ∧ (({ raised := [⟨31, .trip, .trip, true⟩, ⟨767, .warn, .warn, true⟩] } : Dev).wAck 0).testBit 31 = true
      ∧ (({ raised := [⟨31, .trip, .trip, true⟩, ⟨767, .warn, .warn, true⟩] } : Dev).wAck 23).testBit 31 = true := by decide +kernel

/-- What meets the hypotheses of `Obligations.SameHomeDoesNotEscalate`, clause by clause. -/
theorem test_wit_SameHomeDoesNotEscalate :
    (up).dev.entry 1 = some { src := 1, cls := .warn } ∧ (up).dev.ready 12 = true ∧ (up).dev.sticky 1 = false
      ∧ (∀ x ∈ (up (fun d => { d with raised := [⟨0, .warn, .warn, false⟩] })).dev.raised, home x.src = home 1)
      ∧ (∀ x ∈ (up (fun d => { d with proStart := [⟨0, .warn, .warn, false⟩] })).dev.proStart, home x.src = home 1) := by decide +kernel

/-- What meets the hypotheses of `Obligations.StickyClearTakesOnlyGoneCauses`, clause by clause. -/
theorem test_wit_StickyClearTakesOnlyGoneCauses :
    (up).Takes (F.PRO_STICKY_STICKY 0).addr 0 ∧ (up).Takes (F.PRO_STICKY_STICKY 23).addr 0xFFFFFFFF := by decide +kernel

/-- What meets the hypotheses of `Obligations.KillLineRaisesKillin`, clause by clause. -/
theorem test_wit_KillLineRaisesKillin :
    (up).dev.rst.cold = false ∧ (up).dev.ready 12 = true ∧ (up).dev.killSink = false ∧ (up).dev.isDuplex = false
      ∧ (pair 3 (fun d => d.setB F.DPX_STATUS_HBIN true)).dev.on F.DPX_STATUS_HBIN = true
      ∧ (pair 3).dev.isDuplex = true ∧ (pair 3).dev.on F.DPX_STATUS_HBIN = false
      ∧ (up (fun d => d.setB (rdyFld 12) false)).dev.ready 12 = false ∧ (up (fun d => { d with safeLine := true })).dev.killSink = true := by decide +kernel

/-- What meets the hypotheses of `Obligations.HaltForcesEveryBench`, clause by clause. -/
theorem test_wit_HaltForcesEveryBench :
    (up).dev.rst.cold = false ∧ (up).dev.ready 12 = true ∧ (up).dev.killSink = false ∧ (up).dev.isDuplex = false
      ∧ (up).dev.entry 648 = some { src := 648, cls := .halt } ∧ (up).dev.sticky 648 = false
      ∧ (up).dev.hasBench 0 = true ∧ (up).dev.hasBench 15 = true := by decide +kernel

/-- What meets the hypotheses of `Obligations.SafeShutAssertsItsLine`, clause by clause. -/
theorem test_wit_SafeShutAssertsItsLine :
    (up (fun d => d.modSafe (fun x => { x with run := 2 }))).dev.safeThm.asserted = false
      ∧ 2 ≤ (up (fun d => d.modSafe (fun x => { x with run := 2 }))).dev.safeThm.run
      ∧ (up).dev.safeThm.run < 2 ∧ (up (fun d => d.modSafe (fun x => { x with asserted := true }))).dev.safeThm.asserted = true := by decide +kernel

/-- What meets the hypotheses of `Obligations.WatchdogNeedsItsKey`, clause by clause. -/
theorem test_wit_WatchdogNeedsItsKey :
    (up).Lands .core F.RST_WDT_SVC_KEY.addr ∧ 0x6C3A % 0x10000 = 0x6C3A ∧ (up).dev.rst.wdtLeft = none ∧ 0 % 0x10000 ≠ 0x6C3A
      ∧ (up).dev.sysRuns = true ∧ (up).dev.rst.rom = false ∧ due (some 0) (up).dev.now = true ∧ due (up).dev.rst.wdtEnd (up).dev.now = false := by decide +kernel

/-- What meets the hypotheses of `Obligations.DebugHaltPausesTheWatchdog`, clause by clause. -/
theorem test_wit_DebugHaltPausesTheWatchdog :
    (up (fun d => { d with rst := { d.rst with wdtEnd := some 5 } })).dev.sysRuns = true
      ∧ (up (fun d => { d with rst := { d.rst with wdtEnd := some 5 } })).dev.rst.wdtEnd = some 5 ∧ (up (fun d => { d with rst := { d.rst with wdtEnd := some 5 } })).dev.rst.wdtLeft = none
      ∧ (up (fun d => d.setB F.RST_WDT_DBG_FREEZE true)).dev.on F.RST_WDT_DBG_FREEZE = true ∧ (up).dev.on F.RST_WDT_DBG_FREEZE = false
      ∧ (up (fun d => { d with rst := { d.rst with wdtLeft := some 5 } })).dev.rst.wdtLeft = some 5 := by decide +kernel

/-- What meets the hypotheses of `Obligations.LoopStopSinksEveryGate`, clause by clause. -/
theorem test_wit_LoopStopSinksEveryGate :
    (up).dev.on F.CLK_PRESENT_LOOP = true ∧ State.reset.dev.on F.CLK_PRESENT_LOOP = false := by decide +kernel

/-- What meets the hypotheses of `Obligations.AccessCodesActAsTheTableSays`, clause by clause. -/
theorem test_wit_AccessCodesActAsTheTableSays :
    (⟨0, 1, .ro, false, none, false⟩ : FldRow).acc = .ro ∧ (⟨31, 1, .wo, false, none, false⟩ : FldRow).acc = .wo ∧ (⟨0, 1, .w1c, false, none, false⟩ : FldRow).acc = .w1c
      ∧ (⟨0, 1, .stk, false, none, false⟩ : FldRow).acc = .stk ∧ (⟨0, 1, .w1s, false, none, false⟩ : FldRow).acc = .w1s
      ∧ (⟨0, 1, .rwl, false, none, false⟩ : FldRow).acc = .rwl ∧ (up (fun d => d.setB (F.BEN_CTRL_LOCK 15) true)).dev.locked (F.BEN_VSET_VSET 15).addr = true := by decide +kernel

/-- What meets the hypotheses of `Obligations.StandbyRefusesLoopWrites`, clause by clause. -/
theorem test_wit_StandbyRefusesLoopWrites :
    (pair 3).dev.isDuplex = true ∧ (pair 3).dev.standsBy = false ∧ (pair 2).dev.masterRuns .core = true ∧ (pair 2).dev.loopClk = true ∧ (pair 2).dev.standsBy = true ∧ (pair 1).dev.standsBy = true ∧ (pair 4).dev.standsBy = true
      ∧ (pair 2).dev.mayWrite .core (wordAddr 0xE01FC) = true ∧ loopRegion (regionOf (wordAddr 0xE01FC)) = true ∧ regionOf (wordAddr 0xE01FC) ≠ 16
      ∧ ¬ (0xE0200 ≤ wordAddr 0xE01FC ∧ wordAddr 0xE01FC < 0xE0260) ∧ ¬ (0xE0200 ≤ wordAddr 0xE0260 ∧ wordAddr 0xE0260 < 0xE0260) := by decide +kernel

/-- What meets the hypotheses of `Obligations.DuplexTimeoutsFence`, clause by clause. -/
theorem test_wit_DuplexTimeoutsFence :
    (pair 1).dev.loopRuns = true ∧ (pair 1).dev.dpxState = dpxSync ∧ (pair 4).dev.dpxState = dpxSplit ∧ due (some 0) (pair 1).dev.loop = true
      ∧ (pair 4).dev.dpxState ≠ dpxSync ∧ due (pair 1).dev.dpx.syncEnd (pair 1).dev.loop = false
      ∧ (pair 1).dev.dpxState ≠ dpxSplit ∧ due (pair 4).dev.dpx.splitEnd (pair 4).dev.loop = false
      ∧ (pair 4).dev.dpx.driveAt = none ∧ (pair 4 (fun d => { d with dpx := { d.dpx with driveAt := some (8, 5) } })).dev.dpx.driveAt.isSome = true := by decide +kernel

/-- What meets the hypotheses of `Obligations.ShedSinksTheGate`, clause by clause. -/
theorem test_wit_ShedSinksTheGate :
    (up).dev.loopRuns = true ∧ (up).dev.hasSlot 0 = true ∧ (up).dev.hasSlot 15 = true
      ∧ ((up (fun d => d.slotGo 15 .good)).dev.slot 15).state = .good ∧ ((up (fun d => d.slotGo 0 .ramp)).dev.slot 0).state = .ramp
      ∧ ((up (fun d => d.slotGo 0 .seated)).dev.slot 0).state = .seated ∧ ((up).dev.slot 15).state = .empty := by decide +kernel

/-- What meets the hypotheses of `Obligations.SlotTimersTripOnlyWhenDue`, clause by clause. -/
theorem test_wit_SlotTimersTripOnlyWhenDue :
    (up).dev.loopRuns = true ∧ (up (fun d => d.slotGo 15 .good)).dev.slotRan 15 = true ∧ ((up (fun d => d.slotGo 15 .good)).dev.slot 15).state ≠ .ramp
      ∧ (up (fun d => d.slotGo 0 .ramp)).dev.slotRan 0 = true ∧ ((up (fun d => d.slotGo 0 .ramp)).dev.slot 0).state ≠ .good ∧ (up).dev.slotRan 0 = false
      ∧ due (some 0) (up).dev.loop = true ∧ 0 < ((up (fun d => d.modSlot 15 (fun s => { s with soaCount := 70000 }))).dev.slot 15).soaCount
      ∧ (up (fun d => d.modSlot 15 (fun s => { s with soaCount := 70000 }))).dev.effN (F.HSW_SOA_TSOA 15) ≤ ((up (fun d => d.modSlot 15 (fun s => { s with soaCount := 70000 }))).dev.slot 15).soaCount
      ∧ due ((up).dev.slot 15).ocEnd (up).dev.loop = false ∧ due ((up).dev.slot 0).rampEnd (up).dev.loop = false ∧ due ((up).dev.slot 0).gateEnd (up).dev.loop = false
      ∧ ((up (fun d => d.set (F.HSW_SOA_TSOA 0) 1)).dev.slot 0).soaCount < (up (fun d => d.set (F.HSW_SOA_TSOA 0) 1)).dev.effN (F.HSW_SOA_TSOA 0) := by decide +kernel

/-- What meets the hypotheses of `Obligations.RailFailsAfterFaildb`, clause by clause. -/
theorem test_wit_RailFailsAfterFaildb :
    (up).dev.loopRuns = true ∧ ((up).dev.railCfg 0).isSome = true ∧ ((up).dev.railCfg 1023).isSome = true
      ∧ ((up).dev.railCfg 1023).map (·.live) = some true ∧ (up (fun d => d.railGo 1023 .good)).dev.rstate 1023 = .good
      ∧ ((up).dev.railCfg 1023).map ((up (fun d => d.modRail 1023 (fun r => { r with read := 200 }))).dev.ranFor · (some 0) 1) = some true ∧ (up).dev.rstate 0 ≠ .good
      ∧ ((up).dev.railCfg 1023).map ((up (fun d => d.modRail 1023 (fun r => { r with read := 199 }))).dev.ranFor · (some 0) 1) = some false := by decide +kernel

/-- What meets the hypotheses of `Obligations.StartActsOnlyInOff`, clause by clause. -/
theorem test_wit_StartActsOnlyInOff :
    (up).dev.loopRuns = true ∧ (up).dev.hasBench 0 = true ∧ (up).dev.hasBench 15 = true ∧ (up).dev.get (F.BEN_STATUS_STATE 15) = 0 ∧ (up).dev.ready 2 = true
      ∧ (up (fun d => d.setB (rdyFld 2) false)).dev.ready 2 = false ∧ (up (fun d => d.set (F.BEN_STATUS_STATE 15) 4)).dev.get (F.BEN_STATUS_STATE 15) = 4
      ∧ (up).dev.hasBench 1 = false ∧ (up (fun d => d.set (F.BEN_STATUS_STATE 0) 3)).dev.get (F.BEN_STATUS_STATE 0) = 3 := by decide +kernel

/-- What meets the hypotheses of `Obligations.BroadcastSetsTheAssignment`, clause by clause. -/
theorem test_wit_BroadcastSetsTheAssignment :
    (up).dev.loopRuns = true
      ∧ (up (fun d => { d with cap := { d.cap with sent := [(255, 9)] } })).dev.cap.sent.find? (fun y => y.1 == 255) = some (255, 9) := by decide +kernel

/-- What meets the hypotheses of `Obligations.CommitWaitsForTheReprieve`, clause by clause. -/
theorem test_wit_CommitWaitsForTheReprieve :
    (up).dev.loopRuns = true ∧ (up (fun d => d.set F.ENG_STATUS_STATE 4)).dev.get F.ENG_STATUS_STATE = 4
      ∧ (up (fun d => { d with loop := 2 ^ 40 })).dev.eng.w + (up (fun d => { d with loop := 2 ^ 40 })).dev.reprieve * ms ≤ 2 ^ 40
      ∧ (up (fun d => d.modEng (fun e => { e with w := 1 }))).dev.loop < (up (fun d => d.modEng (fun e => { e with w := 1 }))).dev.eng.w
          + (up (fun d => d.modEng (fun e => { e with w := 1 }))).dev.reprieve * ms
      ∧ (up).dev.get F.ENG_STATUS_STATE ≠ 4 := by decide +kernel

/-- What meets the hypotheses of `Obligations.LostRecordDeclaresWhatWasLost`, clause by clause. -/
theorem test_wit_LostRecordDeclaresWhatWasLost :
    (up).dev.sysRuns = true ∧ 0 < ({ lostN := 1 } : Evr).lostN ∧ (up).dev.ready 18 = true ∧ admitted 12 40 (up).dev.ringUsed = true ∧ (up).dev.evr.lostN = 0 := by decide +kernel

/-- What meets the hypotheses of `Obligations.HeldSetIsNotLatchedAnew`, clause by clause. -/
theorem test_wit_HeldSetIsNotLatchedAnew :
    heldUp.dev.loopRuns = true ∧ heldUp.dev.on F.SNP_CTRL_PINEN = true ∧ heldUp.dev.ready 17 = true ∧ heldUp.dev.on F.SNP_STATUS_HELD = true
      ∧ heldUp.dev.clampMerges heldUp.dev.tim heldUp.dev.node heldUp.dev.tim = false := by decide +kernel

/-- What meets the hypotheses of `Obligations.UnknownHostCommandOnlyCounts`, clause by clause. -/
theorem test_wit_UnknownHostCommandOnlyCounts :
    (up fed).dev.rst.cold = false ∧ ((up fed).dev.sup.a || (up fed).dev.sup.b) = true ∧ ((up).dev.fwx 66).busy = false
      ∧ F.HST_COUNTS_BUSY.key ≠ F.HST_COUNTS_PROTO.key ∧ F.HST_COUNTS_BUSY.key ≠ F.HST_H_LAST_CMD.key ∧ F.HST_COUNTS_BUSY.key ≠ F.HST_H_LAST_ADDR.key := by decide +kernel

/-- What meets the hypotheses of `Obligations.CoreTouchesOnlyDevicePages`, clause by clause. -/
theorem test_wit_CoreTouchesOnlyDevicePages :
    (up).dev.sysRuns = true ∧ (up).dev.coreRuns = true ∧ (up).dev.own (0x3FFFC / 0x1000) ≠ ownDev ∧ (up (fun d => d.setOwn 63 ownDev)).dev.own (0x3FFFC / 0x1000) = ownDev
      ∧ (up (fun d => d.setOwn 0 ownDev)).dev.own (0 / 0x1000) = ownDev ∧ (up).dev.wbuf.length < 4 ∧ ({ wbuf := [(0, 0), (4, 0), (8, 0)] } : Dev).wbuf.length < 4 := by decide +kernel

/-- What meets the hypotheses of `Obligations.ZeroedPageReadsZero`, clause by clause. -/
theorem test_wit_ZeroedPageReadsZero :
    (up).dev.sysRuns = true ∧ (up (fun d => { d with zeroing := [0, 63] })).dev.zeroing.contains 0 = true
      ∧ (up (fun d => { d with zeroing := [0, 63] })).dev.zeroing.contains 63 = true ∧ (up).dev.zeroing.contains 63 = false := by decide +kernel

/-- What meets the hypotheses of `Obligations.BusErrorStopsEveryChannel`, clause by clause. -/
theorem test_wit_BusErrorStopsEveryChannel :
    (up (fun d => d.dmaBusy 6 true)).dev.sysRuns = true ∧ ([] : List (Nat × Nat)).foldl (fun s x => s.dmaProgress x.1 x.2) (up (fun d => d.dmaBusy 6 true)) = up (fun d => d.dmaBusy 6 true)
      ∧ (up (fun d => d.dmaBusy 6 true)).dev.on F.DMA_GSTATUS_BUSERR = false ∧ (up (fun d => d.dmaBusy 6 true)).dev.on (F.DMA_STATUS_BUSY 6) = true := ⟨by decide +kernel, rfl, by decide +kernel, by decide +kernel⟩

/-- What meets the hypotheses of `Obligations.TargetNamesItself`, clause by clause. -/
theorem test_wit_TargetNamesItself :
    tgtUp.dev.tgtOn = true ∧ (up).dev.tgtOn = false := by decide +kernel

/-- What meets the hypotheses of `Obligations.PortAcquiresOrFallsBack`, clause by clause. -/
theorem test_wit_PortAcquiresOrFallsBack :
    (up).dev.loopRuns = true ∧ (up).dev.usedPorts.contains 0 = true ∧ (up).dev.usedPorts.contains 1 = true ∧ (up).dev.port 1 = portDown ∧ (up).dev.usedPorts.contains 2 = false
      ∧ (up (fun d => d.set (F.LNK_STATUS_STATE 1) portAcquire)).dev.port 1 = portAcquire ∧ due (some 0) (up).dev.now = true
      ∧ (up (fun d => d.set (F.LNK_STATUS_STATE 0) portAcquire)).dev.port 0 ≠ portDown ∧ due ((up).dev.portSt 2).acqEnd (up).dev.now = false := by decide +kernel

/-- What meets the hypotheses of `Obligations.OvercurrentOpensThePort`, clause by clause. -/
theorem test_wit_OvercurrentOpensThePort :
    (up).dev.rst.cold = false ∧ (up (fun d => d.set F.CPD_STATUS_STATE ccSource)).dev.ccState = ccSource ∧ (up).dev.ccState ≠ ccSource
      ∧ (up (fun d => d.set F.CPD_STATUS_STATE ccError)).dev.ccState = ccError ∧ due (some 0) (up).dev.now = true ∧ (up).dev.ccState ≠ ccError ∧ due (up).dev.cpd.openEnd (up).dev.now = false := by decide +kernel

/-- What meets the hypotheses of `Obligations.OnlyFirmwareConfirmsATrial`, clause by clause. -/
theorem test_wit_OnlyFirmwareConfirmsATrial :
    (up).Lands .core F.UPD_CONFIRM_KEY.addr ∧ (up).Lands .tunnel F.UPD_CONFIRM_KEY.addr ∧ 0x7C15 % 0x10000 = 0x7C15 ∧ 0x7C14 % 0x10000 ≠ 0x7C15
      ∧ (up (fun d => d.modUpd (fun u => { u with st := updTrial }))).dev.upd.st = updTrial
      ∧ due (up (fun d => d.modUpd (fun u => { u with st := updTrial }))).dev.upd.trialEnd (up).dev.now = false ∧ (up).dev.upd.st ≠ updTrial ∧ due (some 0) (up).dev.now = true := by decide +kernel

/-- What meets the hypotheses of `Obligations.OnDelayRaisesItsDowelWhenDue`, clause by clause. -/
theorem test_wit_OnDelayRaisesItsDowelWhenDue :
    (up).dev.loopRuns = true ∧ ((up).dev.dowelCfg 0).map (·.mode) = some .onDelay ∧ ((up).dev.dowelCfg 255).map (·.mode) = some .pulse
      ∧ due (some 0) (up).dev.loop = true ∧ ((up).dev.dowelCfg 1).isNone = true ∧ due ((up).dev.dowel 255).deadline (up).dev.loop = false := by decide +kernel

/-! ### States that meet the hypotheses of the statements on whole families -/

/-- The conditions under which the commands of `Obligations.PowerCommandsComplete` reach their blocks, at the ends of their ranges. -/
theorem test_wit_PowerCommandsComplete :
    (up).dev.rst.cold = false
      ∧ (up).dev.sysRuns = true
      ∧ (up).Lands .core F.RST_CTRL_KEY.addr
      ∧ (up).Lands .core F.RST_WDT_SVC_KEY.addr
      ∧ (up).Lands .core F.RST_BLOCK_NVA.addr
      ∧ (up).Lands .core F.CLK_CTRL_NVA_RATE.addr := by decide +kernel

/-- The conditions under which the commands of `Obligations.RegisterAndFaultCommandsComplete` reach their blocks, at the ends of their ranges. -/
theorem test_wit_RegisterAndFaultCommandsComplete_1 :
    (up).dev.rst.cold = false
      ∧ lockOf 0x40000 = some (F.BEN_CTRL_LOCK 0)
      ∧ (up).Lands .core (F.BEN_CTRL_LOCK 0).addr
      ∧ lockOf 0x1B0000 = some F.UPD_CTRL_LOCK
      ∧ (up).Lands .core F.UPD_CTRL_LOCK.addr
      ∧ (up).Lands Master.core 0x20004
      ∧ (up).Lands Master.tunnel 0x1B0014
      ∧ (up).Takes (F.PRO_STICKY_STICKY 0).addr 1
      ∧ (up).Takes (F.PRO_STICKY_STICKY 23).addr 2
      ∧ (up).Takes (F.PRO_ACK_ACK 0).addr 1
      ∧ (up).Takes (F.PRO_ACK_ACK 23).addr 2
      ∧ (up).Takes (F.PRO_FWRAISE0_RAISE.addr + 4 * 1) 1 := by decide +kernel

/-- The conditions under which the commands of `Obligations.RegisterAndFaultCommandsComplete` reach their blocks, at the ends of their ranges. -/
theorem test_wit_RegisterAndFaultCommandsComplete_2 :
    (up).Takes (F.PRO_FWRAISE0_RAISE.addr + 4 * 0) 2 := by decide +kernel

/-- The conditions under which the commands of `Obligations.BootCommandsComplete` reach their blocks, at the ends of their ranges. -/
theorem test_wit_BootCommandsComplete :
    (up).dev.loopRuns = true
      ∧ (up).dev.sysRuns = true
      ∧ 64 ≤ 64
      ∧ 64 < 67
      ∧ 64 ≤ 66
      ∧ 66 < 67
      ∧ ¬ (64 ≤ 0 ∧ 0 < 67)
      ∧ ¬ (64 ≤ 67 ∧ 67 < 67) := by decide +kernel

/-- The conditions under which the commands of `Obligations.FabricCommandsComplete` reach their blocks, at the ends of their ranges. -/
theorem test_wit_FabricCommandsComplete :
    (up).dev.loopRuns = true
      ∧ (up).dev.rst.cold = false
      ∧ (up).dev.sysRuns = true := by decide +kernel

/-- The conditions under which the commands of `Obligations.BenchCommandsComplete` reach their blocks, at the ends of their ranges. -/
theorem test_wit_BenchCommandsComplete_1 :
    (up).dev.loopRuns = true
      ∧ (up).Takes (F.BEN_VSET_VSET 0).addr 1
      ∧ (up).Takes (F.BEN_VSET_VSET 15).addr 2
      ∧ (up).Takes (F.BEN_MARGIN_MARGIN 0).addr 1
      ∧ (up).Takes (F.BEN_MARGIN_MARGIN 15).addr 2
      ∧ (up).Takes (F.BEN_SLEW_SLEW 0).addr 1
      ∧ (up).Takes (F.BEN_SLEW_SLEW 15).addr 2
      ∧ (up).Takes (F.BEN_PERIOD_PERIOD 0).addr 1
      ∧ (up).Takes (F.BEN_PERIOD_PERIOD 15).addr 2
      ∧ (up).Takes (F.BEN_PHDROP_DROP 0).addr 1
      ∧ (up).Takes (F.BEN_PHDROP_DROP 15).addr 2
      ∧ (up).Takes (if true = true then (F.BEN_OCCFG_OV_DB 0).addr else (F.BEN_OVUV_OVP 0).addr) 1 := by decide +kernel

/-- The conditions under which the commands of `Obligations.BenchCommandsComplete` reach their blocks, at the ends of their ranges. -/
theorem test_wit_BenchCommandsComplete_2 :
    (up).Takes (if false = true then (F.BEN_OCCFG_OV_DB 15).addr else (F.BEN_OVUV_OVP 15).addr) 2 := by decide +kernel

/-- The conditions under which the commands of `Obligations.MonitorAndShareCommandsComplete` reach their blocks, at the ends of their ranges. -/
theorem test_wit_MonitorAndShareCommandsComplete :
    (up).dev.loopRuns = true
      ∧ State.reset.dev.loopRuns = false
      ∧ (up).Takes F.SHR_VBUS_VBUS.addr 1
      ∧ (up).Takes F.SHR_VBUS_VBUS.addr 2 := by decide +kernel

/-- The conditions under which the commands of `Obligations.CapCommandsComplete` reach their blocks, at the ends of their ranges. -/
theorem test_wit_CapCommandsComplete :
    (up).dev.loopRuns = true
      ∧ (up).Takes F.CAP_FORCE_THR.addr 1
      ∧ (up).Takes F.CAP_FORCE_THR.addr 2 := by decide +kernel

/-- The conditions under which the commands of `Obligations.EnergyCommandsComplete` reach their blocks, at the ends of their ranges. -/
theorem test_wit_EnergyCommandsComplete :
    (up).dev.loopRuns = true := by decide +kernel

/-- The conditions under which the commands of `Obligations.BatteryCommandsComplete` reach their blocks, at the ends of their ranges. -/
theorem test_wit_BatteryCommandsComplete :
    (up).dev.loopRuns = true
      ∧ (up).Takes (F.BAT_CTRL_REST 0).addr (up.dev.wordWith (F.BAT_CTRL_REST 0) 1)
      ∧ (up).Takes (F.BAT_CTRL_REST 3).addr (up.dev.wordWith (F.BAT_CTRL_REST 3) 0)
      ∧ (up).Takes (F.BAT_CTRL_NEWSTRING 0).addr (up.dev.wordWith (F.BAT_CTRL_NEWSTRING 0) 1)
      ∧ (up).Takes (F.BAT_CTRL_NEWSTRING 3).addr (up.dev.wordWith (F.BAT_CTRL_NEWSTRING 3) 1) := by decide +kernel

/-- The conditions under which the commands of `Obligations.RailsCommandsComplete` reach their blocks, at the ends of their ranges. -/
theorem test_wit_RailsCommandsComplete :
    (up).dev.loopRuns = true
      ∧ (up).Takes F.SEQ_REQ_ON.addr 1
      ∧ (up).Takes F.SEQ_REQ_ON.addr 2
      ∧ (up).Takes F.SEQ_REQ_ON.addr (1 * 2 ^ 16)
      ∧ (up).Takes F.SEQ_REQ_ON.addr (2 * 2 ^ 16)
      ∧ (up).Takes (F.SEQ_STATE_FAILMARK 0).addr 0x40
      ∧ (up).Takes (F.SEQ_STATE_FAILMARK 1023).addr 0x40
      ∧ (up).Takes (F.SEQ_MARGIN_MARGIN 0).addr 1
      ∧ (up).Takes (F.SEQ_MARGIN_MARGIN 15).addr 2 := by decide +kernel

/-- The conditions under which the commands of `Obligations.SlotsCommandsComplete` reach their blocks, at the ends of their ranges. -/
theorem test_wit_SlotsCommandsComplete :
    (up).dev.loopRuns = true
      ∧ State.reset.dev.loopRuns = false
      ∧ owned.dev.seqOwned 0 = true
      ∧ owned.dev.seqOwned 15 = true
      ∧ (up).dev.seqOwned 0 = false
      ∧ (up).dev.seqOwned 15 = false
      ∧ (up).Takes (F.HSW_CTRL_UNLOCK 0).addr (up.dev.wordWith (F.HSW_CTRL_UNLOCK 0) 1)
      ∧ (up).Takes (F.HSW_CTRL_UNLOCK 15).addr (up.dev.wordWith (F.HSW_CTRL_UNLOCK 15) 1) := by decide +kernel

/-- The conditions under which the commands of `Obligations.ThermalCommandsComplete` reach their blocks, at the ends of their ranges. -/
theorem test_wit_ThermalCommandsComplete :
    (up).dev.loopRuns = true
      ∧ (up.dev.loopRuns || 0 == 1) = true
      ∧ (up.dev.loopRuns || 5 == 1) = true
      ∧ (up).Takes ((F.THM_LIM1_WARN 0).addr + 4 * 1) 1
      ∧ (up).Takes ((F.THM_LIM1_WARN 5).addr + 4 * 0) 2 := by decide +kernel

/-- The conditions under which the commands of `Obligations.DuplexCommandsComplete` reach their blocks, at the ends of their ranges. -/
theorem test_wit_DuplexCommandsComplete :
    (pair 3).dev.loopRuns = true
      ∧ State.reset.dev.loopRuns = false
      ∧ (pair 3).Reaches F.DPX_CTRL_HANDOVER.addr 1
      ∧ (pair 3).Reaches F.DPX_CTRL_HANDOVER.addr 2
      ∧ (pair 3).Reaches F.DPX_CTRL_HANDOVER.addr 4 := by decide +kernel

/-- The conditions under which the commands of `Obligations.LinkCommandsComplete` reach their blocks, at the ends of their ranges. -/
theorem test_wit_LinkCommandsComplete :
    (up).dev.loopRuns = true
      ∧ (up).Lands .core F.LNK_TUN_CTRL_GO.addr
      ∧ (up).dev.goBlocked F.LNK_TUN_CTRL_GO.addr 1 = false
      ∧ (up).dev.goBlocked F.LNK_TUN_CTRL_GO.addr 2 = false := by decide +kernel

/-- The conditions under which the commands of `Obligations.ClampCommandsComplete` reach their blocks, at the ends of their ranges. -/
theorem test_wit_ClampCommandsComplete :
    (up).dev.loopRuns = true
      ∧ (up).Takes F.SNP_CTRL_FIRE.addr (up.dev.wordWith F.SNP_CTRL_FIRE 1)
      ∧ (up).Takes F.SNP_CTRL_REARM.addr (up.dev.wordWith F.SNP_CTRL_REARM 1) := by decide +kernel

/-- The conditions under which the commands of `Obligations.RecorderCommandsComplete` reach their blocks, at the ends of their ranges. -/
theorem test_wit_RecorderCommandsComplete :
    (up).dev.sysRuns = true
      ∧ (up).Lands .core F.EVR_CTRL_FLUSHNOW.addr
      ∧ (up).Lands .core F.EVR_RD_CTRL_GO.addr
      ∧ (up).Lands Master.core F.EVR_CLR_CTRL_GO.addr
      ∧ (up).Lands Master.tunnel F.EVR_CLR_CTRL_GO.addr
      ∧ (up).Lands .core F.EVR_FW_CTRL_GO.addr
      ∧ (up).Lands .core (F.NVS_VAULT_WORD 0).addr
      ∧ (up).Lands .core (F.NVS_VAULT_WORD 2047).addr := by decide +kernel

/-- The conditions under which the commands of `Obligations.HostCommandsComplete` reach their blocks, at the ends of their ranges. -/
theorem test_wit_HostCommandsComplete_1 :
    (up).dev.rst.cold = false
      ∧ (up).dev.sysRuns = true
      ∧ ((up fed).dev.sup.a || (up fed).dev.sup.b) = true ∧ (up fed).dev.rst.cold = false
      ∧ hostUp.HostOpen (portReq (.rdreg 0x160000)) 20000 := by decide +kernel

/-- The conditions under which the commands of `Obligations.HostCommandsComplete` reach their blocks, at the ends of their ranges. -/
theorem test_wit_HostCommandsComplete_2 :
    hostUp.HostOpen (portReq (.rdreg 0x160000)) 100000
      ∧ hostUp.HostOpen (portReq (.wrreg 0x160000 1)) 20000
      ∧ hostUp.HostOpen (portReq (.wrreg 0x160000 2)) 100000
      ∧ hostUp.HostOpen (portReq (.rdwin 0 4)) 20000 := by decide +kernel

/-- The conditions under which the commands of `Obligations.HostCommandsComplete` reach their blocks, at the ends of their ranges. -/
theorem test_wit_HostCommandsComplete_3 :
    hostUp.HostOpen (portReq (.rdwin 0x3FFF0 4)) 100000
      ∧ hostUp.HostOpen (portReq (.wrwin 0 [1, 2, 3, 4])) 20000
      ∧ hostUp.HostOpen (portReq (.wrwin 0x3FFF0 [1, 2, 3, 4])) 100000
      ∧ hostUp.HostOpen (portReq (.xfer 0 0 0)) 20000 := by decide +kernel

/-- The conditions under which the commands of `Obligations.HostCommandsComplete` reach their blocks, at the ends of their ranges. -/
theorem test_wit_HostCommandsComplete_4 :
    hostUp.HostOpen (portReq (.xfer 63 3 3)) 100000
      ∧ hostUp.HostOpen (portReq .rdown) 20000
      ∧ hostUp.HostOpen (portReq .rdown) 100000
      ∧ (up).Lands Master.core (F.HST_HOSTBELL_BELL.addr + 4 * 1) := by decide +kernel

/-- The conditions under which the commands of `Obligations.HostCommandsComplete` reach their blocks, at the ends of their ranges. -/
theorem test_wit_HostCommandsComplete_5 :
    (up).Lands Master.tunnel (F.HST_HOSTBELL_BELL.addr + 4 * 0)
      ∧ (up).Lands .core F.WIN_XFER_PAGE.addr := by decide +kernel

/-- The conditions under which the commands of `Obligations.DmaCommandsComplete` reach their blocks, at the ends of their ranges. -/
theorem test_wit_DmaCommandsComplete :
    (up).dev.sysRuns = true
      ∧ (up).Lands .core (F.DMA_CTRL_GO 0).addr
      ∧ (up).Lands .core (F.DMA_CTRL_GO 7).addr
      ∧ (up).Lands .core F.DMA_GCTRL_CLEAR.addr := by decide +kernel

/-- The conditions under which the commands of `Obligations.TwoWireCommandsComplete` reach their blocks, at the ends of their ranges. -/
theorem test_wit_TwoWireCommandsComplete :
    (up).dev.sysRuns = true
      ∧ (up).Lands .core (F.TWB_CMD_GO 0).addr
      ∧ (up).Lands .core (F.TWB_CMD_GO 3).addr
      ∧ tgtUp.dev.tgtOn = true := by decide +kernel

/-- The conditions under which the commands of `Obligations.PortCommandsComplete` reach their blocks, at the ends of their ranges. -/
theorem test_wit_PortCommandsComplete :
    (up).dev.rst.cold = false
      ∧ (up).Lands .core F.CPD_CTRL_HARDRST.addr := by decide +kernel

/-- The conditions under which the commands of `Obligations.UpdateCommandsComplete` reach their blocks, at the ends of their ranges. -/
theorem test_wit_UpdateCommandsComplete :
    (up).dev.sysRuns = true
      ∧ (up).Lands .core F.UPD_CTRL_ACTIVATE.addr
      ∧ (up).Lands .core F.UPD_CTRL_HANDOVER.addr
      ∧ (up).Lands Master.core F.UPD_CONFIRM_KEY.addr
      ∧ (up).Lands Master.tunnel F.UPD_CONFIRM_KEY.addr
      ∧ (up).Lands .core F.UPD_CTRL_ABORT.addr
      ∧ (up).Lands Master.core F.SEC_PROG_GO.addr
      ∧ (2 ^ 31).testBit 31 = true
      ∧ (up).Lands Master.tunnel F.SEC_PROG_GO.addr
      ∧ (2 ^ 31 + 1).testBit 31 = true := by decide +kernel

end Sys2Proof.Tests
end

section
/-! SUPPORT. No operation of the machine touches the queue of commands (log entry 1). -/

namespace Sys2Proof.Machine

/-! ### The queue under the operations that need more than the device -/

@[simp] theorem State.sysBoth_pending (f : Dev → Dev × Otp) (s : State) : (s.sysBoth f).pending = s.pending := by
  unfold State.sysBoth; split <;> rfl

/-- An operation on SYS that keeps the queue keeps it as an event of SYS. -/
theorem State.whenSys_pending {f : State → State} (h : ∀ s, (f s).pending = s.pending) (s : State) :
    (s.whenSys f).pending = s.pending := by
  unfold State.whenSys; split
  · exact h s
  · rfl

@[simp] theorem State.lockSet_pending (s : State) (addr : Nat) : (s.lockSet addr).pending = s.pending := by
  unfold State.lockSet; split
  · exact State.regWrite_pending ..
  · rfl

@[simp] theorem State.tunnelIn_pending (s : State) (write : Bool) (a w : Nat) : (s.tunnelIn write a w).pending = s.pending := by
  unfold State.tunnelIn
  dsimp only
  split
  · rfl
  · split
    · exact State.regWrite_pending ..
    · split <;> rfl

/-! ### DMA -/

@[simp] theorem State.dmaWrite_pending (s : State) (a w : Nat) : (s.dmaWrite a w).pending = s.pending := by
  unfold State.dmaWrite; split <;> rfl

@[simp] theorem State.dmaMove_pending (s : State) (c src dst : Nat) : (s.dmaMove c src dst).pending = s.pending := by
  simp [State.dmaMove]

@[simp] theorem State.dmaHang_pending (s : State) (c src dst : Nat) : (s.dmaHang c src dst).pending = s.pending := by
  unfold State.dmaHang; split <;> rfl

@[simp] theorem State.dmaStep_pending (s : State) (c : Nat) : (s.dmaStep c).pending = s.pending := by
  simp [State.dmaStep, apply_ite State.pending]

@[simp] theorem State.dmaRun_pending (c : Nat) : ∀ (n : Nat) (s : State), (s.dmaRun c n).pending = s.pending
  | 0, _ => rfl
  | n + 1, s => (State.dmaRun_pending c n (s.dmaStep c)).trans (s.dmaStep_pending c)

@[simp] theorem State.dmaHalf_pending (s : State) (c : Nat) : (s.dmaHalf c).pending = s.pending := by
  simp [State.dmaHalf, apply_ite State.pending]

@[simp] theorem State.dmaFull_pending (s : State) (c : Nat) : (s.dmaFull c).pending = s.pending := by
  simp [State.dmaFull, apply_ite State.pending]

@[simp] theorem State.dmaProgress_pending (s : State) (c n : Nat) : (s.dmaProgress c n).pending = s.pending := by
  simp [State.dmaProgress, apply_ite State.pending]

@[simp] theorem State.dmaFail_pending (s : State) (addr : Nat) (wr : Bool) (progress : List (Nat × Nat)) :
    (s.dmaFail addr wr progress).pending = s.pending := by
  have moved : ∀ (l : List (Nat × Nat)) (s : State), (l.foldl (fun s x => s.dmaProgress x.1 x.2) s).pending = s.pending := by
    intro l
    induction l with
    | nil => intro s; rfl
    | cons x t ih => intro s; exact (ih _).trans (s.dmaProgress_pending x.1 x.2)
  exact moved progress s

/-! ### Requests of the host port, the service port and the two-wire target -/

@[simp] theorem State.reqDo_pending (s : State) (m : Master) (r : PortReq) : (s.reqDo m r).1.pending = s.pending := by
  unfold State.reqDo; split <;> rfl

@[simp] theorem State.request_pending (s : State) (m : Master) (r : PortReq) (open_ inTime : Bool) :
    (s.request m r open_ inTime).1.pending = s.pending := by
  unfold State.request
  dsimp only
  split
  · rfl
  · split
    · rfl
    · split
      · rfl
      · split
        · rfl
        · simp

@[simp] theorem State.requestEnd_pending (s : State) (m : Master) : (s.requestEnd m).pending = s.pending := by
  unfold State.requestEnd
  split
  · rfl
  · dsimp only
    split
    · rfl
    · split
      · rfl
      · split <;> simp

@[simp] theorem State.hostTxn_pending (s : State) (c : PortCmd) (t : Nat) : (s.hostTxn c t).pending = s.pending := by
  unfold State.hostTxn
  dsimp only
  split
  · rfl
  · split
    · rfl
    · rfl
    · simp

@[simp] theorem State.usbOut_pending (s : State) (c : PortCmd) : (s.usbOut c).pending = s.pending := by
  unfold State.usbOut
  dsimp only
  split
  · rfl
  · split
    · rfl
    · rfl
    · simp

@[simp] theorem State.tgtRequest_pending (s : State) (c : PortCmd) : (s.tgtRequest c).1.pending = s.pending := by
  simp [State.tgtRequest]

@[simp] theorem State.tgtRead_pending (s : State) : s.tgtRead.pending = s.pending := by
  simp [State.tgtRead, apply_ite State.pending]

@[simp] theorem State.tgtWrite_pending (s : State) (w : Nat) (pecOk : Bool) : (s.tgtWrite w pecOk).pending = s.pending := by
  simp [State.tgtWrite, apply_ite State.pending]

@[simp] theorem State.tgtDone_pending (s : State) : s.tgtDone.pending = s.pending := by
  simp [State.tgtDone, apply_ite State.pending]

/-! ### Every command -/

/-- Every command answers a next state with the queue as it was: by what carries the command, a register write, a request of a port, a
transfer of DMA, or, for the rest, an operation on the device, which the queue is no part of. -/
theorem exec_next_pending (i : Instr) (s : State) : ∃ t, exec i s = .next t ∧ t.pending = s.pending := by
  cases i with
  | registerWrite | stickyClear | ackWrite | fwraiseWrite | rstCtrlCold | rstCtrlWarm | watchdogService | rstBlockNv | rstBlockLink
  | rstBlockHost | rstBlockCpd | nvRateWrite | vsetWrite | slewWrite | periodWrite | phdropClear | ovuvWrite | shrVbusWrite
  | capForceWrite | restRequest | newstringWrite | seqReqOn | seqReqOff | failmarkClear | seqMarginWrite | slotUnlock | thmLimitWrite
  | dpxHandover | dpxTake | dpxRejoin | tunnelGo | snpFire | snpRearm | evrFlushnow | evrReadGo | clearGo | evrFwGo | vaultWrite
  | bellWrite | winXfer | dmaGo | dmaStop | dmaResume | dmaClear | twbCmdGo | cpdHardrst | updActivate | updHandover | updConfirm
  | updAbort | secProgGo =>
    exact ⟨_, rfl, State.regWrite_pending ..⟩
  | lockWrite addr => exact ⟨_, rfl, s.lockSet_pending addr⟩
  | marginWrite n w bySeq => exact ⟨_, rfl, by cases bySeq <;> simp⟩
  | slotEnable n => exact ⟨_, rfl, by split <;> simp⟩
  | slotDisable n => exact ⟨_, rfl, by split <;> simp⟩
  | pulseTransferDone j => exact ⟨_, rfl, by split <;> simp⟩
  | hostRdstat | hostRdreg | hostWrreg | hostRdwin | hostWrwin | hostXfer | hostRdown | hostUnknownCommand =>
    exact ⟨_, rfl, State.hostTxn_pending ..⟩
  | hostRequestDone => exact ⟨_, rfl, s.requestEnd_pending .host⟩
  | usbRequestDone => exact ⟨_, rfl, s.requestEnd_pending .usb⟩
  | usbOutTransfer cmd => exact ⟨_, rfl, s.usbOut_pending cmd⟩
  | tgtRegDataRead => exact ⟨_, rfl, s.tgtRead_pending⟩
  | tgtRegDataWrite w pecOk => exact ⟨_, rfl, s.tgtWrite_pending w pecOk⟩
  | tgtRequestDone => exact ⟨_, rfl, s.tgtDone_pending⟩
  | tunnelRequestRx write addr w => exact ⟨_, rfl, s.tunnelIn_pending write addr w⟩
  | dmaHalf ch => exact ⟨_, rfl, State.whenSys_pending (fun s => s.dmaHalf_pending ch) s⟩
  | dmaFull ch => exact ⟨_, rfl, State.whenSys_pending (fun s => s.dmaFull_pending ch) s⟩
  | dmaBusError addr wr progress => exact ⟨_, rfl, State.whenSys_pending (fun s => s.dmaFail_pending addr wr progress) s⟩
  | containerVerified => exact ⟨_, rfl, State.sysBoth_pending ..⟩
  | _ => exact ⟨_, rfl, rfl⟩

/-- Settles O4, from what carries each command. -/
theorem everyCommandKeepsTheQueue : Obligations.EveryCommandKeepsTheQueue := exec_next_pending

end Sys2Proof.Machine
end

section
/-! SUPPORT. A register word field by field (R10 to R12), the Dowels' timers (R136), and what a register write or a change of KILL_N by the
surroundings comes to where it can act. -/

namespace Sys2Proof.Machine

/-! ### A field under its access code -/

section
variable (d : Dev) (g : WriteFlags) (a w : Nat) {r : FldRow}

theorem Dev.fieldWrite_unwritable (h : r.acc = .ro ∨ r.acc = .wo) : Dev.fieldWrite a w (d, g) r = (d, g) := by
  rcases h with h | h <;> simp [Dev.fieldWrite, h]

theorem Dev.fieldWrite_clear (h : r.acc = .w1c ∨ r.acc = .stk) : Dev.fieldWrite a w (d, g) r
    = (d.clrBits (r.at a) (clr (w / 2 ^ r.lo % 2 ^ r.width) (d.freshBits (r.at a).key)), g) := by
  rcases h with h | h <;> simp [Dev.fieldWrite, h]

theorem Dev.fieldWrite_set (h : r.acc = .w1s) :
    Dev.fieldWrite a w (d, g) r = (d.orBits (r.at a) (w / 2 ^ r.lo % 2 ^ r.width), g) := by
  simp [Dev.fieldWrite, h]

/-- A locked field stores nothing; the write of another value is marked. -/
theorem Dev.fieldWrite_locked (h : r.acc = .rwl) (hlock : d.locked a = true) : Dev.fieldWrite a w (d, g) r
    = (d, if d.get (r.at a) = w / 2 ^ r.lo % 2 ^ r.width then g else { g with locked := true }) := by
  simp only [Dev.fieldWrite, h, hlock, if_true]
  split <;> rfl

end

/-- Settles O20, access code by access code. -/
theorem accessCodesActAsTheTableSays : Obligations.AccessCodesActAsTheTableSays := by
  intro d g a w r
  refine ⟨fun h => d.fieldWrite_unwritable g a w h, fun h => ?_, fun h => ?_, fun h hlock => ?_⟩
  · rw [d.fieldWrite_clear g a w h]
    exact d.get_set_same ..
  · rw [d.fieldWrite_set g a w h]
    exact d.get_set_same ..
  · rw [d.fieldWrite_locked g a w h hlock]

/-! ### The state after an event that did something to the device -/

@[simp] theorem State.did_pending (s : State) (f : Dev → Dev) : (s.did f).pending = s.pending := rfl

@[simp] theorem State.did_otp (s : State) (f : Dev → Dev) : (s.did f).otp = s.otp := rfl

@[simp] theorem State.did_dev (s : State) (f : Dev → Dev) : (s.did f).dev = f s.dev := rfl

theorem State.did_congr {s : State} {f g : Dev → Dev} (h : f s.dev = g s.dev) : s.did f = s.did g := by
  simp only [State.did, h]

theorem State.looped_congr {s : State} {f g : Dev → Dev} (h : f s.dev = g s.dev) : s.looped f = s.looped g := by
  simp only [State.looped, h]

/-- An event of LOOP while LOOP runs, as the statements write it. -/
theorem State.loopDo_looped {s : State} (h : s.dev.loopRuns = true) (f : Dev → Dev) : s.loopDo f = s.looped f := s.loopDo_runs f h

/-- An event of SYS while SYS runs. -/
theorem State.sysDo_did {s : State} (h : s.dev.sysRuns = true) (f : Dev → Dev) : s.sysDo f = s.did f := s.sysDo_runs f h

/-- An event of the service port out of a cold reset. -/
theorem State.pdDo_did {s : State} (h : s.dev.rst.cold = false) (f : Dev → Dev) : s.pdDo f = s.did f := s.pdDo_runs f h

/-! ### Dowels -/

/-- The configuration found for a Dowel names it. -/
theorem Dev.dowelCfg_dowel {d : Dev} {k : Nat} {c : DowelCfg} (h : d.dowelCfg k = some c) : c.dowel = k := by
  simpa using List.find?_some h

/-- The end of the window of a configured Dowel's timer does what its mode says. -/
theorem Dev.dowelExpiry_due {d : Dev} {k : Nat} {c : DowelCfg} (hcfg : d.dowelCfg k = some c)
    (hdue : due (d.dowel k).deadline d.loop = true) : d.dowelExpiry k = d.dowelDone c := by
  simp [Dev.dowelExpiry, hcfg, hdue]

theorem Dev.dowelExpiry_early {d : Dev} {k : Nat} (h : d.dowelCfg k = none ∨ due (d.dowel k).deadline d.loop = false) :
    d.dowelExpiry k = d := by
  unfold Dev.dowelExpiry
  rcases h with h | h
  · rw [h]
  · rw [h]
    split <;> rfl

/-- The end of a Dowel's window as an event of LOOP. -/
theorem exec_dowelTimerExpiry {s : State} {k : Fin 256} {f : Dev → Dev} (hloop : s.dev.loopRuns = true)
    (h : s.dev.dowelExpiry k = f s.dev) : exec (.dowelTimerExpiry k) s = .next (s.looped f) :=
  congrArg Host.Outcome.next ((State.loopDo_looped hloop _).trans (State.looped_congr h))

/-- Settles O39, by whether the timer is due and by its mode. -/
theorem onDelayRaisesItsDowelWhenDue : Obligations.OnDelayRaisesItsDowelWhenDue := by
  intro s k c hloop
  refine ⟨fun hcfg hdue hmode => ?_, fun hcfg hdue hmode => ?_, fun h => ?_⟩
  · refine exec_dowelTimerExpiry hloop ?_
    rw [Dev.dowelExpiry_due hcfg hdue]
    simp [Dev.dowelDone, hmode, Dev.dowelCfg_dowel hcfg]
  · refine exec_dowelTimerExpiry hloop ?_
    rw [Dev.dowelExpiry_due hcfg hdue]
    rcases hmode with hmode | hmode <;> simp [Dev.dowelDone, hmode, Dev.dowelCfg_dowel hcfg]
  · exact exec_dowelTimerExpiry hloop (Dev.dowelExpiry_early h)

/-! ### Writes to PRO -/

/-- A write of PRO's region that gets there goes to PRO: no other block's behaviour, and no enable that waits for READY, lies there. -/
theorem Dev.loopWrite_pro (d : Dev) {a : Nat} (w : Nat) (hreg : regionOf a = 14) (hrow : (rowAt a).isSome = true) :
    d.loopWrite a w = d.proBus a w := by
  have hcfg : d.configured a = true := by simp [Dev.configured, hreg]
  have hgo : d.goBlocked a w = false := by simp [Dev.goBlocked, hreg, readyOf, goMask]
  have hnone : (rowAt a).isNone = false := by simpa using hrow
  simp [Dev.loopWrite, hnone, hcfg, hgo, hreg]

/-- A write to word `j` of PRO's region that its block takes at once is that block's. -/
theorem State.regWrite_pro {s : State} {a w : Nat} {f : Dev → Dev} (j : Nat) (hj : j < 0x4000) (ha : a = 0xE0000 + 4 * j)
    (hrow : (rowAt a).isSome = true) (hf : ∀ d : Dev, d.proBus a w = f d) (h : s.Takes a w) : s.regWrite .core a w = s.did f := by
  have hreg : regionOf a = 14 := by unfold regionOf; omega
  have hword : wordAddr a = a := by unfold wordAddr; omega
  have hloop : loopRegion (regionOf a) = true := by rw [hreg]; rfl
  rw [State.regWrite_loop s a w hloop hword (by omega) h]
  exact State.did_congr ((s.dev.loopWrite_pro w hreg hrow).trans (hf s.dev))

theorem rowAt_sticky : ∀ k : Fin 24, (rowAt (F.PRO_STICKY_STICKY k).addr).isSome = true := by decide +kernel

theorem rowAt_ack : ∀ k : Fin 24, (rowAt (F.PRO_ACK_ACK k).addr).isSome = true := by decide +kernel

theorem rowAt_fwraise : ∀ hi : Bool, (rowAt (F.PRO_FWRAISE0_RAISE.addr + 4 * hi.toNat)).isSome = true := by decide +kernel

theorem Dev.proBus_sticky (d : Dev) (k : Fin 24) (w : Nat) : d.proBus (F.PRO_STICKY_STICKY k).addr w = d.stickyClear k w := by
  have hk : 0xE0100 + 4 * (k : Nat) < 0xE0160 := by omega
  simp [Dev.proBus, F.PRO_STICKY_STICKY, hk]

theorem Dev.proBus_ack (d : Dev) (k : Fin 24) (w : Nat) : d.proBus (F.PRO_ACK_ACK k).addr w = d.ackWrite k w := by
  have hk : 0xE0200 + 4 * (k : Nat) < 0xE0260 := by omega
  have hs : ¬ 0xE0200 + 4 * (k : Nat) < 0xE0160 := by omega
  simp [Dev.proBus, F.PRO_ACK_ACK, hk, hs]

theorem Dev.proBus_fwraise (d : Dev) (hi : Bool) (w : Nat) :
    d.proBus (F.PRO_FWRAISE0_RAISE.addr + 4 * hi.toNat) w = d.fwRaise hi w := by
  cases hi <;> rfl

/-- A W1C write of PRO.k.STICKY that is taken at once. -/
theorem exec_stickyClear {s : State} {k : Fin 24} {mask : Nat} (h : s.Takes (F.PRO_STICKY_STICKY k).addr mask) :
    exec (.stickyClear k mask) s = .next (s.did (fun d => d.stickyClear k mask)) := by
  have ha : (F.PRO_STICKY_STICKY k).addr = 0xE0000 + 4 * (0x40 + (k : Nat)) := by simp only [F.PRO_STICKY_STICKY]; omega
  exact congrArg Host.Outcome.next (State.regWrite_pro _ (by omega) ha (rowAt_sticky k) (fun d => d.proBus_sticky k mask) h)

/-- A write of PRO.k.ACK that is taken at once. -/
theorem exec_ackWrite {s : State} {k : Fin 24} {mask : Nat} (h : s.Takes (F.PRO_ACK_ACK k).addr mask) :
    exec (.ackWrite k mask) s = .next (s.did (fun d => d.ackWrite k mask)) := by
  have ha : (F.PRO_ACK_ACK k).addr = 0xE0000 + 4 * (0x80 + (k : Nat)) := by simp only [F.PRO_ACK_ACK]; omega
  exact congrArg Host.Outcome.next (State.regWrite_pro _ (by omega) ha (rowAt_ack k) (fun d => d.proBus_ack k mask) h)

/-- A write of PRO.FWRAISE0 or PRO.FWRAISE1 that is taken at once. -/
theorem exec_fwraiseWrite {s : State} {hi : Bool} {mask : Nat} (h : s.Takes (F.PRO_FWRAISE0_RAISE.addr + 4 * hi.toNat) mask) :
    exec (.fwraiseWrite hi mask) s = .next (s.did (fun d => d.fwRaise hi mask)) := by
  have ha : F.PRO_FWRAISE0_RAISE.addr + 4 * hi.toNat = 0xE0000 + 4 * (4 + hi.toNat) := by simp only [F.PRO_FWRAISE0_RAISE]; omega
  have hj : 4 + hi.toNat < 0x4000 := by have := Bool.toNat_le hi; omega
  exact congrArg Host.Outcome.next (State.regWrite_pro _ hj ha (rowAt_fwraise hi) (fun d => d.proBus_fwraise hi mask) h)

/-! ### Register writes wherever they land -/

/-- A register write that lands does what the bus does. -/
theorem State.regWrite_landed {s : State} {m : Master} {a : Nat} (w : Nat) (h : s.Lands m a) : s.regWrite m a w = s.landed m a w := by
  obtain ⟨hruns, hmay, hhangs⟩ := h
  exact s.regWrite_lands m a w hruns hmay hhangs

/-- Settles O41, each command by what carries it. -/
theorem registerAndFaultCommandsComplete : Obligations.RegisterAndFaultCommandsComplete := by
  intro s
  refine ⟨fun addr f hlock h => ?_, fun m addr w h => congrArg Host.Outcome.next (State.regWrite_landed w h),
    fun k mask h => exec_stickyClear h, fun k mask h => exec_ackWrite h, fun hi mask h => exec_fwraiseWrite h,
    fun low h => congrArg Host.Outcome.next (State.pdDo_did h _)⟩
  have lock : s.lockSet addr = s.regWrite .core f.addr (s.dev.wordWith f 1) := by simp [State.lockSet, hlock]
  exact congrArg Host.Outcome.next (lock.trans (State.regWrite_landed _ h))

/-! ### What a clear leaves (R334, R335) -/

theorem Dev.sameRaised_modSlot (d : Dev) (n : Nat) (g : Slot → Slot) : d.SameRaised (d.modSlot n g) := .refl _

theorem Dev.sameRaised_setB (d : Dev) (f : Fld) (b : Bool) : d.SameRaised (d.setB f b) := .refl _

theorem Dev.sameRaised_slotGo (d : Dev) (n : Nat) (st : SState) : d.SameRaised (d.slotGo n st) := by
  unfold Dev.slotGo
  exact ((d.sameRaised_modSlot ..).trans (Dev.sameRaised_set ..)).trans (Dev.sameRaised_setB ..)

theorem Dev.sameRaised_benchRelease (n : Nat) (d : Dev) : d.SameRaised (d.benchRelease n) := by
  unfold Dev.benchRelease
  exact .ite (d.sameRaised_benchRest ..) (.refl _)

theorem Dev.sameRaised_slotRelease (n : Nat) (d : Dev) : d.SameRaised (d.slotRelease n) := by
  unfold Dev.slotRelease
  exact .ite (.ite (d.sameRaised_slotGo ..) (.ite (d.sameRaised_slotGo ..)
    ((d.sameRaised_modSlot ..).trans (Dev.sameRaised_slotGo ..)))) (.refl _)

/-- What no source holds any more is let go without a change of the raised sources, the configuration, the time or the memories. -/
theorem Dev.sameRaised_releaseAll (d : Dev) : d.SameRaised d.releaseAll :=
  (Dev.SameRaised.each _ Dev.sameRaised_benchRelease _ _).trans (Dev.SameRaised.each _ Dev.sameRaised_slotRelease _ _)

theorem Dev.sameRaised_slotOnward (n : Nat) (d : Dev) : d.SameRaised (d.slotOnward n) := by
  have check : d.SameRaised ((d.slotGo n .check).setB (F.HSW_STATUS_RETRYWAIT n) false) :=
    (d.sameRaised_slotGo ..).trans (Dev.sameRaised_setB ..)
  unfold Dev.slotOnward
  exact .ite (.refl _) (.ite (d.sameRaised_slotGo ..) (.ite ((d.sameRaised_modSlot ..).trans (Dev.sameRaised_slotGo ..))
    (.ite ((d.sameRaised_slotGo ..).trans (Dev.sameRaised_setB ..))
      (.ite (.ite (d.sameRaised_setB ..) (check.trans (Dev.sameRaised_modSlot ..))) (.refl _)))))

theorem Dev.sameRaised_alertFell (d : Dev) : d.SameRaised d.alertFell := .ite (.refl _) (.refl _)

/-- Whether a clear of the sources of register `k` named in `w` takes a source away: it is named, hardware did not raise it in this SYS
cycle, and its cause is gone (R11, R334). -/
def Dev.clears (d : Dev) (k w src : Nat) : Bool :=
  src / 32 == k && w.testBit (src % 32) && !d.freshSrc.contains src && !d.causeNow src

/-- Taking out of a list the sources that `p` picks from it is picking by `p`. -/
theorem filter_not_picked (l : List Raised) (p : Nat → Bool) :
    l.filter (fun x => !((l.filter (fun y => p y.src)).map (·.src)).contains x.src) = l.filter (fun x => !p x.src) := by
  refine List.filter_congr fun x hx => congrArg not ?_
  rw [Bool.eq_iff_iff]
  simp only [List.contains_iff_mem, List.mem_map, List.mem_filter]
  exact ⟨fun ⟨y, hy, hsrc⟩ => hsrc ▸ hy.2, fun h => ⟨x, ⟨hx, h⟩, rfl⟩⟩

/-- A clear takes away the sources that it clears and leaves the configuration, the LOOP counter and the memories. -/
theorem Dev.stickyClear_kept (d : Dev) (k w : Nat) :
    (d.stickyClear k w).raised = d.raised.filter (fun x => !d.clears k w x.src) ∧ (d.stickyClear k w).cfg = d.cfg
      ∧ (d.stickyClear k w).loop = d.loop ∧ (d.stickyClear k w).mem = d.mem := by
  unfold Dev.stickyClear
  extract_lets named refused gone d1 d2 d3 d4 d5
  have hgone : gone = (d.raised.filter (fun x => d.clears k w x.src)).map (·.src) := by
    simp only [gone, named, List.filter_filter, Dev.clears]
    refine congrArg _ (List.filter_congr fun x _ => ?_)
    ac_rfl
  have hraised : d1.raised = d.raised.filter (fun x => !d.clears k w x.src) := by
    simp only [d1, hgone]
    exact filter_not_picked _ (d.clears k w)
  have hnoted : d2.SameRaised d3 := Dev.SameRaised.ite (.refl _) (d2.sameRaised_note _ _ _ _)
  have hsafe : d4.raised = d3.raised ∧ d4.cfg = d3.cfg ∧ d4.loop = d3.loop ∧ d4.mem = d3.mem := by
    simp only [d4]
    split <;> exact ⟨rfl, rfl, rfl, rfl⟩
  have hlet : d4.SameRaised (Dev.each (List.range 16) (fun n d => d.slotOnward n) d5).alertFell :=
    ((d4.sameRaised_releaseAll).trans (Dev.SameRaised.each _ Dev.sameRaised_slotOnward _ _)).trans (Dev.sameRaised_alertFell _)
  obtain ⟨nRaised, nCfg, nLoop, -, -, -, nMem, -⟩ := hnoted
  obtain ⟨sRaised, sCfg, sLoop, sMem⟩ := hsafe
  obtain ⟨lRaised, lCfg, lLoop, -, -, -, lMem, -⟩ := hlet
  exact ⟨lRaised.trans (sRaised.trans (nRaised.trans hraised)), lCfg.trans (sCfg.trans nCfg), lLoop.trans (sLoop.trans nLoop),
    lMem.trans (sMem.trans nMem)⟩

/-- Settles O13, by what a clear that is taken at once leaves of the device. -/
theorem stickyClearTakesOnlyGoneCauses : Obligations.StickyClearTakesOnlyGoneCauses := by
  intro s k mask h
  obtain ⟨hraised, hcfg, hloop, hmem⟩ := s.dev.stickyClear_kept k mask
  exact ⟨_, exec_stickyClear h, s.did_pending _, s.did_otp _, hcfg, hloop, hmem, hraised⟩

end Sys2Proof.Machine
end

section
/-! SUPPORT. What a tick leaves as it was (R16, log entry 2): the time and the LOOP counter as the tick set them, the configuration, and
that no item of the partner has come due. -/

namespace Sys2Proof.Machine

/-- The items of the partner whose use tick has come (R359). -/
def Dev.dueItems (d : Dev) : List (Nat × PeerItem) := d.dpx.items.filter (fun i => decide (i.1 ≤ d.loop))

/-- What the blocks leave alone as they step: the time, the LOOP counter, the configuration and the partner's items that are due. An item
that a block queues for a later tick is none of them. -/
def Dev.timeline (d : Dev) : Nat × Nat × Content × List (Nat × PeerItem) := (d.now, d.loop, d.cfg, d.dueItems)

/-! ### How the timeline is followed through an operation -/

theorem Dev.SameRaised.timeline {d e : Dev} (h : d.SameRaised e) : e.timeline = d.timeline := by
  obtain ⟨-, hcfg, hloop, -, hnow, -, -, -, -, hdpx⟩ := h
  simp only [Dev.timeline, Dev.dueItems, hcfg, hloop, hnow, hdpx]

/-- A step done for each item of a list keeps the timeline if each of its steps does. -/
@[simp] theorem Dev.timeline_each {α : Type} {f : α → Dev → Dev} (h : ∀ a d, (f a d).timeline = d.timeline) :
    ∀ (l : List α) (d : Dev), (Dev.each l f d).timeline = d.timeline
  | [], _ => rfl
  | a :: t, d => (Dev.timeline_each h t (f a d)).trans (h a d)

@[simp] theorem Dev.timeline_ite {c : Prop} [Decidable c] (a b : Dev) :
    (if c then a else b).timeline = if c then a.timeline else b.timeline := apply_ite ..

@[simp] theorem Dev.timeline_when (d : Dev) (b : Bool) {f : Dev → Dev} (h : ∀ d, (f d).timeline = d.timeline) :
    (Dev.when b f d).timeline = d.timeline := by
  cases b
  · rfl
  · exact h d

/-! ### The parts of the device that are no part of it -/

section
variable (d : Dev)

@[simp] theorem Dev.timeline_set (f : Fld) (v : Nat) : (d.set f v).timeline = d.timeline := (rfl)
@[simp] theorem Dev.timeline_setB (f : Fld) (b : Bool) : (d.setB f b).timeline = d.timeline := (rfl)
@[simp] theorem Dev.timeline_setS (f : Fld) (i : Int) : (d.setS f i).timeline = d.timeline := (rfl)
@[simp] theorem Dev.timeline_inc (f : Fld) : (d.inc f).timeline = d.timeline := (rfl)
@[simp] theorem Dev.timeline_incMod (f : Fld) : (d.incMod f).timeline = d.timeline := (rfl)
@[simp] theorem Dev.timeline_setBit (f : Fld) (i : Nat) (b : Bool) : (d.setBit f i b).timeline = d.timeline :=
  (d.sameRaised_setBit f i b).timeline
@[simp] theorem Dev.timeline_stick (f : Fld) (m : Nat) : (d.stick f m).timeline = d.timeline := (rfl)
@[simp] theorem Dev.timeline_upsetAt (a b : Nat) : (d.upsetAt a b).timeline = d.timeline := (rfl)
@[simp] theorem Dev.timeline_modBench (n : Nat) (f : Bench → Bench) : (d.modBench n f).timeline = d.timeline := (rfl)
@[simp] theorem Dev.timeline_modChan (n : Nat) (f : Chan → Chan) : (d.modChan n f).timeline = d.timeline := (rfl)
@[simp] theorem Dev.timeline_modMon (n : Nat) (f : MonIn → MonIn) : (d.modMon n f).timeline = d.timeline := (rfl)
@[simp] theorem Dev.timeline_modSlot (n : Nat) (f : Slot → Slot) : (d.modSlot n f).timeline = d.timeline := (rfl)
@[simp] theorem Dev.timeline_modGroup (n : Nat) (f : Group → Group) : (d.modGroup n f).timeline = d.timeline := (rfl)
@[simp] theorem Dev.timeline_modRail (n : Nat) (f : RailSt → RailSt) : (d.modRail n f).timeline = d.timeline := (rfl)
@[simp] theorem Dev.timeline_modBus (n : Nat) (f : TwBus → TwBus) : (d.modBus n f).timeline = d.timeline := (rfl)
@[simp] theorem Dev.timeline_modEng (f : Eng → Eng) : (d.modEng f).timeline = d.timeline := (rfl)
@[simp] theorem Dev.timeline_modLand (g : Nat) (f : LandSt → LandSt) : (d.modLand g f).timeline = d.timeline := (rfl)
@[simp] theorem Dev.timeline_modEvr (f : Evr → Evr) : (d.modEvr f).timeline = d.timeline := (rfl)
@[simp] theorem Dev.timeline_modUpd (f : Upd → Upd) : (d.modUpd f).timeline = d.timeline := (rfl)
@[simp] theorem Dev.timeline_modDowel (k : Nat) (f : DowelSt → DowelSt) : (d.modDowel k f).timeline = d.timeline := (rfl)
/-- A change of DPX's state that leaves the partner's items. -/
@[simp] theorem Dev.timeline_modDpx {f : Dpx → Dpx} (h : ∀ x, (f x).items = x.items) : (d.modDpx f).timeline = d.timeline := by
  have items : (d.modDpx f).dpx.items = d.dpx.items := h d.dpx
  simp only [Dev.timeline, Dev.dueItems, items]
  rfl
@[simp] theorem Dev.timeline_flushNow : d.flushNow.timeline = d.timeline := (rfl)
@[simp] theorem Dev.timeline_vaultPut (w : VWrite) : (d.vaultPut w).timeline = d.timeline := (rfl)
@[simp] theorem Dev.timeline_setTx (p : Nat) (x : TxPort) : (d.setTx p x).timeline = d.timeline := (rfl)
@[simp] theorem Dev.timeline_note (k a w v : Nat) : (d.note k a w v).timeline = d.timeline := (d.sameRaised_note k a w v).timeline
@[simp] theorem Dev.timeline_record (y f t : Nat) (p : List Nat) : (d.record y f t p).timeline = d.timeline :=
  (d.sameRaised_admit y f t p).timeline
@[simp] theorem Dev.timeline_vault (v : Vault) : ({ d with vault := v } : Dev).timeline = d.timeline := (rfl)
@[simp] theorem Dev.timeline_evr (v : Evr) : ({ d with evr := v } : Dev).timeline = d.timeline := (rfl)
@[simp] theorem Dev.timeline_snap (v : Snap) : ({ d with snap := v } : Dev).timeline = d.timeline := (rfl)
@[simp] theorem Dev.timeline_out (v : List Out) : ({ d with out := v } : Dev).timeline = d.timeline := (rfl)
@[simp] theorem Dev.timeline_freshSrc (v : List Nat) : ({ d with freshSrc := v } : Dev).timeline = d.timeline := (rfl)
@[simp] theorem Dev.timeline_alertX (v : LevelX) : ({ d with alertX := v } : Dev).timeline = d.timeline := (rfl)
@[simp] theorem Dev.timeline_free (v : Nat) : ({ d with free := v } : Dev).timeline = d.timeline := (rfl)
@[simp] theorem Dev.timeline_lanes (v : LaneSched) : ({ d with lanes := v } : Dev).timeline = d.timeline := (rfl)
@[simp] theorem Dev.timeline_cap (v : Cap) : ({ d with cap := v } : Dev).timeline = d.timeline := (rfl)
@[simp] theorem Dev.timeline_rst (v : RstSt) : ({ d with rst := v } : Dev).timeline = d.timeline := (rfl)
@[simp] theorem Dev.timeline_mem (v : List Host.Cell) : ({ d with mem := v } : Dev).timeline = d.timeline := (rfl)
@[simp] theorem Dev.timeline_wbuf (v : List (Nat × Nat)) : ({ d with wbuf := v } : Dev).timeline = d.timeline := (rfl)
@[simp] theorem Dev.timeline_rects (v : Vector Rect 24) : ({ d with rects := v } : Dev).timeline = d.timeline := (rfl)
@[simp] theorem Dev.timeline_tim (t : Nat) (v : TimSt) : ({ d with tim := t, timSt := v } : Dev).timeline = d.timeline := (rfl)

/-! ### Forces, Clamps and frames, by the laws of the fault collection -/

@[simp] theorem Dev.timeline_clampOwn (c t : Nat) : (d.clampOwn c t).timeline = d.timeline := (d.sameRaised_clampOwn c t).timeline
@[simp] theorem Dev.timeline_seqEnds (n : Nat) : (d.seqEnds n).timeline = d.timeline := (d.sameRaised_seqEnds n).timeline
@[simp] theorem Dev.timeline_slotForce (n : Nat) : (d.slotForce n).timeline = d.timeline := (d.sameRaised_slotForce n).timeline
@[simp] theorem Dev.timeline_forceFor (s : Nat) (c : Cls) : (d.forceFor s c).timeline = d.timeline := (d.sameRaised_forceFor s c).timeline
@[simp] theorem Dev.timeline_raiseClamp (e : FaultEntry) (c : Cls) : (d.raiseClamp e c).timeline = d.timeline :=
  (d.sameRaised_raiseClamp e c).timeline
@[simp] theorem Dev.timeline_liftActs (x : Raised) (c : Cls) : (d.liftActs x c).timeline = d.timeline :=
  (d.sameRaised_liftActs x c).timeline
@[simp] theorem Dev.timeline_benchRest (n : Nat) (st : BState) (c : Cond) : (d.benchRest n st c).timeline = d.timeline :=
  (d.sameRaised_benchRest n st c).timeline
@[simp] theorem Dev.timeline_lastFault (n s c : Nat) : (d.lastFault n s c).timeline = d.timeline := (d.sameRaised_lastFault n s c).timeline
@[simp] theorem Dev.timeline_lastFaultMeet (n s c : Nat) : (d.lastFaultMeet n s c).timeline = d.timeline :=
  (d.sameRaised_lastFaultMeet n s c).timeline
@[simp] theorem Dev.timeline_sendFrom (src dst : Nat) (l : List Nat) (typ : Nat) (o : Out) :
    (d.sendFrom src dst l typ o).timeline = d.timeline :=
  (d.sameRaised_sendFrom src dst l typ o).timeline
@[simp] theorem Dev.timeline_slotGo (n : Nat) (st : SState) : (d.slotGo n st).timeline = d.timeline := (rfl)
@[simp] theorem Dev.timeline_benchQuiet (n : Nat) : (d.benchQuiet n).timeline = d.timeline := (rfl)

/-! ### READY, the ports, Clamps and first failures -/

@[simp] theorem Dev.timeline_readyFall (k : Nat) : (d.readyFall k).timeline = d.timeline := by simp [Dev.readyFall]
@[simp] theorem Dev.timeline_readyDrop (l : List Nat) : (d.readyDrop l).timeline = d.timeline := by simp [Dev.readyDrop]
@[simp] theorem Dev.timeline_readyOn (k : Nat) : (d.readyOn k).timeline = d.timeline := by simp [Dev.readyOn]
@[simp] theorem Dev.timeline_txPort (p : Nat) : (d.txPort p).timeline = d.timeline := by
  unfold Dev.txPort
  split
  · rfl
  · dsimp only
    split <;> simp
@[simp] theorem Dev.timeline_txTick : d.txTick.timeline = d.timeline := by simp [Dev.txTick]
@[simp] theorem Dev.timeline_send (typ : Nat) (b : List Nat) : (d.send typ b).timeline = d.timeline := by
  simp [Dev.send, Dev.sendOn]
@[simp] theorem Dev.timeline_clampTrips : d.clampTrips.timeline = d.timeline := by simp [Dev.clampTrips]
@[simp] theorem Dev.timeline_firstFailSync : d.firstFailSync.timeline = d.timeline := by
  unfold Dev.firstFailSync
  split <;> simp
@[simp] theorem Dev.timeline_firstFailWrite (b : List Nat) : (d.firstFailWrite b).timeline = d.timeline := by simp [Dev.firstFailWrite]

/-! ### A source raised (R321, R333) -/

@[simp] theorem Dev.timeline_raiseMark (s : Nat) (b : Cls) : (d.raiseMark s b).timeline = d.timeline := (rfl)
@[simp] theorem Dev.timeline_faultRecord (s : Nat) (b e : Cls) (tag : Nat) : (d.faultRecord s b e tag).timeline = d.timeline := by
  simp [Dev.faultRecord]
@[simp] theorem Dev.timeline_raiseOne (s : Nat) : (d.raiseOne s).timeline = d.timeline := by
  unfold Dev.raiseOne
  split
  · rfl
  · simp
@[simp] theorem Dev.timeline_ovArmed : ∀ (k : Nat) (d : Dev), (Dev.ovArmed k d).timeline = d.timeline
  | 0, _ => rfl
  | k + 1, d => by
    have ih := Dev.timeline_ovArmed k
    simp [Dev.ovArmed, ih]
@[simp] theorem Dev.timeline_raise (s : Nat) : (d.raise s).timeline = d.timeline := by simp [Dev.raise]
@[simp] theorem Dev.timeline_raiseAll (l : List Nat) : (d.raiseAll l).timeline = d.timeline := by simp [Dev.raiseAll]
@[simp] theorem Dev.timeline_xsum (k : Nat) : (d.xsum k).timeline = d.timeline := by simp [Dev.xsum]
@[simp] theorem Dev.timeline_alertTick : d.alertTick.timeline = d.timeline := by simp [Dev.alertTick]

/-! ### Benches -/

@[simp] theorem Dev.timeline_showPhases (n : Nat) : (d.showPhases n).timeline = d.timeline := by simp [Dev.showPhases]
@[simp] theorem Dev.timeline_showRamp (n : Nat) : (d.showRamp n).timeline = d.timeline := by simp [Dev.showRamp]
@[simp] theorem Dev.timeline_setWin (i lo hi : Nat) : (d.setWin i lo hi).timeline = d.timeline := by simp [Dev.setWin]
@[simp] theorem Dev.timeline_feedbackWin (n : Nat) : (d.feedbackWin n).timeline = d.timeline := by simp [Dev.feedbackWin]
@[simp] theorem Dev.timeline_armUvp (n : Nat) : (d.armUvp n).timeline = d.timeline := by simp [Dev.armUvp]
@[simp] theorem Dev.timeline_stopZ (n : Nat) : (d.stopZ n).timeline = d.timeline := by simp [Dev.stopZ]
@[simp] theorem Dev.timeline_stopNow (n : Nat) : (d.stopNow n).timeline = d.timeline := by simp [Dev.stopNow]
@[simp] theorem Dev.timeline_prestartFail (n result phase : Nat) : (d.prestartFail n result phase).timeline = d.timeline := by
  simp [Dev.prestartFail]
@[simp] theorem Dev.timeline_prestartJudge (n : Nat) : (d.prestartJudge n).timeline = d.timeline := by
  unfold Dev.prestartJudge
  dsimp only
  split
  · rfl
  · split
    · simp
    · split <;> simp
@[simp] theorem Dev.timeline_regEnter (n : Nat) : (d.regEnter n).timeline = d.timeline := by simp [Dev.regEnter]
@[simp] theorem Dev.timeline_nlEnd (n : Nat) : (d.nlEnd n).timeline = d.timeline := by simp [Dev.nlEnd]
@[simp] theorem Dev.timeline_nlBound : d.nlBound.timeline = d.timeline := by simp [Dev.nlBound]
@[simp] theorem Dev.timeline_closeWindow (n : Nat) : (d.closeWindow n).timeline = d.timeline := by simp [Dev.closeWindow]
@[simp] theorem Dev.timeline_openWindow (n : Nat) : (d.openWindow n).timeline = d.timeline := by simp [Dev.openWindow]
@[simp] theorem Dev.timeline_dropRuns (n : Nat) : (d.dropRuns n).timeline = d.timeline := by simp [Dev.dropRuns]
@[simp] theorem Dev.timeline_dropPhases (n : Nat) : (d.dropPhases n).timeline = d.timeline := by simp [Dev.dropPhases]
@[simp] theorem Dev.timeline_publish (n : Nat) (limit : Rat × Nat) (limiting : Bool) : (d.publish n limit limiting).timeline = d.timeline := by
  simp [Dev.publish]
@[simp] theorem Dev.timeline_updateRaises (n before : Nat) : (d.updateRaises n before).timeline = d.timeline := by simp [Dev.updateRaises]
@[simp] theorem Dev.timeline_benchCompute (n : Nat) : (d.benchCompute n).timeline = d.timeline := by
  unfold Dev.benchCompute
  simp only [Dev.timeline_updateRaises, Dev.timeline_ite, Dev.timeline_regEnter, Dev.timeline_showRamp, Dev.timeline_feedbackWin,
    Dev.timeline_publish, Dev.timeline_openWindow, Dev.timeline_free, Dev.timeline_modBench, Dev.timeline_dropPhases,
    Dev.timeline_dropRuns, Dev.timeline_closeWindow, ite_self]
@[simp] theorem Dev.timeline_benchUpdate (n : Nat) : (d.benchUpdate n).timeline = d.timeline := by simp [Dev.benchUpdate]
@[simp] theorem Dev.timeline_limtime (n : Nat) : (d.limtime n).timeline = d.timeline := by
  unfold Dev.limtime
  split <;> simp
@[simp] theorem Dev.timeline_benchStop (n : Nat) : (d.benchStop n).timeline = d.timeline := by simp [Dev.benchStop]

/-! ### Slots and their Kerf lanes -/

@[simp] theorem Dev.timeline_slotOnward (n : Nat) : (d.slotOnward n).timeline = d.timeline := by simp [Dev.slotOnward]
@[simp] theorem Dev.timeline_slotSeated (n : Nat) : (d.slotSeated n).timeline = d.timeline := by simp [Dev.slotSeated]
@[simp] theorem Dev.timeline_slotDisable (n : Nat) : (d.slotDisable n).timeline = d.timeline := by simp [Dev.slotDisable]
@[simp] theorem Dev.timeline_capTripped (n : Nat) : (d.capTripped n).timeline = d.timeline := by
  unfold Dev.capTripped
  split <;> simp
@[simp] theorem Dev.timeline_slotTrip (n k : Nat) : (d.slotTrip n k).timeline = d.timeline := by simp [Dev.slotTrip]
@[simp] theorem Dev.timeline_slotLock (n k : Nat) : (d.slotLock n k).timeline = d.timeline := by simp [Dev.slotLock]
@[simp] theorem Dev.timeline_showLanes (n : Nat) : (d.showLanes n).timeline = d.timeline := by simp [Dev.showLanes]
@[simp] theorem Dev.timeline_kerfTake (n : Nat) : (d.kerfTake n).timeline = d.timeline := by simp [Dev.kerfTake]
@[simp] theorem Dev.timeline_kerfLater (n : Nat) : (d.kerfLater n).timeline = d.timeline := by
  unfold Dev.kerfLater
  split
  · simp [Dev.timeline, Dev.dueItems]
  · exact d.timeline_kerfTake n
@[simp] theorem Dev.timeline_kerfSeen (n : Nat) : (d.kerfSeen n).timeline = d.timeline := by simp [Dev.kerfSeen]
@[simp] theorem Dev.timeline_laneFail (n i : Nat) : (d.laneFail n i).timeline = d.timeline := by simp [Dev.laneFail]
@[simp] theorem Dev.timeline_laneTick : d.laneTick.timeline = d.timeline := by
  unfold Dev.laneTick
  split
  · rfl
  · simp
@[simp] theorem Dev.timeline_kerfTick : d.kerfTick.timeline = d.timeline := by simp [Dev.kerfTick]
@[simp] theorem Dev.timeline_shed (n : Nat) (by_ : ShedBy) : (d.shed n by_).timeline = d.timeline := by simp [Dev.shed]

/-! ### Two-wire buses and rails -/

@[simp] theorem Dev.timeline_showBus (x : Nat) : (d.showBus x).timeline = d.timeline := by simp [Dev.showBus]
@[simp] theorem Dev.timeline_voutRetry (r : Nat) : (d.voutRetry r).timeline = d.timeline := by simp [Dev.voutRetry]
@[simp] theorem Dev.timeline_voutSent (t : Txn) : (d.voutSent t).timeline = d.timeline := by
  unfold Dev.voutSent
  split <;> simp
@[simp] theorem Dev.timeline_voutLost (t : Txn) : (d.voutLost t).timeline = d.timeline := by
  unfold Dev.voutLost
  split <;> simp
@[simp] theorem Dev.timeline_twbPut (x : Nat) (t : Txn) : (d.twbPut x t).timeline = d.timeline := by
  unfold Dev.twbPut
  split
  · simp
  · split
    · split <;> simp
    · simp
@[simp] theorem Dev.timeline_railReport (r : Nat) (old st : RState) : (d.railReport r old st).timeline = d.timeline := by
  simp [Dev.railReport]
@[simp] theorem Dev.timeline_railGo (r : Nat) (st : RState) : (d.railGo r st).timeline = d.timeline := by simp [Dev.railGo]
@[simp] theorem Dev.timeline_railDown (r reason : Nat) : (d.railDown r reason).timeline = d.timeline := by simp [Dev.railDown]
@[simp] theorem Dev.timeline_ffWrite (b : List Nat) : (d.ffWrite b).timeline = d.timeline := by simp [Dev.ffWrite]
@[simp] theorem Dev.timeline_firstFailPut : d.firstFailPut.timeline = d.timeline := by
  unfold Dev.firstFailPut
  split <;> simp
@[simp] theorem Dev.timeline_railFail (c : RailCfg) (cause src : Nat) : (d.railFail c cause src).timeline = d.timeline := by
  unfold Dev.railFail
  dsimp only
  split <;> simp
@[simp] theorem Dev.timeline_issueStop (c : RailCfg) : (d.issueStop c).timeline = d.timeline := by
  unfold Dev.issueStop
  split <;> simp
@[simp] theorem Dev.timeline_railOff (c : RailCfg) : (d.railOff c).timeline = d.timeline := by simp [Dev.railOff]
@[simp] theorem Dev.timeline_tryOff (c : RailCfg) : (d.tryOff c).timeline = d.timeline := by simp [Dev.tryOff]

/-! ### Request groups and what SEQ sees -/

@[simp] theorem Dev.timeline_groupEnd (g : Nat) : (d.groupEnd g).timeline = d.timeline := by simp [Dev.groupEnd]
@[simp] theorem Dev.timeline_showGroups : d.showGroups.timeline = d.timeline := by simp [Dev.showGroups]
@[simp] theorem Dev.timeline_groupOn (g : Nat) : (d.groupOn g).timeline = d.timeline := by simp [Dev.groupOn]
@[simp] theorem Dev.timeline_railReqOff (r : Nat) : (d.railReqOff r).timeline = d.timeline := by
  unfold Dev.railReqOff
  split
  · rfl
  · split <;> simp
@[simp] theorem Dev.timeline_railsReqOff (l : List Nat) : (d.railsReqOff l).timeline = d.timeline := by simp [Dev.railsReqOff]
@[simp] theorem Dev.timeline_shedOff (r : Nat) : (d.shedOff r).timeline = d.timeline := by
  unfold Dev.shedOff
  split <;> simp
@[simp] theorem Dev.timeline_seqReading (r : Nat) : (d.seqReading r).timeline = d.timeline := by
  unfold Dev.seqReading
  split
  · rfl
  · simp
@[simp] theorem Dev.timeline_condSettle : d.condSettle.timeline = d.timeline := by simp [Dev.condSettle]
@[simp] theorem Dev.timeline_railEvent (c : RailCfg) : (d.railEvent c).timeline = d.timeline := by
  unfold Dev.railEvent
  split
  · rfl
  · dsimp only
    split <;> simp
@[simp] theorem Dev.timeline_seqPasses : ∀ (k : Nat) (d : Dev), (Dev.seqPasses k d).timeline = d.timeline
  | 0, _ => rfl
  | k + 1, d => by
    have ih := Dev.timeline_seqPasses k
    simp [Dev.seqPasses, ih]
@[simp] theorem Dev.timeline_seqSettle : d.seqSettle.timeline = d.timeline := by simp [Dev.seqSettle]

/-! ### The energy ledger -/

@[simp] theorem Dev.timeline_showFigures (f : Figures) : (d.showFigures f).timeline = d.timeline := by simp [Dev.showFigures]
@[simp] theorem Dev.timeline_engGo (st : Nat) : (d.engGo st).timeline = d.timeline := by simp [Dev.engGo]
@[simp] theorem Dev.timeline_engFrees : d.engFrees.timeline = d.timeline := by simp [Dev.engFrees]
@[simp] theorem Dev.timeline_engSettle (armed : Bool) : (d.engSettle armed).timeline = d.timeline := by simp [Dev.engSettle]
@[simp] theorem Dev.timeline_takeDown (l : List Nat) (benches slots : Nat) : (d.takeDown l benches slots).timeline = d.timeline := by
  simp [Dev.takeDown]
@[simp] theorem Dev.timeline_recordGroups : d.recordGroups.timeline = d.timeline := by simp [Dev.recordGroups]
@[simp] theorem Dev.timeline_groupTake (g : Nat) : (d.groupTake g).timeline = d.timeline := by
  unfold Dev.groupTake
  split <;> simp
@[simp] theorem Dev.timeline_commitNow : d.commitNow.timeline = d.timeline := by simp [Dev.commitNow]
@[simp] theorem Dev.timeline_warn : d.warn.timeline = d.timeline := by simp [Dev.warn]
@[simp] theorem Dev.timeline_withdraw (armed : Bool) : (d.withdraw armed).timeline = d.timeline := by simp [Dev.withdraw]
@[simp] theorem Dev.timeline_landWatch (f : Figures) : (d.landWatch f).timeline = d.timeline := by simp [Dev.landWatch]
@[simp] theorem Dev.timeline_engStep (f : Figures) : (d.engStep f).timeline = d.timeline := by
  unfold Dev.engStep
  dsimp only
  split <;> simp
@[simp] theorem Dev.timeline_engForm : d.engForm.timeline = d.timeline := by simp [Dev.engForm]
@[simp] theorem Dev.timeline_engRuns : d.engRuns.timeline = d.timeline := by simp [Dev.engRuns]
@[simp] theorem Dev.timeline_inputLost : d.inputLost.timeline = d.timeline := by simp [Dev.inputLost]
@[simp] theorem Dev.timeline_engCommit : d.engCommit.timeline = d.timeline := by simp [Dev.engCommit]
@[simp] theorem Dev.timeline_inputReturn : d.inputReturn.timeline = d.timeline := by simp [Dev.inputReturn]
@[simp] theorem Dev.timeline_engTrack : d.engTrack.timeline = d.timeline := by simp [Dev.engTrack]
@[simp] theorem Dev.timeline_settle : d.settle.timeline = d.timeline := by simp [Dev.settle]

/-! ### The audit -/

@[simp] theorem Dev.timeline_capWatch : d.capWatch.timeline = d.timeline := by simp [Dev.capWatch]
@[simp] theorem Dev.timeline_auditTick : d.auditTick.timeline = d.timeline := by simp [Dev.auditTick]

/-! ### The duplex pair -/

@[simp] theorem Dev.timeline_reqSink : d.reqSink.timeline = d.timeline := by simp [Dev.reqSink]
@[simp] theorem Dev.timeline_reqTick : d.reqTick.timeline = d.timeline := by simp [Dev.reqTick]
@[simp] theorem Dev.timeline_showSelf : d.showSelf.timeline = d.timeline := by simp [Dev.showSelf]
@[simp] theorem Dev.timeline_roleChangeAt (t : Nat) : (d.roleChangeAt t).timeline = d.timeline := by simp [Dev.roleChangeAt]
@[simp] theorem Dev.timeline_roleChange : d.roleChange.timeline = d.timeline := by simp [Dev.roleChange]
@[simp] theorem Dev.timeline_dpxGo (st : Nat) : (d.dpxGo st).timeline = d.timeline := by simp [Dev.dpxGo]
@[simp] theorem Dev.timeline_takeover (st : Nat) : (d.takeover st).timeline = d.timeline := by simp [Dev.takeover]
@[simp] theorem Dev.timeline_digTick : d.digTick.timeline = d.timeline := by simp [Dev.digTick]
@[simp] theorem Dev.timeline_handTick : d.handTick.timeline = d.timeline := by
  unfold Dev.handTick
  split <;> simp
@[simp] theorem Dev.timeline_dpxTick : d.dpxTick.timeline = d.timeline := by
  unfold Dev.dpxTick
  dsimp only
  split <;> simp

/-! ### Time -/

@[simp] theorem Dev.timeline_showPath : d.showPath.timeline = d.timeline := by
  unfold Dev.showPath
  split <;> simp
@[simp] theorem Dev.timeline_timCount : d.timCount.timeline = d.timeline := by simp [Dev.timCount]
@[simp] theorem Dev.timeline_timTick : d.timTick.timeline = d.timeline := by simp [Dev.timTick]

/-! ### KILL_N -/

@[simp] theorem Dev.timeline_killCheck : d.killCheck.timeline = d.timeline := by simp [Dev.killCheck]

/-! ### The Drawer, the recorder and the vault -/

@[simp] theorem Dev.timeline_memWrite : ∀ (l : List Nat) (d : Dev) (a : Nat), (d.memWrite a l).timeline = d.timeline
  | [], _, _ => rfl
  | b :: t, d, a => Dev.timeline_memWrite t (d.memPut a b) (a + 1)
@[simp] theorem Dev.timeline_setOwn (p v : Nat) : (d.setOwn p v).timeline = d.timeline := by simp [Dev.setOwn]
@[simp] theorem Dev.timeline_lateWrite (off w : Nat) : (d.lateWrite off w).timeline = d.timeline := by simp [Dev.lateWrite]
@[simp] theorem Dev.timeline_drainOne : d.drainOne.timeline = d.timeline := by
  unfold Dev.drainOne
  split
  · rfl
  · simp
@[simp] theorem Dev.timeline_mirrorTick : d.mirrorTick.timeline = d.timeline := by simp [Dev.mirrorTick]
@[simp] theorem Dev.timeline_checkpoint : d.checkpoint.timeline = d.timeline := by simp [Dev.checkpoint]
@[simp] theorem Dev.timeline_eraseBlock : d.eraseBlock.timeline = d.timeline := by simp [Dev.eraseBlock]
@[simp] theorem Dev.timeline_pageTry : d.pageTry.timeline = d.timeline := by simp [Dev.pageTry]

/-! ### Dowels -/

@[simp] theorem Dev.timeline_dowelEdge (c : DowelCfg) (v : Bool) : (d.dowelEdge c v).timeline = d.timeline := by simp [Dev.dowelEdge]
@[simp] theorem Dev.timeline_dowelSet (c : DowelCfg) (v : Bool) : (d.dowelSet c v).timeline = d.timeline := by simp [Dev.dowelSet]
@[simp] theorem Dev.timeline_dowelDone (c : DowelCfg) : (d.dowelDone c).timeline = d.timeline := by
  unfold Dev.dowelDone
  split <;> simp
@[simp] theorem Dev.timeline_dowelLevel (c : DowelCfg) (v : Bool) (x : DowelSt) : (d.dowelLevel c v x).timeline = d.timeline := by
  unfold Dev.dowelLevel
  dsimp only
  split <;> simp
@[simp] theorem Dev.timeline_dowelStep (c : DowelCfg) (v : Bool) : (d.dowelStep c v).timeline = d.timeline := by simp [Dev.dowelStep]
@[simp] theorem Dev.timeline_dowelTick : d.dowelTick.timeline = d.timeline := by simp [Dev.dowelTick]

/-! ### UPD and the loader -/

@[simp] theorem Dev.timeline_ingestTake : d.ingestTake.timeline = d.timeline := by
  unfold Dev.ingestTake
  split
  · rfl
  · simp
@[simp] theorem Dev.timeline_bankTick : d.bankTick.timeline = d.timeline := by
  unfold Dev.bankTick
  split <;> simp
@[simp] theorem Dev.timeline_romFree (l : List Nat) : (d.romFree l).timeline = d.timeline := by simp [Dev.romFree]
@[simp] theorem Dev.timeline_streamTake : d.streamTake.timeline = d.timeline := by simp [Dev.streamTake]

/-! ### The tick -/

@[simp] theorem Dev.timeline_sysTick : d.sysTick.timeline = d.timeline := by simp [Dev.sysTick]

end

theorem Dev.dueItems_of_timeline {d : Dev} {now loop : Nat} {cfg : Content} {l : List (Nat × PeerItem)}
    (h : d.timeline = (now, loop, cfg, l)) : d.dueItems = l := by
  simp only [Dev.timeline, Prod.mk.injEq] at h
  obtain ⟨-, -, -, hdue⟩ := h
  exact hdue

/-- With no item of the partner due, no item is taken. -/
theorem Dev.timeline_peerItems {d : Dev} (h : d.dueItems = []) : d.peerItems.timeline = d.timeline := by
  have none_due : d.peerItems = d.modDpx (fun x => { x with items := x.items.filter (fun i => !decide (i.1 ≤ d.loop)) }) := by
    unfold Dev.peerItems
    dsimp only
    rw [show d.dpx.items.filter (fun i => decide (i.1 ≤ d.loop)) = [] from h]
    rfl
  have still_none : (d.modDpx (fun x => { x with items := x.items.filter (fun i => !decide (i.1 ≤ d.loop)) })).dueItems = [] := by
    have filtered (l : List (Nat × PeerItem)) :
        (l.filter (fun i => !decide (i.1 ≤ d.loop))).filter (fun i => decide (i.1 ≤ d.loop)) = [] := by
      simp [List.filter_filter]
    exact filtered d.dpx.items
  rw [none_due]
  simp only [Dev.timeline, still_none, h]
  rfl

/-- What a tick of LOOP does to the timeline where no item of a partner waits: the LOOP counter goes up by one. -/
theorem Dev.timeline_loopTick {d : Dev} (h : d.dpx.items = []) : d.loopTick.timeline = (d.now, d.loop + 1, d.cfg, []) := by
  unfold Dev.loopTick
  extract_lets d0 d1
  have start : d0.timeline = (d.now, d.loop + 1, d.cfg, []) := by simp [Dev.timeline, Dev.dueItems, d0, h]
  have before : (d1.alertTick.laneTick.kerfTick.dowelTick.condSettle.firstFailPut.nlBound.dpxTick).timeline = d0.timeline := by
    simp [d1]
  simp only [Dev.timeline_digTick, Dev.timeline_showSelf, Dev.timeline_killCheck, Dev.timeline_engTrack, Dev.timeline_auditTick]
  rw [Dev.timeline_peerItems (Dev.dueItems_of_timeline (before.trans start)), before, start]

/-- What a tick does to the timeline where no item of a partner waits: the time goes up by one, and the LOOP counter where LOOP runs. -/
theorem Dev.timeline_tick {d : Dev} (h : d.dpx.items = []) :
    d.tick.timeline = (d.now + 1, if d.loopRuns then d.loop + 1 else d.loop, d.cfg, []) := by
  unfold Dev.tick
  extract_lets d0 d1 d2
  have cycle : d0.now = d.now + 1 ∧ d0.loop = d.loop ∧ d0.cfg = d.cfg ∧ d0.dpx = d.dpx ∧ d0.loopRuns = d.loopRuns := by
    simp only [d0, Dev.nextCycle]
    split <;> exact ⟨rfl, rfl, rfl, rfl, rfl⟩
  obtain ⟨hnow, hloop, hcfg, hdpx, hruns⟩ := cycle
  have hitems : d0.dpx.items = [] := by rw [hdpx, h]
  have loops : d1.timeline = (d.now + 1, if d.loopRuns then d.loop + 1 else d.loop, d.cfg, []) := by
    simp only [d1, hruns]
    split
    · rw [Dev.timeline_loopTick hitems, hnow, hloop, hcfg]
    · simp [Dev.timeline, Dev.dueItems, hnow, hloop, hcfg, hitems]
  have rest : (if d2.rst.cold then d2 else d2.txTick).timeline = d1.timeline := by simp [d2]
  exact rest.trans loops

/-- Settles O2, by what a tick does to the timeline. -/
theorem emptyQueueIsOneTick : Obligations.EmptyQueueIsOneTick := by
  intro s hpending hitems
  have htick := Dev.timeline_tick hitems
  simp only [Dev.timeline, Prod.mk.injEq] at htick
  obtain ⟨hnow, hloop, hcfg, -⟩ := htick
  have hstep : step s = .next s.tick := by simp [step, hpending]
  exact ⟨s.tick, hstep, s.tick_pending.trans hpending, s.tick_otp, hnow, hcfg, hloop⟩

end Sys2Proof.Machine
end

section
/-! SUPPORT. Events of LOOP where LOOP stands still, what a detected stop of its clock leaves (R24, R87, R106), the reset state, and what
the commands on supplies, clocks and resets come to where they can act. -/

namespace Sys2Proof.Machine

/-! ### Events of LOOP (R24, R92, R106) -/

/-- Every command of the LOOP domain is carried as an event of LOOP: an operation on the device that only a running LOOP does. -/
theorem exec_loopDo_of_inLoop {i : Instr} (h : inLoop i = true) : ∃ f, ∀ s, exec i s = .next (s.loopDo f) := by
  cases i with
  | benchSwap | dowelTimerExpiry | benchUpdate | limtimeExpiry | benchStart | benchStop | prestartBiasJudge | prestartPulse
  | prestartPass | rampReached | stopFloorReached | adcResult | phocCount | nlEventStart | nlEventEnd | monResult | hvmResult
  | shrCompute | shrPollPeriod | shrPollDone | capSample | capThrstepExpiry | capSheddelayExpiry | capReleaseExpiry | capmissTimer
  | capsumSend | capsumRx | capsumTimeout | capRackRelease | capqRx | engCompute | inputLost | inputReturn | engCommit | engGroupDown
  | engShutdownEnd | engRequalExpiry | auditStep | auditActiveStep | auditActiveEnd | batResult | restReference | fullReference
  | irReference | refStaleExpiry | restRequestTimeout | permissionRepeat | chgforbidExpiry | chargeRepermit | stringAbsent
  | stringPresent | firstEstimate | seqStrobe | seqReading | railGoodQualified | railFailDebounce | railwarnDebounce | starttimeExpiry
  | edgeDelayExpiry | requalExpiry | msettleExpiry | railrepFullReport | railrepRx | seqreqRx | reportStale | seatTimerExpiry
  | slotRemoval | seatfaultExpiry | checkEnd | slotShuntResult | slotVoltResult | soaExpiry | ramptimeExpiry | pgdelayExpiry | laneTest
  | slotOcExpiry | fetdegExpiry | gatefailExpiry | retryTimerExpiry | tcleanExpiry | cooloffExpiry | slotShed | shedWithdraw
  | xsensorRecover | peerFrameSend | peerFrameRx | lateItem | hblost | refereeReqRelease | syncTimeout | resolveTimeout | splitTimeout
  | keeperRelease | clkskew | portRxClockPresent | commaAligned | acquireTimeout | linkstatSend | linkstatRx | portDown | lnkerrWindow
  | frameRx | tsyncExchange | tsyncRx | holdoverEntry | rootListenEnd | arbSend | arbRx | arbTimeout | faultsumSend | nodelost | mgrlost
  | tunnelReplyRx | tunnelNoreply | clampPinEdge | clampFrameRx | snapRecordsStaged | waveformSample | waveformFreeze
  | waveRecordsStaged | pwmPeriodStart | coarseMagnitudeCheck | clampPulseEnd | refereeHbToggle =>
    exact ⟨_, fun _ => rfl⟩
  | _ => cases h

/-- Settles O9: each command of LOOP is an event of LOOP, and such an event does nothing where LOOP does not run. -/
theorem stoppedLoopIgnoresItsEvents : Obligations.StoppedLoopIgnoresItsEvents := by
  intro i s hloop hstop
  obtain ⟨f, hexec⟩ := exec_loopDo_of_inLoop hloop
  rw [hexec, s.loopDo_stopped f hstop]

/-! ### What a step done for each item keeps and brings about -/

/-- What every step keeps, all the steps keep. -/
theorem Dev.each_keeps {α : Type} {f : α → Dev → Dev} {P : Dev → Prop} (keep : ∀ a d, P d → P (f a d)) :
    ∀ (l : List α) (d : Dev), P d → P (Dev.each l f d)
  | [], _, h => h
  | a :: t, d, h => Dev.each_keeps keep t (f a d) (keep a d h)

/-- What the step for one of the items brings about, and no step undoes, holds after all the steps. -/
theorem Dev.each_establishes {α : Type} {f : α → Dev → Dev} {P : Dev → Prop} {a : α} (set : ∀ d, P (f a d))
    (keep : ∀ b d, P d → P (f b d)) : ∀ (l : List α) (d : Dev), a ∈ l → P (Dev.each l f d)
  | [], _, hmem => absurd hmem List.not_mem_nil
  | b :: t, d, hmem => by
    rcases List.mem_cons.mp hmem with rfl | htail
    · exact Dev.each_keeps keep t _ (set d)
    · exact Dev.each_establishes set keep t (f b d) htail

/-! ### Presence bits and READY bits -/

/-- A field of another key set does not change what a one-bit field reads. -/
theorem Dev.on_set_other (d : Dev) {f g : Fld} (h : g.key ≠ f.key) (v : Nat) : (d.set f v).on g = d.on g := by
  simp only [Dev.on, d.get_set_other h]

/-- The same of bits set in a sticky field. -/
theorem Dev.on_stick_other (d : Dev) {f g : Fld} (h : g.key ≠ f.key) (m : Nat) : (d.stick f m).on g = d.on g :=
  d.on_set_other h _

/-- A field cleared turns no other field on, nor itself. -/
theorem Dev.off_setB_false {d : Dev} {g : Fld} (h : d.on g = false) (f : Fld) : (d.setB f false).on g = false := by
  by_cases hkey : g.key = f.key
  · simp [Dev.on, Dev.get, Dev.setB, Dev.set, hkey]
  · rw [← h]
    exact d.on_set_other hkey _

/-- A presence bit found 0 reads 0 (R87). -/
theorem Dev.on_setPresent_loop (d : Dev) : (d.setPresent 0 false).on F.CLK_PRESENT_LOOP = false := by
  have cleared : (d.setB (presentFld 0) false).on F.CLK_PRESENT_LOOP = false := d.on_setB (presentFld 0) false (by decide)
  unfold Dev.setPresent
  dsimp only
  split
  · rw [Dev.on_stick_other _ (by decide), cleared]
  · exact cleared

theorem Dev.sameRaised_setPresent (d : Dev) (k : Nat) (v : Bool) : d.SameRaised (d.setPresent k v) := .ite (.refl _) (.refl _)

/-! ### Gates -/

/-- The gate of slot `n` is sunk. -/
def Dev.GateSunk (n : Nat) (d : Dev) : Prop := (d.slot n).gate = .sink

/-- A slot changed reads as changed; every other slot reads as before. -/
theorem Dev.slot_modSlot (d : Dev) (m : Nat) {n : Nat} (hn : n < 16) (f : Slot → Slot) :
    (d.modSlot m f).slot n = if m = n then f (d.slot n) else d.slot n := by
  by_cases h : m = n
  · subst h
    simp [Dev.slot, Dev.modSlot, hn]
  · simp [Dev.slot, Dev.modSlot, h]

theorem Dev.gateSunk_sinkAt (d : Dev) {n : Nat} (hn : n < 16) (t : Nat) : (d.modSlot n (fun s => s.sinkAt t)).GateSunk n := by
  simp [Dev.GateSunk, d.slot_modSlot n hn, Slot.sinkAt]

/-- A change of a slot that leaves a sunk gate sunk leaves every slot's so. -/
theorem Dev.GateSunk.modSlot {d : Dev} {n : Nat} (h : d.GateSunk n) (hn : n < 16) (m : Nat) {f : Slot → Slot}
    (hf : ∀ s, s.gate = .sink → (f s).gate = .sink) : (d.modSlot m f).GateSunk n := by
  unfold Dev.GateSunk
  rw [d.slot_modSlot m hn]
  split
  · exact hf _ h
  · exact h

theorem Dev.GateSunk.laneStop {d : Dev} {n : Nat} (h : d.GateSunk n) (hn : n < 16) : d.laneStop.GateSunk n := by
  have step (m : Nat) (e : Dev) (he : e.GateSunk n) : (e.modSlot m (fun s => { s with testLane := none })).GateSunk n :=
    he.modSlot hn m (fun _ hs => hs)
  exact Dev.each_keeps (P := Dev.GateSunk n) step _ { d with lanes := { d.lanes with run := none } } h

theorem Dev.GateSunk.readyFall {d : Dev} {n : Nat} (h : d.GateSunk n) (k : Nat) : (d.readyFall k).GateSunk n := by
  unfold Dev.readyFall
  split <;> exact h

theorem Dev.GateSunk.readyDrop {d : Dev} {n : Nat} (h : d.GateSunk n) (l : List Nat) : (d.readyDrop l).GateSunk n :=
  Dev.each_keeps (P := Dev.GateSunk n) (fun k _ he => he.readyFall k) _ _ h

/-- Every gate sunk at the tick that LOOP's counter shows. -/
def Dev.sinkGates (d : Dev) : Dev := Dev.each (List.range 16) (fun n d => d.modSlot n (fun s => s.sinkAt d.loop)) d

theorem Dev.gateSunk_sinkGates (d : Dev) {n : Nat} (hn : n < 16) : d.sinkGates.GateSunk n :=
  Dev.each_establishes (P := Dev.GateSunk n) (fun e => e.gateSunk_sinkAt hn e.loop)
    (fun m _ he => he.modSlot hn m (fun _ _ => rfl)) _ d (List.mem_range.mpr hn)

/-! ### A detected stop of the LOOP clock (R24, R87, R106) -/

/-- A device whose LOOP clock has been found stopped: its presence reads 0 and the SAFE line is asserted for it, with the configuration
and the raised sources of the device `d` that it was. -/
def Dev.HaltedFrom (d e : Dev) : Prop :=
  e.on F.CLK_PRESENT_LOOP = false ∧ e.asyncLow = true ∧ e.safeLine = true ∧ e.cfg = d.cfg ∧ e.raised = d.raised

/-- The device as SAFE finds the stop: the presence reads 0 and the SAFE line is shown. -/
def Dev.stopFound (d : Dev) : Dev := ({ d.setPresent 0 false with asyncLow := true } : Dev).showSafeLine

theorem Dev.haltedFrom_stopFound (d : Dev) : d.HaltedFrom d.stopFound := by
  obtain ⟨hraised, hcfg, -⟩ := d.sameRaised_setPresent 0 false
  have hoff : d.stopFound.on F.CLK_PRESENT_LOOP = false := (Dev.on_set_other _ (by decide) _).trans d.on_setPresent_loop
  exact ⟨hoff, rfl, Bool.or_true _, hcfg, hraised⟩

theorem Dev.HaltedFrom.modSlot {d e : Dev} (h : d.HaltedFrom e) (n : Nat) (f : Slot → Slot) : d.HaltedFrom (e.modSlot n f) := h

theorem Dev.HaltedFrom.sinkGates {d e : Dev} (h : d.HaltedFrom e) : d.HaltedFrom e.sinkGates :=
  Dev.each_keeps (P := d.HaltedFrom) (fun n _ he => he.modSlot n _) _ e h

theorem Dev.HaltedFrom.laneStop {d e : Dev} (h : d.HaltedFrom e) : d.HaltedFrom e.laneStop :=
  Dev.each_keeps (P := d.HaltedFrom) (fun n _ he => he.modSlot n _) _ { e with lanes := { e.lanes with run := none } } h

theorem Dev.HaltedFrom.readyFall {d e : Dev} (h : d.HaltedFrom e) (k : Nat) : d.HaltedFrom (e.readyFall k) := by
  obtain ⟨hoff, hkept⟩ := h
  unfold Dev.readyFall
  split
  · exact ⟨(Dev.on_stick_other _ (by decide) _).trans (Dev.off_setB_false hoff _), hkept⟩
  · exact ⟨hoff, hkept⟩

theorem Dev.HaltedFrom.readyDrop {d e : Dev} (h : d.HaltedFrom e) (l : List Nat) : d.HaltedFrom (e.readyDrop l) :=
  Dev.each_keeps (P := d.HaltedFrom) (fun k _ he => he.readyFall k) _ _ h

/-- A stop of a clock that runs: found, every gate sunk, the lane tests ended, and the READY bits of LOOP fallen. -/
theorem Dev.loopStop_running {d : Dev} (h : d.on F.CLK_PRESENT_LOOP = true) :
    d.loopStop = d.stopFound.sinkGates.laneStop.readyDrop (0 :: loopReady) := by
  unfold Dev.loopStop
  rw [h]
  rfl

/-- A stop of a clock that is stopped already does nothing. -/
theorem Dev.loopStop_stopped {d : Dev} (h : d.on F.CLK_PRESENT_LOOP = false) : d.loopStop = d := by
  unfold Dev.loopStop
  rw [h]
  rfl

/-- Settles O19, by whether the clock was found running before. -/
theorem loopStopSinksEveryGate : Obligations.LoopStopSinksEveryGate := by
  intro s
  constructor
  · intro hon
    have halted : s.dev.HaltedFrom s.dev.loopStop := by
      rw [Dev.loopStop_running hon]
      exact s.dev.haltedFrom_stopFound.sinkGates.laneStop.readyDrop _
    have gates (n : Fin 16) : s.dev.loopStop.GateSunk n := by
      rw [Dev.loopStop_running hon]
      exact ((s.dev.stopFound.gateSunk_sinkGates n.isLt).laneStop n.isLt).readyDrop _
    obtain ⟨hoff, hlow, hline, hcfg, hraised⟩ := halted
    exact ⟨s.did Dev.loopStop, rfl, rfl, rfl, hoff, hlow, hline, hcfg, hraised, gates⟩
  · intro hoff
    have same : s.did Dev.loopStop = s.did id := State.did_congr (Dev.loopStop_stopped hoff)
    exact congrArg Host.Outcome.next same

/-! ### The reset state (R35, R50, R115, R336) -/

/-- No READY bit is among the register fields that are not 0 at reset (R35). -/
theorem reset_not_ready : ∀ k : Fin 27, State.reset.dev.ready k = false := by decide +kernel

/-- A device in a cold reset runs neither LOOP nor SYS (R105). -/
theorem Dev.cold_runs_nothing {d : Dev} (h : d.rst.cold = true) : d.loopRuns = false ∧ d.sysRuns = false := by
  simp [Dev.loopRuns, Dev.sysRuns, h]

/-- Before PRO is READY the device sinks KILL_N (R50, R336). -/
theorem Dev.killSink_of_pro_not_ready {d : Dev} (h : d.ready 12 = false) : d.killSink = true := by
  simp [Dev.killSink, h]

/-- Settles O3: the reset state is held in a cold reset, and no function is READY in it. -/
theorem resetIsHeldAndSafe : Obligations.ResetIsHeldAndSafe := by
  obtain ⟨hloop, hsys⟩ := Dev.cold_runs_nothing (d := State.reset.dev) rfl
  exact ⟨rfl, reset_not_ready, rfl, hloop, hsys, Dev.killSink_of_pro_not_ready (reset_not_ready 12)⟩

/-! ### Writes to CLK and RST that land -/

/-- A register write that lands in a block outside the fuses is that block's operation on the device. -/
theorem State.regWrite_did {s : State} {m : Master} {a w : Nat} {f : Dev → Dev} (h : s.Lands m a)
    (hbus : s.dev.busWrite s.otp m (wordAddr a) w = (f s.dev, s.otp)) : s.regWrite m a w = s.did f := by
  rw [State.regWrite_landed w h, State.landed, hbus]
  rfl

section
variable {s : State} (w : Nat)

theorem State.regWrite_clkCtrl (h : s.Lands .core F.CLK_CTRL_NVA_RATE.addr) :
    s.regWrite .core F.CLK_CTRL_NVA_RATE.addr w = s.did (fun d => d.clkCtrl w) := State.regWrite_did h rfl

theorem State.regWrite_rstCtrl (h : s.Lands .core F.RST_CTRL_KEY.addr) :
    s.regWrite .core F.RST_CTRL_KEY.addr w = s.did (fun d => d.rstCtrl w) := State.regWrite_did h rfl

theorem State.regWrite_rstBlock (h : s.Lands .core F.RST_BLOCK_NVA.addr) :
    s.regWrite .core F.RST_BLOCK_NVA.addr w = s.did (fun d => d.rstBlock w) := State.regWrite_did h rfl

theorem State.regWrite_wdtService (h : s.Lands .core F.RST_WDT_SVC_KEY.addr) :
    s.regWrite .core F.RST_WDT_SVC_KEY.addr w = s.did (fun d => d.wdtService w) := State.regWrite_did h rfl

end

/-- Settles O40, each command by what carries it. -/
theorem powerCommandsComplete : Obligations.PowerCommandsComplete := by
  intro s
  have next {t u : State} (h : t = u) : (.next t : Host.Outcome State Fault Refusal) = .next u := congrArg _ h
  exact ⟨fun _ => rfl, fun _ => rfl, rfl, rfl, fun _ _ _ => rfl,
    fun _ _ h => next (State.regWrite_rstCtrl _ h),
    fun _ h => next (State.regWrite_rstCtrl _ h),
    fun w h => next (State.regWrite_wdtService w h),
    rfl, rfl, rfl, rfl, fun _ _ => rfl, fun _ => rfl,
    fun _ h => next (State.regWrite_rstBlock _ h),
    fun _ h => next (State.regWrite_rstBlock _ h),
    fun _ _ h => next (State.sysDo_did h _),
    fun h => next (State.regWrite_rstBlock _ h),
    fun h => next (State.regWrite_rstBlock _ h),
    fun _ _ h => next (State.pdDo_did h _),
    fun _ h => next (State.pdDo_did h _),
    fun _ _ h => next (State.regWrite_clkCtrl _ h),
    fun _ => rfl, fun _ _ => rfl,
    fun h => next (State.sysDo_did h _),
    fun _ h => next (State.sysDo_did h _)⟩

end Sys2Proof.Machine
end

section
/-! SUPPORT. Writes to SNP's control register, and what the commands on Clamps, snapshots and the waveform come to where they can act. -/

namespace Sys2Proof.Machine

/-! ### Writes to SNP (R401, R404, R405) -/

/-- A word for SNP's control register that sets no bit before SNP is READY (R117) goes to SNP. -/
theorem Dev.loopWrite_snpCtrl {d : Dev} {w : Nat} (h : d.goBlocked F.SNP_CTRL_FIRE.addr w = false) :
    d.loopWrite F.SNP_CTRL_FIRE.addr w = d.snpBus w := by
  have hrow : (rowAt F.SNP_CTRL_FIRE.addr).isNone = false := by decide +kernel
  have hcfg : d.configured F.SNP_CTRL_FIRE.addr = true := rfl
  unfold Dev.loopWrite
  rw [hrow, hcfg, h]
  rfl

/-- A write of SNP's control register that is taken at once. -/
theorem State.regWrite_snpCtrl {s : State} {w : Nat} (h : s.Takes F.SNP_CTRL_FIRE.addr w) :
    s.regWrite .core F.SNP_CTRL_FIRE.addr w = s.did (fun d => d.snpBus w) := by
  obtain ⟨⟨-, -, -, hgo⟩, -⟩ := id h
  rw [State.regWrite_loop s _ w (by decide) (by decide) (by decide) h]
  exact State.did_congr (Dev.loopWrite_snpCtrl hgo)

/-- Settles O54: SNP.CTRL.FIRE and SNP.CTRL.REARM are bits of one register, whose write is SNP's; every other command is an event of LOOP. -/
theorem clampCommandsComplete : Obligations.ClampCommandsComplete := by
  intro s
  have next {t u : State} (h : t = u) : (.next t : Host.Outcome State Fault Refusal) = .next u := congrArg _ h
  exact ⟨fun h => next (State.loopDo_looped h _),
    fun _ _ _ _ h => next (State.loopDo_looped h _),
    fun h => next (State.regWrite_snpCtrl h),
    fun h => next (State.regWrite_snpCtrl h),
    fun h => next (State.loopDo_looped h _),
    fun h => next (State.loopDo_looped h _),
    fun h => next (State.loopDo_looped h _),
    fun h => next (State.loopDo_looped h _),
    fun h => next (State.loopDo_looped h _)⟩

end Sys2Proof.Machine
end

section
/-! SUPPORT. Crossings and ports: the pulse-handshake crossings (R100), the host's stray commands (R427), a port's way out of DOWN and back
(R385), and what the commands on the boot come to where they can act. -/

namespace Sys2Proof.Machine

/-! ### An unknown host command (R100, R427) -/

/-- A pulse on a crossing that is idle starts a transfer, which takes it to the destination. -/
theorem Dev.fwPulse_idle {d : Dev} {j : Nat} (h : (d.fwx j).busy = false) :
    d.fwPulse j = (d.modFwx j (fun x => { x with busy := true })).pulseTake j 1 := by
  simp [Dev.fwPulse, h]

/-- A pulse on the idle crossing of HST.COUNTS.PROTO raises that counter. -/
theorem Dev.fwPulse_proto {d : Dev} (h : (d.fwx 66).busy = false) :
    d.fwPulse 66 = (d.modFwx 66 (fun x => { x with busy := true })).inc F.HST_COUNTS_PROTO := Dev.fwPulse_idle h

/-- A crossing is no register. -/
@[simp] theorem Dev.get_modFwx (d : Dev) (j : Nat) (g : PulseX → PulseX) (f : Fld) : (d.modFwx j g).get f = d.get f := rfl

/-- A stray command shows in no field but those of HST.H_LAST. -/
theorem Dev.get_hostStray {d : Dev} {f : Fld} (hcmd : f.key ≠ F.HST_H_LAST_CMD.key) (haddr : f.key ≠ F.HST_H_LAST_ADDR.key) :
    d.hostStray.get f = d.get f :=
  (Dev.get_set_other _ haddr _).trans (d.get_set_other hcmd _)

/-- An unknown command reaches HST wherever a feed powers the device out of a cold reset. -/
theorem exec_hostUnknownCommand {s : State} (hcold : s.dev.rst.cold = false) (hfed : (s.dev.sup.a || s.dev.sup.b) = true) :
    exec .hostUnknownCommand s = .next (s.did (fun d => d.hostStray.fwPulse 66)) := by
  have answers : (s.dev.rst.cold || !(s.dev.sup.a || s.dev.sup.b)) = false := by rw [hcold, hfed]; rfl
  have txn : s.hostTxn .unknown 0 = s.did (fun d => d.hostStray.fwPulse 66) := by
    unfold State.hostTxn
    rw [answers]
    rfl
  exact congrArg Host.Outcome.next txn

/-- The device after a stray command whose pulse found its crossing idle. -/
def Dev.strayCounted (d : Dev) : Dev := (d.hostStray.modFwx 66 (fun x => { x with busy := true })).inc F.HST_COUNTS_PROTO

theorem Dev.fwPulse_hostStray {d : Dev} (h : (d.fwx 66).busy = false) : d.hostStray.fwPulse 66 = d.strayCounted := Dev.fwPulse_proto h

/-- HST.COUNTS.PROTO, which HST.H_LAST is no part of, has gone up by one. -/
theorem Dev.get_strayCounted_proto (d : Dev) :
    d.strayCounted.get F.HST_COUNTS_PROTO = min (d.get F.HST_COUNTS_PROTO + 1) F.HST_COUNTS_PROTO.top := by
  have before : d.hostStray.get F.HST_COUNTS_PROTO = d.get F.HST_COUNTS_PROTO := Dev.get_hostStray (by decide) (by decide)
  rw [Dev.strayCounted, Dev.get_inc, Dev.get_modFwx, before]

/-- Every other field but those of HST.H_LAST reads as before. -/
theorem Dev.get_strayCounted_other {d : Dev} {f : Fld} (hproto : f.key ≠ F.HST_COUNTS_PROTO.key)
    (hcmd : f.key ≠ F.HST_H_LAST_CMD.key) (haddr : f.key ≠ F.HST_H_LAST_ADDR.key) : d.strayCounted.get f = d.get f :=
  (Dev.get_set_other _ hproto _).trans (Dev.get_hostStray hcmd haddr)

theorem Dev.sameRaised_strayCounted (d : Dev) : d.SameRaised d.strayCounted := .refl _

/-- Settles O31: the command comes to a stray command counted, of which memory, raised sources, pages and configuration are no part. -/
theorem unknownHostCommandOnlyCounts : Obligations.UnknownHostCommandOnlyCounts := by
  intro s hcold hfed hidle
  have hexec : exec .hostUnknownCommand s = .next (s.did Dev.strayCounted) :=
    (exec_hostUnknownCommand hcold hfed).trans (congrArg Host.Outcome.next (State.did_congr (Dev.fwPulse_hostStray hidle)))
  obtain ⟨hraised, hcfg, -, -, -, -, hmem, -⟩ := s.dev.sameRaised_strayCounted
  exact ⟨_, hexec, s.did_pending _, s.did_otp _, hmem, hraised, rfl, hcfg, s.dev.get_strayCounted_proto,
    fun _ hproto hcmd haddr => Dev.get_strayCounted_other hproto hcmd haddr⟩

/-! ### A port out of DOWN and back (R385) -/

section
variable {d : Dev} {p : Nat}

theorem Dev.portClock_down (hused : d.usedPorts.contains p = true) (hdown : d.port p = portDown) :
    d.portClock p = (d.set (F.LNK_STATUS_STATE p) portAcquire).modPort p (fun x => { x with acqEnd := some (d.now + 100 * us) }) := by
  simp only [Dev.portClock, hused, hdown, BEq.rfl, Bool.and_self, if_true]

theorem Dev.portClock_other (h : d.usedPorts.contains p = false ∨ d.port p ≠ portDown) : d.portClock p = d := by
  have still : (d.usedPorts.contains p && d.port p == portDown) = false := by
    rcases h with h | h
    · rw [h, Bool.false_and]
    · rw [beq_false_of_ne h, Bool.and_false]
  rw [Dev.portClock, still]
  rfl

theorem Dev.acquireTimeout_due (hacq : d.port p = portAcquire) (hdue : due (d.portSt p).acqEnd d.now = true) :
    d.acquireTimeout p = (d.set (F.LNK_STATUS_STATE p) portDown).modPort p (fun _ => {}) := if_pos ⟨hacq, hdue⟩

theorem Dev.acquireTimeout_other (h : d.port p ≠ portAcquire ∨ due (d.portSt p).acqEnd d.now = false) : d.acquireTimeout p = d := by
  refine if_neg fun ⟨hacq, hdue⟩ => ?_
  rcases h with h | h
  · exact h hacq
  · rw [h] at hdue
    cases hdue

end

/-- An event of LOOP, while LOOP runs, whose operation comes to `g` on the device as it stands. -/
theorem State.next_loopDo {s : State} {f g : Dev → Dev} (hloop : s.dev.loopRuns = true) (h : f s.dev = g s.dev) :
    (.next (s.loopDo f) : Host.Outcome State Fault Refusal) = .next (s.looped g) :=
  congrArg Host.Outcome.next ((State.loopDo_looped hloop f).trans (State.looped_congr h))

/-- Settles O36, by the state of the port and whether its time to align has run. -/
theorem portAcquiresOrFallsBack : Obligations.PortAcquiresOrFallsBack := fun _ _ hloop =>
  ⟨fun hused hdown => State.next_loopDo hloop (Dev.portClock_down hused hdown),
    fun h => State.next_loopDo hloop (Dev.portClock_other h),
    fun hacq hdue => State.next_loopDo hloop (Dev.acquireTimeout_due hacq hdue),
    fun h => State.next_loopDo hloop (Dev.acquireTimeout_other h)⟩

/-! ### The boot and its loads, and the acknowledges of the crossings (R100) -/

/-- The acknowledge of one of HST's counters' crossings is an event of SYS. -/
theorem exec_pulseTransferDone_sys {s : State} {j : Fin 68} (h : 64 ≤ (j : Nat) ∧ (j : Nat) < 67) (hsys : s.dev.sysRuns = true) :
    exec (.pulseTransferDone j) s = .next (s.did (fun d => d.pulseDone j)) :=
  congrArg Host.Outcome.next ((if_pos h).trans (State.sysDo_did hsys _))

/-- The acknowledge of every other crossing is an event of LOOP. -/
theorem exec_pulseTransferDone_loop {s : State} {j : Fin 68} (h : ¬ (64 ≤ (j : Nat) ∧ (j : Nat) < 67)) (hloop : s.dev.loopRuns = true) :
    exec (.pulseTransferDone j) s = .next (s.looped (fun d => d.pulseDone j)) :=
  congrArg Host.Outcome.next ((if_neg h).trans (State.loopDo_looped hloop _))

/-- Settles O42: the boot ROM's commands act in every state, and an acknowledge acts where its crossing's destination runs. -/
theorem bootCommandsComplete : Obligations.BootCommandsComplete := by
  intro s
  exact ⟨fun _ => rfl, fun _ => rfl, rfl, rfl,
    fun _ hlo hhi hsys => exec_pulseTransferDone_sys ⟨hlo, hhi⟩ hsys,
    fun _ hother hloop => exec_pulseTransferDone_loop hother hloop⟩

end Sys2Proof.Machine
end

section
/-! SUPPORT. Events of SYS and writes of registers where SYS stands still, and the watchdog: its service, its expiry, and its count through
a halt by the debugger (R105, R107 to R109). -/

namespace Sys2Proof.Machine

/-! ### What SYS carries, while SYS is held (R105, R107, log entry 15) -/

section
variable {s : State}

/-- No master's access reaches the interconnect while SYS is held. -/
theorem Dev.masterRuns_held {d : Dev} (h : d.sysRuns = false) (m : Master) : d.masterRuns m = false := by
  rw [Dev.masterRuns, h, Bool.false_and]

/-- The two-wire target does not acknowledge while SYS is held. -/
theorem Dev.tgtOn_held {d : Dev} (h : d.sysRuns = false) : d.tgtOn = false := by
  simp only [Dev.tgtOn, h, Bool.false_and]

theorem State.regWrite_held (h : s.dev.sysRuns = false) (m : Master) (a w : Nat) : s.regWrite m a w = s := by
  rw [State.regWrite, Dev.masterRuns_held h m]
  rfl

theorem State.lockSet_held (h : s.dev.sysRuns = false) (addr : Nat) : s.lockSet addr = s := by
  unfold State.lockSet
  split
  · exact State.regWrite_held h ..
  · rfl

theorem State.whenSys_held (h : s.dev.sysRuns = false) (f : State → State) : s.whenSys f = s := by
  rw [State.whenSys, h]
  rfl

theorem State.sysBoth_held (h : s.dev.sysRuns = false) (f : Dev → Dev × Otp) : s.sysBoth f = s := by
  rw [State.sysBoth, h]
  rfl

theorem State.tunnelIn_held (h : s.dev.sysRuns = false) (write : Bool) (a w : Nat) : s.tunnelIn write a w = s := by
  simp [State.tunnelIn, h]

theorem State.usbOut_held (h : s.dev.sysRuns = false) (c : PortCmd) : s.usbOut c = s := by
  simp [State.usbOut, h]

theorem State.tgtRead_held (h : s.dev.sysRuns = false) : s.tgtRead = s := by
  rw [State.tgtRead, Dev.tgtOn_held h]
  rfl

theorem State.tgtWrite_held (h : s.dev.sysRuns = false) (w : Nat) (pecOk : Bool) : s.tgtWrite w pecOk = s := by
  rw [State.tgtWrite, Dev.tgtOn_held h]
  rfl

end

/-- Settles O10, by what carries each command of SYS: an event of SYS, a register write, a request of the two-wire target or of the service
port, or one of the register tunnel. None of them acts while SYS is held. -/
theorem heldSysIgnoresItsEvents : Obligations.HeldSysIgnoresItsEvents := by
  intro i s hsys hheld
  have same {t : State} (h : t = s) : (.next t : Host.Outcome State Fault Refusal) = .next s := congrArg _ h
  cases i with
  | rstCtrlCold | rstCtrlWarm | watchdogService | rstBlockNv | rstBlockLink | rstBlockHost | rstBlockCpd | nvRateWrite | registerWrite
  | vsetWrite | slewWrite | periodWrite | phdropClear | ovuvWrite | shrVbusWrite | capForceWrite | restRequest | newstringWrite
  | seqReqOn | seqReqOff | failmarkClear | seqMarginWrite | slotUnlock | stickyClear | ackWrite | fwraiseWrite | thmLimitWrite
  | dpxHandover | dpxTake | dpxRejoin | tunnelGo | snpFire | snpRearm | evrFlushnow | evrReadGo | clearGo | evrFwGo | vaultWrite
  | bellWrite | winXfer | dmaGo | dmaStop | dmaResume | dmaClear | twbCmdGo | cpdHardrst | updActivate | updHandover | updConfirm
  | updAbort | secProgGo =>
    exact same (State.regWrite_held hheld ..)
  | rstBlockTwoWire | partialLoadGo | partialLoadDone | swapGo | lostRecordWrite | pageFlushTimer | pageWriteDone | nandPortTrain
  | evrColdScan | evrReadDone | nonceRead | nonceExpiry | clearVerdict | pageBad | pageZeroDone | coreDrawerAccess | coreLateWrite
  | fenceWO | dmaPageReturn | twbTransactionStart | twbAttemptEnd | twbTimeout | stuckRetry | tgtCapability | tgtPmbusRevision
  | tgtMfrId | tgtMfrModel | tgtRegAddr | tgtRegStat | tgtAlertResponse | tgtProtocolError | tgtSclTimeout | updIngest
  | imageBlockRx | imageAckRx | relayTimeout | packageStaged | activateFrameRx | activationRetry | handoverDrainEnd
  | handoverRelease | handoverDrainTimeout | confirmWindowExpiry | partialRevertRetry | coreMemoryEccError | jtagCoreHalt =>
    exact same (s.sysDo_held _ hheld)
  | dmaHalf | dmaFull | dmaBusError => exact same (State.whenSys_held hheld _)
  | containerVerified => exact same (State.sysBoth_held hheld _)
  | lockWrite addr => exact same (State.lockSet_held hheld addr)
  | tunnelRequestRx write addr w => exact same (State.tunnelIn_held hheld write addr w)
  | usbOutTransfer cmd => exact same (State.usbOut_held hheld cmd)
  | tgtRegDataRead => exact same (State.tgtRead_held hheld)
  | tgtRegDataWrite w pecOk => exact same (State.tgtWrite_held hheld w pecOk)
  | _ => cases hsys

/-! ### The watchdog's service and expiry (R105, R108) -/

section
variable {d : Dev}

/-- While SYS runs, no reset is held. -/
theorem Dev.no_reset_of_sysRuns (h : d.sysRuns = true) : d.rst.cold = false ∧ d.rst.sys = false := by
  simp only [Dev.sysRuns, Bool.and_eq_true, Bool.not_eq_true'] at h
  exact h.1

theorem Dev.wdtService_key {w : Nat} (hkey : w % 0x10000 = 0x6C3A) (hleft : d.rst.wdtLeft = none) : d.wdtService w = d.wdtStart := by
  rw [Dev.wdtService, if_pos hkey, hleft]
  rfl

theorem Dev.wdtService_wrong {w : Nat} (hkey : w % 0x10000 ≠ 0x6C3A) :
    d.wdtService w = (d.stick F.RST_CAUSE_WDKEY 1).sysReset (some (d.now + 10 * us)) := if_neg hkey

theorem Dev.wdtExpiry_due (hruns : d.sysRuns = true) (hrom : d.rst.rom = false) (hdue : due d.rst.wdtEnd d.now = true) :
    d.wdtExpiry = (d.stick F.RST_CAUSE_WDT 1).sysReset (some (d.now + 10 * us)) := by
  obtain ⟨hcold, hsys⟩ := Dev.no_reset_of_sysRuns hruns
  rw [Dev.wdtExpiry, hcold, hsys, hrom, hdue]
  rfl

theorem Dev.wdtExpiry_early (h : due d.rst.wdtEnd d.now = false) : d.wdtExpiry = d := by
  rw [Dev.wdtExpiry, h, Bool.not_false, Bool.or_true]
  rfl

end

/-- A landed write of RST.WDT_SVC, where the watchdog's answer to it on the device as it stands is `f`'s. -/
theorem exec_watchdogService {s : State} {w : Nat} {f : Dev → Dev} (hlands : s.Lands .core F.RST_WDT_SVC_KEY.addr)
    (h : s.dev.wdtService w = f s.dev) : exec (.watchdogService w) s = .next (s.did f) :=
  congrArg Host.Outcome.next ((State.regWrite_wdtService w hlands).trans (State.did_congr h))

/-- The end of the watchdog's period, where it comes to `f` on the device as it stands. -/
theorem exec_watchdogExpiry {s : State} {f : Dev → Dev} (h : s.dev.wdtExpiry = f s.dev) : exec .watchdogExpiry s = .next (s.did f) :=
  congrArg Host.Outcome.next (State.did_congr (f := fun d => d.wdtExpiry) h)

/-- Settles O17, by the key written and by whether the period has run out. -/
theorem watchdogNeedsItsKey : Obligations.WatchdogNeedsItsKey := fun _ =>
  ⟨fun _ hlands hkey hleft => exec_watchdogService hlands (Dev.wdtService_key hkey hleft),
    fun _ hlands hkey => exec_watchdogService hlands (Dev.wdtService_wrong hkey),
    fun hruns hrom hdue => exec_watchdogExpiry (Dev.wdtExpiry_due hruns hrom hdue),
    fun hearly => exec_watchdogExpiry (f := id) (Dev.wdtExpiry_early hearly)⟩

/-! ### The watchdog's count while the debugger halts the core (R109) -/

section
variable {d : Dev}

/-- Halting the core writes no register, so DBG_FREEZE reads as before. -/
theorem Dev.on_rst (d : Dev) (r : RstSt) (f : Fld) : ({ d with rst := r } : Dev).on f = d.on f := rfl

/-- With DBG_FREEZE, what is left of a running period is held. -/
theorem Dev.coreHalt_freezes {e : Nat} (hrun : d.rst.wdtEnd = some e) (hfreeze : d.on F.RST_WDT_DBG_FREEZE = true) :
    d.coreHalt true = { d with rst := { d.rst with halted := true, wdtLeft := some (e - d.now), wdtEnd := none } } := by
  simp only [Dev.coreHalt, Dev.wdtFreeze, Dev.on_rst, hfreeze, hrun, Bool.and_self, if_true]

/-- Without DBG_FREEZE, a count that is not paused runs on. -/
theorem Dev.coreHalt_runs_on (hleft : d.rst.wdtLeft = none) (hfreeze : d.on F.RST_WDT_DBG_FREEZE = false) :
    d.coreHalt true = { d with rst := { d.rst with halted := true } } := by
  simp [Dev.coreHalt, Dev.wdtFreeze, Dev.on_rst, hfreeze, hleft]

/-- A resume runs what was held from now on. -/
theorem Dev.coreHalt_resumes {n : Nat} (hleft : d.rst.wdtLeft = some n) :
    d.coreHalt false = { d with rst := { d.rst with halted := false, wdtLeft := none, wdtEnd := some (d.now + n) } } := by
  simp [Dev.coreHalt, Dev.wdtFreeze, hleft]

end

/-- A halt or a resume by the debugger while SYS runs, where it comes to `f` on the device as it stands. -/
theorem exec_jtagCoreHalt {s : State} {halt : Bool} {f : Dev → Dev} (hruns : s.dev.sysRuns = true) (h : s.dev.coreHalt halt = f s.dev) :
    exec (.jtagCoreHalt halt) s = .next (s.did f) :=
  congrArg Host.Outcome.next ((State.sysDo_did hruns _).trans (State.did_congr h))

/-- Settles O18, by whether the debugger halts or resumes and by DBG_FREEZE. -/
theorem debugHaltPausesTheWatchdog : Obligations.DebugHaltPausesTheWatchdog := fun _ _ hruns hrun hleft =>
  ⟨fun hfreeze => exec_jtagCoreHalt hruns (Dev.coreHalt_freezes hrun hfreeze),
    fun hfreeze => exec_jtagCoreHalt hruns (Dev.coreHalt_runs_on hleft hfreeze),
    fun _ _ hresumes hheld => exec_jtagCoreHalt hresumes (Dev.coreHalt_resumes hheld)⟩

end Sys2Proof.Machine
end

section
/-! SUPPORT. The configuration fabric's commands where they can act: partial loads, swaps, the scrub and the Dowels' timers (R136, R143 to
R148). -/

namespace Sys2Proof.Machine

/-- An event of SYS, while SYS runs, is its operation on the device. -/
theorem State.next_sysDo {s : State} (hsys : s.dev.sysRuns = true) (f : Dev → Dev) :
    (.next (s.sysDo f) : Host.Outcome State Fault Refusal) = .next (s.did f) :=
  congrArg Host.Outcome.next (State.sysDo_did hsys f)

/-- An event of the service port, out of a cold reset, is its operation on the device. -/
theorem State.next_pdDo {s : State} (hcold : s.dev.rst.cold = false) (f : Dev → Dev) :
    (.next (s.pdDo f) : Host.Outcome State Fault Refusal) = .next (s.did f) :=
  congrArg Host.Outcome.next (State.pdDo_did hcold f)

/-- Settles O43, by what carries each command: the partial loads and the GO of a swap are events of SYS, the exchange of a Bench's planes
and the end of a Dowel's window events of LOOP, and the scrub needs only that no cold reset is held. -/
theorem fabricCommandsComplete : Obligations.FabricCommandsComplete := fun _ =>
  ⟨fun _ _ _ hsys => State.next_sysDo hsys _,
    fun _ hsys => State.next_sysDo hsys _,
    fun _ _ hsys => State.next_sysDo hsys _,
    fun _ _ hloop => State.next_loopDo hloop rfl,
    fun _ hcold => State.next_pdDo hcold _,
    fun _ hloop => exec_dowelTimerExpiry hloop rfl⟩

end Sys2Proof.Machine
end

section
/-! SUPPORT. A word written to a register of a Bench, a START in each state of its Bench (R165), and what the commands on Benches, current
senses and PWM come to where they can act. -/

namespace Sys2Proof.Machine

/-! ### A START (R165) -/

section
variable {d : Dev} {n : Nat}

theorem Dev.benchStart_ready (hbench : d.hasBench n = true) (hoff : d.get (F.BEN_STATUS_STATE n) = 0) (hready : d.ready 2 = true) :
    d.benchStart n = d.prestartEnter n := by
  simp [Dev.benchStart, hbench, hoff, hready]

theorem Dev.benchStart_held (hbench : d.hasBench n = true) (hoff : d.get (F.BEN_STATUS_STATE n) = 0) (hready : d.ready 2 = false) :
    d.benchStart n = d.modBench n (fun b => { b with startHeld := true }) := by
  simp [Dev.benchStart, hbench, hoff, hready]

theorem Dev.benchStart_stopping (hbench : d.hasBench n = true) (hstop : d.get (F.BEN_STATUS_STATE n) = 4) :
    d.benchStart n = d.note 3 (0x40000 + 0x100 * n) 0 (d.plainWord (0x40000 + 0x100 * n)) := by
  simp [Dev.benchStart, hbench, hstop]

theorem Dev.benchStart_dropped
    (h : d.hasBench n = false ∨ (d.get (F.BEN_STATUS_STATE n) ≠ 0 ∧ d.get (F.BEN_STATUS_STATE n) ≠ 4)) : d.benchStart n = d := by
  rcases h with habsent | ⟨hoff, hstop⟩
  · simp [Dev.benchStart, habsent]
  · simp [Dev.benchStart, hoff, hstop]

end

/-- Settles O26, by whether the Bench is configured, by its state, and by BEN READY. -/
theorem startActsOnlyInOff : Obligations.StartActsOnlyInOff := fun _ _ hloop =>
  ⟨fun hbench hoff hready => State.next_loopDo hloop (Dev.benchStart_ready hbench hoff hready),
    fun hbench hoff hready => State.next_loopDo hloop (Dev.benchStart_held hbench hoff hready),
    fun hbench hstop => State.next_loopDo hloop (Dev.benchStart_stopping hbench hstop),
    fun h => State.next_loopDo hloop (Dev.benchStart_dropped h)⟩

/-! ### Writes to a Bench's registers (R163, R167, R168, R182, R194) -/

/-- The registers of a Bench that have commands of their own, VSET, MARGIN, SLEW, PERIOD, PHDROP, OCCFG and OVUV, stand in the index
R506. -/
theorem rowAt_bench : ∀ n : Fin 16, ∀ off ∈ [0x04, 0x08, 0x0C, 0x10, 0x50, 0x70, 0x7C],
    (rowAt (0x40000 + off + 0x100 * n)).isSome = true := by decide +kernel

/-- A word for a register of a configured Bench that sets no enable before BEN is READY (R117) goes to that Bench. -/
theorem Dev.loopWrite_bench {d : Dev} {n : Fin 16} {off w : Nat} (hoff : off < 0x100)
    (hrow : (rowAt (0x40000 + off + 0x100 * n)).isSome = true) (hcfg : d.configured (0x40000 + off + 0x100 * n) = true)
    (hgo : d.goBlocked (0x40000 + off + 0x100 * n) w = false) : d.loopWrite (0x40000 + off + 0x100 * n) w = d.benBus n off w := by
  have hregion : regionOf (0x40000 + off + 0x100 * n) = 4 := by unfold regionOf; omega
  have hbench : (0x40000 + off + 0x100 * n - 0x40000) / 0x100 = (n : Nat) := by omega
  have hoffset : (0x40000 + off + 0x100 * n) % 0x100 = off := by omega
  have hnone : (rowAt (0x40000 + off + 0x100 * n)).isNone = false := by
    rw [← Option.not_isSome, hrow, Bool.not_true]
  simp only [Dev.loopWrite, hnone, hcfg, hgo, hregion, hbench, hoffset, Bool.not_true, Bool.or_self, Bool.false_eq_true, if_false]

/-- A write of a Bench's register that is taken at once is that Bench's. -/
theorem exec_benchWrite {s : State} {i : Instr} {n : Fin 16} {off w : Nat}
    (hexec : exec i s = .next (s.regWrite .core (0x40000 + off + 0x100 * n) w))
    (hmem : off ∈ [0x04, 0x08, 0x0C, 0x10, 0x50, 0x70, 0x7C]) (h : s.Takes (0x40000 + off + 0x100 * n) w) :
    exec i s = .next (s.did (fun d => d.benBus n off w)) := by
  obtain ⟨hoff, haligned⟩ : off < 0x100 ∧ off % 4 = 0 := by
    simp only [List.mem_cons, List.not_mem_nil, or_false] at hmem
    omega
  have hword : wordAddr (0x40000 + off + 0x100 * n) = 0x40000 + off + 0x100 * n := by unfold wordAddr; omega
  have hregion : regionOf (0x40000 + off + 0x100 * n) = 4 := by unfold regionOf; omega
  obtain ⟨⟨-, -, hcfg, hgo⟩, -⟩ := id h
  rw [hword] at hcfg hgo
  rw [hexec, State.regWrite_loop s _ w (by rw [hregion]; rfl) hword (by omega) h]
  exact congrArg Host.Outcome.next (State.did_congr (Dev.loopWrite_bench hoff (rowAt_bench n off hmem) hcfg hgo))

/-- Settles O44, by what carries each command: a write of one of a Bench's registers, or an event of LOOP. -/
theorem benchCommandsComplete : Obligations.BenchCommandsComplete := by
  intro s
  have next (f : Dev → Dev) (hloop : s.dev.loopRuns = true) :
      (.next (s.loopDo f) : Host.Outcome State Fault Refusal) = .next (s.looped f) := State.next_loopDo hloop rfl
  exact ⟨fun _ => next _, fun _ => next _, fun _ => next _, fun _ => next _, fun _ => next _, fun _ => next _, fun _ => next _,
    fun _ => next _, fun _ => next _,
    fun _ _ => exec_benchWrite (off := 0x04) rfl (by decide),
    ⟨fun _ _ => next _, fun _ _ => exec_benchWrite (off := 0x08) rfl (by decide)⟩,
    fun _ _ => exec_benchWrite (off := 0x0C) rfl (by decide),
    fun _ _ => exec_benchWrite (off := 0x10) rfl (by decide),
    fun _ _ => exec_benchWrite (off := 0x50) rfl (by decide),
    fun _ deb _ => match deb with
      | true => exec_benchWrite (off := 0x70) rfl (by decide)
      | false => exec_benchWrite (off := 0x7C) rfl (by decide),
    fun _ _ => next _, fun _ _ => next _, fun _ _ => next _, fun _ => next _, fun _ => next _⟩

end Sys2Proof.Machine
end

section
/-! SUPPORT. What a raise does to the Benches: it takes no Bench out of FORCED, and a HALT puts every configured Bench there (R165, R322,
R323). -/

namespace Sys2Proof.Machine

/-! ### Benches that stay forced -/

/-- A device in which Bench `n` is configured as in another, and FORCED if it is FORCED there. -/
def Dev.KeepsForced (n : Nat) (d e : Dev) : Prop :=
  e.hasBench n = d.hasBench n ∧ (d.get (F.BEN_STATUS_STATE n) = 5 → e.get (F.BEN_STATUS_STATE n) = 5)

/-- Bench `n` is FORCED if it is configured. -/
def Dev.BenchForced (n : Nat) (d : Dev) : Prop := d.hasBench n = true → d.get (F.BEN_STATUS_STATE n) = 5

section
variable {n : Nat}

theorem Dev.KeepsForced.refl (d : Dev) : d.KeepsForced n d := ⟨rfl, id⟩

theorem Dev.KeepsForced.trans {a b c : Dev} (h : a.KeepsForced n b) (g : b.KeepsForced n c) : a.KeepsForced n c := by
  obtain ⟨hsame, hforced⟩ := h
  obtain ⟨gsame, gforced⟩ := g
  exact ⟨gsame.trans hsame, gforced ∘ hforced⟩

theorem Dev.KeepsForced.benchForced {d e : Dev} (h : d.KeepsForced n e) (hd : d.BenchForced n) : e.BenchForced n := by
  obtain ⟨hsame, hforced⟩ := h
  exact fun hbench => hforced (hd (hsame ▸ hbench))

theorem Dev.KeepsForced.ite {c : Prop} [Decidable c] {d a b : Dev} (h : d.KeepsForced n a) (g : d.KeepsForced n b) :
    d.KeepsForced n (if c then a else b) := by split <;> assumption

theorem Dev.KeepsForced.each {α : Type} {f : α → Dev → Dev} (h : ∀ a d, Dev.KeepsForced n d (f a d)) (l : List α) (d : Dev) :
    d.KeepsForced n (Dev.each l f d) :=
  Dev.each_keeps (P := d.KeepsForced n) (fun a e he => he.trans (h a e)) l d (.refl d)

/-- What changes no register field and no Bench keeps every Bench as it was. -/
theorem Dev.KeepsForced.of_same {d e : Dev} (hregs : e.regs = d.regs) (hbenches : e.benches = d.benches) : d.KeepsForced n e := by
  constructor
  · simp only [Dev.hasBench, Dev.bench, hbenches]
  · simp only [Dev.get, hregs, imp_self]

/-- A field at another place in the register space than a Bench's STATUS.STATE: Benches stand 100h bytes, that is 2048 bits, apart. -/
theorem Dev.keepsForced_set (d : Dev) {f : Fld} (hf : f.key % 2048 ≠ 416) (v : Nat) : d.KeepsForced n (d.set f v) := by
  have hkey : (F.BEN_STATUS_STATE n).key ≠ f.key := by
    simp only [Fld.key, F.BEN_STATUS_STATE] at hf ⊢
    omega
  exact ⟨rfl, fun h => (d.get_set_other hkey v).trans h⟩

/-- A change of a Bench that leaves its plane leaves every Bench configured as it was. -/
theorem Dev.keepsForced_modBench (d : Dev) (m : Nat) {f : Bench → Bench} (hf : ∀ b, (f b).active = b.active) :
    d.KeepsForced n (d.modBench m f) := by
  refine ⟨?_, id⟩
  by_cases h : m = n
  · subst h
    by_cases hm : m < 16 <;> simp [Dev.hasBench, Dev.bench, Dev.modBench, hm, hf]
  · simp [Dev.hasBench, Dev.bench, Dev.modBench, h]

/-! ### Records, Clamps and frames -/

theorem Dev.keepsForced_record (d : Dev) (typ flags tick : Nat) (p : List Nat) : d.KeepsForced n (d.record typ flags tick p) := by
  have staged (r : Evr) (v : Nat) : d.KeepsForced n (({ d with evr := r } : Dev).set F.EVR_NEXTSEQ_SEQ v) :=
    Dev.keepsForced_set { d with evr := r } (by decide) v
  have lost (r : Evr) : d.KeepsForced n (({ d with evr := r } : Dev).inc F.EVR_COUNTS_LOST) :=
    Dev.keepsForced_set { d with evr := r } (by decide) _
  unfold Dev.record
  exact .ite ((staged _ _).trans (Dev.keepsForced_set _ (by decide) _)) (lost _)

theorem Dev.keepsForced_waveTrigger (d : Dev) (r : Nat) : d.KeepsForced n (d.waveTrigger r) := by
  have early (v : Evr) : d.KeepsForced n (({ d with evr := v } : Dev).stick F.EVR_WCFG_EARLYMISS 1) :=
    Dev.keepsForced_set { d with evr := v } (by decide) _
  unfold Dev.waveTrigger
  exact .ite (early _) (.of_same rfl rfl)

theorem Dev.keepsForced_waveIf (d : Dev) (w : Bool) (r : Nat) : d.KeepsForced n (d.waveIf w r) := by
  unfold Dev.waveIf
  exact .ite (d.keepsForced_waveTrigger r) (.refl _)

theorem Dev.keepsForced_clampMerged (d : Dev) (k : Nat) : d.KeepsForced n (d.clampMerged k) := by
  have cause : d.KeepsForced n (if d.on F.SNP_STATUS_HELD then d.orBits F.SNP_STATUS_CAUSE (2 ^ k) else d) :=
    .ite (d.keepsForced_set (by decide) _) (.refl _)
  exact cause.trans (Dev.keepsForced_set _ (by decide) _)

theorem Dev.keepsForced_clampMissed (d : Dev) (k c r o : Nat) : d.KeepsForced n (d.clampMissed k c r o) := by
  have counted : d.KeepsForced n ((d.inc F.SNP_COUNTS_MISSED).incMod F.SNP_NUMBER_NUMBER) :=
    (d.keepsForced_set (by decide) _).trans (Dev.keepsForced_set _ (by decide) _)
  unfold Dev.clampMissed
  exact (counted.trans (Dev.keepsForced_waveIf ..)).trans (Dev.keepsForced_record ..)

theorem Dev.keepsForced_clampShow (d : Dev) (k c r o : Nat) : d.KeepsForced n (d.clampShow k c r o) :=
  ((((d.keepsForced_set (by decide) _).trans (Dev.keepsForced_set _ (by decide) _)).trans
    (Dev.keepsForced_set _ (by decide) _)).trans (Dev.keepsForced_set _ (by decide) _)).trans (Dev.keepsForced_set _ (by decide) _)

theorem Dev.keepsForced_clampTake (d : Dev) (k c r o t : Nat) : d.KeepsForced n (d.clampTake k c r o t) := by
  have latched : d.KeepsForced n ((d.incMod F.SNP_NUMBER_NUMBER).clampLatch c r o t) := d.keepsForced_set (by decide) _
  unfold Dev.clampTake
  exact .ite (.refl _) (.ite (d.keepsForced_clampMerged k) (.ite (d.keepsForced_clampMissed ..)
    (((latched.trans (Dev.keepsForced_clampShow ..)).trans (Dev.keepsForced_waveIf ..)).trans (Dev.keepsForced_record ..))))

theorem Dev.keepsForced_queueOn (d : Dev) (h : Head) (l : List Nat) (g : Bool) (o : Out) (i : Option Nat) (p : Nat) :
    d.KeepsForced n (d.queueOn h l g o i p) := by
  unfold Dev.queueOn
  exact .ite (.of_same rfl rfl) (.refl _)

theorem Dev.keepsForced_sendClamp (d : Dev) (o t k s : Nat) : d.KeepsForced n (d.sendClamp o t k s) := by
  have given (e : Dev) (x : Out) : e.KeepsForced n { e with out := e.out ++ [x] } := .of_same rfl rfl
  have numbered : d.KeepsForced n (d.seqTake 1) := .of_same rfl rfl
  exact (numbered.trans (given _ _)).trans (.each (fun p e => e.keepsForced_queueOn _ _ _ _ _ p) _ _)

theorem Dev.keepsForced_clampSend (d : Dev) (k t : Nat) : d.KeepsForced n (d.clampSend k t) := by
  have pulse : d.KeepsForced n (if d.drives && d.ready 17 then d.clampPulse else d) := .ite (.of_same rfl rfl) (.refl _)
  unfold Dev.clampSend
  exact .ite pulse (pulse.trans (Dev.keepsForced_sendClamp ..))

theorem Dev.keepsForced_clampOwn (d : Dev) (k c : Nat) : d.KeepsForced n (d.clampOwn k c) := by
  unfold Dev.clampOwn
  exact .ite ((d.keepsForced_clampTake ..).trans (Dev.keepsForced_clampSend ..)) (.refl _)

theorem Dev.keepsForced_raiseClamp (d : Dev) (e : FaultEntry) (c : Cls) : d.KeepsForced n (d.raiseClamp e c) := by
  unfold Dev.raiseClamp
  exact .ite (.of_same rfl rfl) (.ite (d.keepsForced_clampOwn ..) (.refl _))

/-! ### Forces (R165, R187, R199, R277) -/

theorem Dev.keepsForced_lastFaultHold (d : Dev) (m : Nat) (l : List Nat) : d.KeepsForced n (d.lastFaultHold m l) := by
  have lost : d.KeepsForced n (if (d.bench m).lf.isSome then d.inc (F.BEN_LFSTAT_LOST m) else d) :=
    .ite (d.keepsForced_set (by simp only [Fld.key, F.BEN_LFSTAT_LOST]; omega) _) (.refl _)
  have held (e : Dev) (r : Option LastFault) : e.KeepsForced n (e.modBench m (fun b => { b with lf := r })) :=
    e.keepsForced_modBench m (fun _ => rfl)
  have pending (e : Dev) : e.KeepsForced n (e.setB (F.BEN_LFSTAT_PENDING m) true) :=
    e.keepsForced_set (by simp only [Fld.key, F.BEN_LFSTAT_PENDING]; omega) _
  unfold Dev.lastFaultHold
  exact (lost.trans (held _ _)).trans (pending _)

theorem Dev.keepsForced_lastFault (d : Dev) (m s c : Nat) : d.KeepsForced n (d.lastFault m s c) := by
  have marked (x : LfMark) : d.KeepsForced n (d.modBench m (fun b => { b with lfMark := some x })) :=
    d.keepsForced_modBench m (fun _ => rfl)
  have put (e : Dev) (w : VWrite) : e.KeepsForced n (e.vaultPut w) := .of_same rfl rfl
  unfold Dev.lastFault
  exact .ite ((marked _).trans (Dev.keepsForced_lastFaultHold ..))
    (((marked _).trans (put _ _)).trans (Dev.keepsForced_modBench _ m (fun _ => rfl)))

theorem Dev.keepsForced_lastFaultMeet (d : Dev) (m s c : Nat) : d.KeepsForced n (d.lastFaultMeet m s c) := by
  have queued (e : Dev) (v : Vault) : e.KeepsForced n { e with vault := v } := .of_same rfl rfl
  unfold Dev.lastFaultMeet
  split
  · exact .refl _
  · refine .ite (.refl _) ?_
    extract_lets lower cause patch e
    have marked : d.KeepsForced n e := d.keepsForced_modBench m (fun _ => rfl)
    exact .ite marked (marked.trans (queued _ _))

theorem Dev.keepsForced_prestartForced (d : Dev) (m : Nat) : d.KeepsForced n (d.prestartForced m) := by
  unfold Dev.prestartForced
  exact .ite (d.keepsForced_set (by simp only [Fld.key, F.BEN_PSTEST_RESULT]; omega) _) (.refl _)

theorem Dev.keepsForced_forceNotes (d : Dev) (m : Nat) : d.KeepsForced n (d.forceNotes m) := by
  have cleared (i : Nat) (e : Dev) : e.KeepsForced n (e.modMon i (fun x => { x with ovRun := 0 })) := .of_same rfl rfl
  unfold Dev.forceNotes
  exact Dev.KeepsForced.trans (.ite (.each cleared _ _) (.refl _)) (Dev.keepsForced_modBench _ m (fun _ => rfl))

theorem Dev.keepsForced_benchQuiet (d : Dev) (m : Nat) : d.KeepsForced n (d.benchQuiet m) := by
  have status {lo : Nat} (w : Nat) (e : Dev) (hlo : 0 < lo ∧ lo < 32) (v : Nat) :
      e.KeepsForced n (e.set ⟨0x40034 + 0x100 * m, lo, w⟩ v) := e.keepsForced_set (by simp only [Fld.key]; omega) v
  unfold Dev.benchQuiet
  exact (((((((status _ d (by decide) _).trans (status _ _ (by decide) _)).trans (status _ _ (by decide) _)).trans
    (status _ _ (by decide) _)).trans (status _ _ (by decide) _)).trans
    (Dev.keepsForced_set _ (by simp only [Fld.key, F.BEN_PHACT_ACT]; omega) _)).trans
    (Dev.keepsForced_set _ (by simp only [Fld.key, F.BEN_DUTY_DUTY]; omega) _))

/-- A Bench put to rest in FORCED is FORCED. -/
theorem Dev.get_benchRest_forced (d : Dev) (m : Nat) (c : Cond) : (d.benchRest m .forced c).get (F.BEN_STATUS_STATE m) = 5 := by
  unfold Dev.benchRest
  exact Dev.get_set_same ..

theorem Dev.keepsForced_benchRest_forced (d : Dev) (m : Nat) (c : Cond) : d.KeepsForced n (d.benchRest m .forced c) := by
  have shown (e : Dev) : e.KeepsForced n (e.set (F.BEN_STATUS_STATE m) BState.forced.code) := by
    refine ⟨rfl, fun h => ?_⟩
    by_cases hm : n = m
    · rw [hm]
      exact e.get_set_same ..
    · have hkey : (F.BEN_STATUS_STATE n).key ≠ (F.BEN_STATUS_STATE m).key := by
        simp only [Fld.key, F.BEN_STATUS_STATE]
        omega
      exact (e.get_set_other hkey _).trans h
  unfold Dev.benchRest
  extract_lets e
  have rested : d.KeepsForced n e := d.keepsForced_modBench m (fun _ => rfl)
  exact (rested.trans (e.keepsForced_benchQuiet m)).trans (shown _)

theorem Dev.keepsForced_benchForce (d : Dev) (m s : Nat) (c : Cls) : d.KeepsForced n (d.benchForce m s c) := by
  unfold Dev.benchForce
  exact .ite (.refl _) (.ite (d.keepsForced_lastFaultMeet ..) ((((d.keepsForced_prestartForced m).trans
    (Dev.keepsForced_lastFault ..)).trans (Dev.keepsForced_forceNotes ..)).trans (Dev.keepsForced_benchRest_forced ..)))

/-- A force puts its Bench in FORCED, or finds it there. -/
theorem Dev.benchForced_benchForce (d : Dev) (s : Nat) (c : Cls) : (d.benchForce n s c).BenchForced n := by
  unfold Dev.benchForce
  split
  case isTrue habsent => exact fun hbench => absurd hbench (by simpa using habsent)
  case isFalse =>
    split
    case isTrue hforced => exact (d.keepsForced_lastFaultMeet ..).benchForced (fun _ => by simpa [BState.code] using hforced)
    case isFalse => exact fun _ => Dev.get_benchRest_forced ..

theorem Dev.keepsForced_slotForce (d : Dev) (m : Nat) : d.KeepsForced n (d.slotForce m) := by
  have ends : d.KeepsForced n (d.seqEnds m) := by
    unfold Dev.seqEnds
    exact .ite (.of_same rfl rfl) (.refl _)
  have changed (e : Dev) (f : Slot → Slot) : e.KeepsForced n (e.modSlot m f) := .of_same rfl rfl
  have gone (e : Dev) : e.KeepsForced n (e.slotGo m .forced) := by
    unfold Dev.slotGo
    exact ((changed _ _).trans (Dev.keepsForced_set _ (by simp only [Fld.key, F.HSW_STATUS_STATE]; omega) _)).trans
      (Dev.keepsForced_set _ (by simp only [Fld.key, F.HSW_STATUS_PG]; omega) _)
  unfold Dev.slotForce
  exact .ite (.refl _) ((ends.trans (changed _ _)).trans (gone _))

theorem Dev.keepsForced_forceFor (d : Dev) (s : Nat) (c : Cls) : d.KeepsForced n (d.forceFor s c) := by
  unfold Dev.forceFor
  refine .ite (.refl _) ?_
  split
  · exact (Dev.KeepsForced.each (fun m e => e.keepsForced_benchForce m s .halt) _ _).trans
      (.each (fun m e => e.keepsForced_slotForce m) _ _)
  · exact (Dev.KeepsForced.each (fun m e => .ite (e.keepsForced_benchForce m s .trip) (.refl _)) _ _).trans
      (.each (fun m e => .ite (e.keepsForced_slotForce m) (.refl _)) _ _)
  · exact .each (fun m e => .ite (e.keepsForced_lastFaultMeet ..) (.refl _)) _ _

/-- A HALT, COREECC excepted, forces every Bench (R322, R323, R328). -/
theorem Dev.benchForced_forceFor_halt (d : Dev) (hn : n < 16) {s : Nat} (hs : s ≠ coreEcc) : (d.forceFor s .halt).BenchForced n := by
  unfold Dev.forceFor
  rw [if_neg (by simpa using hs)]
  have forced : (Dev.each (List.range 16) (fun m e => e.benchForce m s .halt) d).BenchForced n :=
    Dev.each_establishes (f := fun m e => e.benchForce m s .halt) (P := Dev.BenchForced n) (fun e => e.benchForced_benchForce s .halt)
      (fun m e he => (e.keepsForced_benchForce m s .halt).benchForced he) _ d (List.mem_range.mpr hn)
  exact (Dev.KeepsForced.each (fun m e => e.keepsForced_slotForce m) _ _).benchForced forced

/-! ### Raises (R321, R322, R333) -/

theorem Dev.keepsForced_raiseMark (d : Dev) (s : Nat) (b : Cls) : d.KeepsForced n (d.raiseMark s b) := by
  have counted (e : Dev) : e.KeepsForced n (e.inc F.PRO_COUNTS_RAISES) := e.keepsForced_set (by decide) _
  have listed (l : LevelX) (r : List Raised) (p f : List Nat) :
      d.KeepsForced n ({ d with alertX := l, raised := r, proNow := p, freshSrc := f } : Dev) := .of_same rfl rfl
  unfold Dev.raiseMark
  exact ((listed _ _ _ _).trans (counted _)).trans (Dev.keepsForced_set _ (by decide) _)

theorem Dev.keepsForced_liftActs (d : Dev) (x : Raised) (c : Cls) : d.KeepsForced n (d.liftActs x c) := by
  have corrected : d.KeepsForced n (d.faultRecordLift x.src c) := .of_same rfl rfl
  have acted := corrected.trans (Dev.keepsForced_forceFor _ x.src c)
  unfold Dev.liftActs
  dsimp only
  split
  · exact .ite (acted.trans (Dev.keepsForced_raiseClamp ..)) acted
  · exact acted

/-- What a raise does after its forces: its Clamp, and what it lifts. -/
theorem Dev.keepsForced_clampAndLifts (d : Dev) (e : FaultEntry) (c b : Cls) (up : List Raised) :
    d.KeepsForced n (Dev.each up (fun x d => d.liftActs x b) (d.raiseClamp e c)) :=
  (d.keepsForced_raiseClamp e c).trans (.each (fun x d => d.keepsForced_liftActs x b) _ _)

theorem Dev.keepsForced_raiseOne (d : Dev) (s : Nat) : d.KeepsForced n (d.raiseOne s) := by
  unfold Dev.raiseOne
  split
  · exact .refl _
  · exact .ite (.refl _) (.ite (.of_same rfl rfl) ((((d.keepsForced_raiseMark ..).trans (Dev.keepsForced_record ..)).trans
      (Dev.keepsForced_forceFor ..)).trans (Dev.keepsForced_clampAndLifts ..)))

theorem Dev.keepsForced_ovArmed : ∀ (k : Nat) (d : Dev), d.KeepsForced n (Dev.ovArmed k d)
  | 0, d => .refl d
  | k + 1, d => by
    have disarmed (m : Nat) (e : Dev) : e.KeepsForced n (e.modBench m (fun b => { b with ovArm := false })) :=
      e.keepsForced_modBench m (fun _ => rfl)
    unfold Dev.ovArmed
    exact .ite (.refl _) (((Dev.KeepsForced.each disarmed _ _).trans
      (.each (fun s e => e.keepsForced_raiseOne s) _ _)).trans (Dev.keepsForced_ovArmed k _))

theorem Dev.keepsForced_raise (d : Dev) (s : Nat) : d.KeepsForced n (d.raise s) :=
  (d.keepsForced_raiseOne s).trans (Dev.keepsForced_ovArmed ..)

/-- A source of base class HALT takes HALT in effect: there is no class above it (R18, R331). -/
theorem judge_halt (start batch : List Raised) (s : Nat) : judge start batch .halt s = .halt := ite_self _

/-- A source of base class HALT that is raised anew, COREECC excepted, forces every Bench. -/
theorem Dev.benchForced_raise_halt {d : Dev} {s : Nat} {e : FaultEntry} (hn : n < 16) (hs : s ≠ coreEcc) (hentry : d.entry s = some e)
    (hhalt : e.cls = .halt) (hready : d.ready 12 = true) (hnew : d.sticky s = false) : (d.raise s).BenchForced n := by
  have heff : d.effNow e.cls s = .halt := by rw [hhalt]; exact judge_halt ..
  have raised : (d.raiseOne s).BenchForced n := by
    simp only [Dev.raiseOne, hentry, hready, hnew, heff, Bool.not_true, Bool.false_eq_true, if_false]
    exact (Dev.keepsForced_clampAndLifts ..).benchForced (Dev.benchForced_forceFor_halt _ hn hs)
  exact (Dev.keepsForced_ovArmed ..).benchForced raised

end

/-! ### KILL_N (R337) -/

/-- A low KILL_N that PRO, READY, hears raises KILLIN: a simplex device hears it where it does not itself sink the line. -/
theorem Dev.killLine_low {d : Dev} (hready : d.ready 12 = true) (hsink : d.killSink = false) (hsimplex : d.isDuplex = false) :
    d.killLine true = ({ d with killLow := true } : Dev).raise 648 := by
  have hheard : ({ d with killLow := true } : Dev).killHeard = true := by
    have sink : ({ d with killLow := true } : Dev).killSink = false := hsink
    have simplex : ({ d with killLow := true } : Dev).isDuplex = false := hsimplex
    simp only [Dev.killHeard, sink, simplex, Bool.not_false, Bool.false_and, Bool.and_self]
  have ready : ({ d with killLow := true } : Dev).ready 12 = true := hready
  simp only [Dev.killLine, ready, hheard, Bool.and_self, if_true]

/-- Settles O15: the low KILL_N raises KILLIN, which as a HALT forces every Bench, and nothing in a raise takes a Bench out of FORCED. -/
theorem haltForcesEveryBench : Obligations.HaltForcesEveryBench := by
  intro s e hcold hready hsink hsimplex hentry hhalt hnew
  refine ⟨s.did (fun d => d.killLine true), congrArg Host.Outcome.next (State.pdDo_did hcold _), rfl, rfl, fun n hbench => ?_⟩
  have raises := Dev.killLine_low hready hsink hsimplex
  obtain ⟨hsame, -⟩ := Dev.keepsForced_raise (n := n) { s.dev with killLow := true } 648
  have forced : (({ s.dev with killLow := true } : Dev).raise 648).BenchForced n :=
    Dev.benchForced_raise_halt n.isLt (by decide) hentry hhalt hready hnew
  rw [State.did_dev, raises]
  exact forced (hsame.trans hbench)

end Sys2Proof.Machine
end

section
/-! SUPPORT. What a broadcast of the rack's cap assigns (R222, R224, R391), a write of CAP.FORCE (R225), and what the commands on the cap
come to where they can act. -/

namespace Sys2Proof.Machine

/-! ### A broadcast of the rack's cap (R222, R224, R391) -/

/-- A broadcast of none lifts the assignment. -/
theorem Dev.capqRx_none (d : Dev) (q seq : Nat) : d.capqRx q seq true
    = (d.fromManager.setB F.CAP_STATUS_LINKHOLD false).set F.CAP_PASSIGN_PASSIGN 0xFFFFFFFF := rfl

/-- A broadcast for a sequence number under which the shelf sent a contribution assigns `q` / 65,536 of it: hearing from the manager and
ending LINKHOLD leave what was sent as it is. -/
theorem Dev.capqRx_sent {d : Dev} {seq : Nat} {x : Nat × Nat} (q : Nat) (h : d.cap.sent.find? (fun y => y.1 == seq) = some x) :
    d.capqRx q seq false
      = (d.fromManager.setB F.CAP_STATUS_LINKHOLD false).set F.CAP_PASSIGN_PASSIGN (q * x.2 / 65536) := by
  have sent : (d.fromManager.setB F.CAP_STATUS_LINKHOLD false).cap.sent.find? (fun y => y.1 == seq) = some x := h
  simp only [Dev.capqRx, sent, Bool.false_eq_true, if_false]

/-- Settles O27, by whether the broadcast is one of none. -/
theorem broadcastSetsTheAssignment : Obligations.BroadcastSetsTheAssignment := fun s q seq _ hloop =>
  ⟨State.next_loopDo hloop (s.dev.capqRx_none q seq), fun hsent => State.next_loopDo hloop (Dev.capqRx_sent q hsent)⟩

/-! ### Writes to CAP.FORCE (R225) -/

/-- A word for CAP.FORCE goes to CAP: the register belongs to no instance that the bitstream may leave out (R504), and it holds no enable
that would wait for READY (R117). -/
theorem Dev.loopWrite_capForce (d : Dev) (w : Nat) : d.loopWrite F.CAP_FORCE_THR.addr w = d.capForce w := by
  have hrow : (rowAt F.CAP_FORCE_THR.addr).isNone = false := by decide +kernel
  have hcfg : d.configured F.CAP_FORCE_THR.addr = true := rfl
  have hgo : d.goBlocked F.CAP_FORCE_THR.addr w = false := by
    have mask : goMask F.CAP_FORCE_THR.addr = 0 := rfl
    have ready : readyOf (regionOf F.CAP_FORCE_THR.addr) = some 7 := rfl
    simp [Dev.goBlocked, ready, mask]
  unfold Dev.loopWrite
  rw [hrow, hcfg, hgo]
  rfl

/-- A write of CAP.FORCE that is taken at once. -/
theorem State.regWrite_capForce {s : State} {w : Nat} (h : s.Takes F.CAP_FORCE_THR.addr w) :
    s.regWrite .core F.CAP_FORCE_THR.addr w = s.did (fun d => d.capForce w) :=
  (State.regWrite_loop s _ w (by decide) (by decide) (by decide) h).trans (State.did_congr (s.dev.loopWrite_capForce w))

/-- Settles O46: CAP.FORCE is a register of CAP, and every other command is an event of LOOP. -/
theorem capCommandsComplete : Obligations.CapCommandsComplete := by
  intro s
  have next (f : Dev → Dev) (hloop : s.dev.loopRuns = true) :
      (.next (s.loopDo f) : Host.Outcome State Fault Refusal) = .next (s.looped f) := State.next_loopDo hloop rfl
  exact ⟨next _, next _, next _, next _, next _,
    fun _ htakes => congrArg Host.Outcome.next (State.regWrite_capForce htakes),
    next _, fun _ _ _ _ _ => next _, fun _ _ => next _, next _, fun _ _ _ => next _⟩

end Sys2Proof.Machine
end

section
/-! SUPPORT. When a shutdown commits (R239, R241), and what the commands on the energy ledger and its audit come to where they can act. -/

namespace Sys2Proof.Machine

/-! ### The commit at w + R (R239, R241) -/

section
variable {d : Dev}

theorem Dev.engCommit_due (hwarn : d.get F.ENG_STATUS_STATE = 4) (hdue : d.eng.w + d.reprieve * ms ≤ d.loop) :
    d.engCommit = d.commitNow := if_pos ⟨hwarn, hdue⟩

theorem Dev.engCommit_early (hearly : d.loop < d.eng.w + d.reprieve * ms) : d.engCommit = d :=
  if_neg fun ⟨_, hdue⟩ => Nat.not_le_of_lt hearly hdue

theorem Dev.engCommit_other (hother : d.get F.ENG_STATUS_STATE ≠ 4) : d.engCommit = d :=
  if_neg fun ⟨hwarn, _⟩ => hother hwarn

end

/-- Settles O28, by ENG's state and whether the reprieve has run. -/
theorem commitWaitsForTheReprieve : Obligations.CommitWaitsForTheReprieve := fun _ hloop =>
  ⟨fun hwarn hdue => State.next_loopDo hloop (Dev.engCommit_due hwarn hdue),
    fun _ hearly => State.next_loopDo hloop (Dev.engCommit_early hearly),
    fun hother => State.next_loopDo hloop (Dev.engCommit_other hother)⟩

/-- Settles O47: every command is an event of LOOP that does one operation of ENG. -/
theorem energyCommandsComplete : Obligations.EnergyCommandsComplete := by
  intro s
  have next (f : Dev → Dev) (hloop : s.dev.loopRuns = true) :
      (.next (s.loopDo f) : Host.Outcome State Fault Refusal) = .next (s.looped f) := State.next_loopDo hloop rfl
  exact ⟨next Dev.engCompute, next Dev.inputLost, next Dev.inputReturn, next Dev.engCommit,
    fun g => next (·.engGroupDown g), next Dev.shutdownEnd, next Dev.engRequal,
    fun k t _ _ => next (·.auditStep k t), next Dev.auditActive, next Dev.auditReturn⟩

end Sys2Proof.Machine
end

section
/-! SUPPORT. A GOOD rail at the end of FAILDB (R258), writes to SEQ's registers (R261, R267, R271), and what the commands on rails and
request groups come to where they can act. -/

namespace Sys2Proof.Machine

/-! ### A rail at the end of FAILDB (R256, R258) -/

section
variable {d : Dev} {r : Nat} {c : RailCfg}

theorem Dev.railFailed_ran (hcfg : d.railCfg r = some c) (hlive : c.live = true) (hgood : d.rstate r = .good)
    (hran : d.ranFor c (d.rail r).failRun c.faildb = true) :
    d.railFailed r = (d.railFail c (match c.kind with | .cond _ => 4 | _ => 1) (srcSeq 1 c.group)).showGroups := by
  unfold Dev.railFailed
  rw [hcfg]
  exact if_pos (by rw [hlive, hgood, hran]; rfl)

theorem Dev.railFailed_not_ran (hcfg : d.railCfg r = some c)
    (h : c.live = false ∨ d.rstate r ≠ .good ∨ d.ranFor c (d.rail r).failRun c.faildb = false) : d.railFailed r = d := by
  unfold Dev.railFailed
  rw [hcfg]
  refine if_neg ?_
  rcases h with hlive | hstate | hran
  · simp [hlive]
  · simp [hstate]
  · simp [hran]

end

/-- Settles O25, by whether the rail is live, GOOD, and has been out for FAILDB. -/
theorem railFailsAfterFaildb : Obligations.RailFailsAfterFaildb := fun _ _ _ hloop hcfg =>
  ⟨fun hlive hgood hran => State.next_loopDo hloop (Dev.railFailed_ran hcfg hlive hgood hran),
    fun h => State.next_loopDo hloop (Dev.railFailed_not_ran hcfg h)⟩

/-! ### Instances of a register (R506) -/

/-- The first word of each instance of a register belongs to that register. -/
theorem RegRow.locate_instance {r : RegRow} {n : Nat} (hstride : 0 < r.stride) (hn : n < r.count) (hwords : 0 < r.subCount) :
    (r.locate (r.base + r.stride * n)).isSome = true := by
  have hbase : ¬ r.base + r.stride * n < r.base := Nat.not_lt.2 (Nat.le_add_right _ _)
  have hindex : (r.base + r.stride * n - r.base) / r.stride = n := by
    rw [Nat.add_sub_cancel_left, Nat.mul_div_cancel_left n hstride]
  have hrest : r.base + r.stride * n - r.base - n * r.stride = 0 := by
    rw [Nat.add_sub_cancel_left, Nat.mul_comm n, Nat.sub_self]
  have hword : (if r.sub = 0 then 0 else 0 / r.sub) = 0 := by rw [Nat.zero_div, ite_self]
  simp only [RegRow.locate, if_neg hbase, if_neg (Nat.ne_of_gt hstride), hindex, hrest, hword]
  rw [if_pos ⟨hn, hwords, (Nat.zero_mul _).symm⟩]
  rfl

/-- Each instance of a register that the index holds is found there. -/
theorem rowAt_instance {k base stride count n : Nat}
    (hrow : ∃ r ∈ regRows k, r.base = base ∧ r.stride = stride ∧ r.count = count ∧ 0 < r.subCount)
    (hstride : 0 < stride) (hn : n < count) (hregion : regionOf (base + stride * n) = k) :
    (rowAt (base + stride * n)).isSome = true := by
  obtain ⟨r, hmem, rfl, rfl, rfl, hwords⟩ := hrow
  unfold regionOf at hregion
  rw [rowAt, hregion]
  exact List.find?_isSome.2 ⟨r, hmem, r.locate_instance hstride hn hwords⟩

/-! ### Writes to SEQ (R261, R267, R271) -/

section
variable {s : State} {a w : Nat}

/-- A word for a register of SEQ that sets no request before SEQ is READY (R117), nor names a rail that is not there (R504), goes to SEQ. -/
theorem Dev.loopWrite_seq {d : Dev} (hregion : regionOf a = 12) (hrow : (rowAt a).isSome = true) (hcfg : d.configured a = true)
    (hgo : d.goBlocked a w = false) : d.loopWrite a w = d.seqBus a w := by
  have hnone : (rowAt a).isNone = false := by rw [← Option.not_isSome, hrow, Bool.not_true]
  simp only [Dev.loopWrite, hnone, hcfg, hgo, hregion, Bool.not_true, Bool.or_self, Bool.false_eq_true, if_false]

/-- A write of a register of SEQ that is taken at once does what SEQ does with the word. -/
theorem State.regWrite_seq {f : Dev → Dev} (hregion : regionOf a = 12) (hword : wordAddr a = a) (hrow : (rowAt a).isSome = true)
    (hf : s.dev.seqBus a w = f s.dev) (h : s.Takes a w) : s.regWrite .core a w = s.did f := by
  obtain ⟨⟨-, -, hcfg, hgo⟩, -⟩ := id h
  rw [hword] at hcfg hgo
  have hspace : a < 0x400000 := by unfold regionOf at hregion; omega
  rw [State.regWrite_loop s a w (by rw [hregion]; rfl) hword hspace h]
  exact State.did_congr ((Dev.loopWrite_seq hregion hrow hcfg hgo).trans hf)

end

/-- A write of SEQ.REQ that is taken at once: its low half requests on, its high half off. -/
theorem State.regWrite_seqReq {s : State} {w on off : Nat} (hon : w % 0x10000 = on) (hoff : w / 0x10000 = off)
    (h : s.Takes F.SEQ_REQ_ON.addr w) : s.regWrite .core F.SEQ_REQ_ON.addr w = s.did (fun d => d.seqReq on off) :=
  State.regWrite_seq (by decide) (by decide) (by decide +kernel) (by rw [← hon, ← hoff]; rfl) h

/-- A write of SEQ.g.MARGIN that is taken at once. -/
theorem State.regWrite_seqMargin {s : State} {g : Fin 16} {w : Nat} (h : s.Takes (F.SEQ_MARGIN_MARGIN g).addr w) :
    s.regWrite .core (F.SEQ_MARGIN_MARGIN g).addr w = s.did (fun d => d.seqMargin g w) := by
  simp only [F.SEQ_MARGIN_MARGIN] at h ⊢
  have hregion : regionOf (0xC0104 + 8 * g) = 12 := by unfold regionOf; omega
  have hword : wordAddr (0xC0104 + 8 * g) = 0xC0104 + 8 * g := by unfold wordAddr; omega
  refine State.regWrite_seq hregion hword (rowAt_instance (count := 16) (by decide +kernel) (by decide) g.isLt hregion) ?_ h
  have hreq : ¬ 0xC0104 + 8 * (g : Nat) = 0xC0004 := by omega
  have hmargin : 0xC0104 ≤ 0xC0104 + 8 * (g : Nat) ∧ 0xC0104 + 8 * (g : Nat) < 0xC0180 ∧ (0xC0104 + 8 * (g : Nat)) % 8 = 4 := by
    omega
  have hgroup : (0xC0104 + 8 * (g : Nat) - 0xC0104) / 8 = g := by omega
  rw [Dev.seqBus, if_neg hreq, if_pos hmargin, hgroup]

/-- A write of 1 to a FAILMARK, and of nothing else, that is taken at once: the rest of the rail's word takes 0. -/
theorem State.regWrite_failmark {s : State} {r : Fin 1024} (h : s.Takes (F.SEQ_STATE_FAILMARK r).addr 0x40) :
    s.regWrite .core (F.SEQ_STATE_FAILMARK r).addr 0x40
      = s.did (fun d => (d.plainWrite (F.SEQ_STATE_FAILMARK r).addr 0).failmarkClear r) := by
  simp only [F.SEQ_STATE_FAILMARK] at h ⊢
  have hregion : regionOf (0xC1000 + 4 * r) = 12 := by unfold regionOf; omega
  have hword : wordAddr (0xC1000 + 4 * r) = 0xC1000 + 4 * r := by unfold wordAddr; omega
  refine State.regWrite_seq hregion hword (rowAt_instance (count := 1024) (by decide +kernel) (by decide) r.isLt hregion) ?_ h
  have hreq : ¬ 0xC1000 + 4 * (r : Nat) = 0xC0004 := by omega
  have hmargin : ¬ (0xC0104 ≤ 0xC1000 + 4 * (r : Nat) ∧ 0xC1000 + 4 * (r : Nat) < 0xC0180 ∧ (0xC1000 + 4 * (r : Nat)) % 8 = 4) := by
    omega
  have hrail : (0xC1000 + 4 * (r : Nat) - 0xC1000) / 4 = r := by omega
  rw [Dev.seqBus, if_neg hreq, if_neg hmargin, if_pos (Nat.le_add_right _ _), hrail]
  rfl

/-- Settles O49: four commands write registers of SEQ, and every other is an event of LOOP that does one operation of SEQ. -/
theorem railsCommandsComplete : Obligations.RailsCommandsComplete := by
  intro s
  have next (f : Dev → Dev) (hloop : s.dev.loopRuns = true) :
      (.next (s.loopDo f) : Host.Outcome State Fault Refusal) = .next (s.looped f) := State.next_loopDo hloop rfl
  exact ⟨fun _ htakes => congrArg Host.Outcome.next (State.regWrite_seqReq rfl rfl htakes),
    fun mask htakes => congrArg Host.Outcome.next
      (State.regWrite_seqReq (Nat.mul_mod_left mask _) (Nat.mul_div_cancel mask (by decide)) htakes),
    next Dev.seqStrobe, fun r => next (·.seqReading r), fun r => next (·.railQualified r), fun r => next (·.railFailed r),
    fun r => next (·.railWarned r), fun r => next (·.startTime r), fun e => next (·.edgeDone e), fun g => next (·.requalDone g),
    fun _ htakes => congrArg Host.Outcome.next (State.regWrite_failmark htakes),
    fun _ _ htakes => congrArg Host.Outcome.next (State.regWrite_seqMargin htakes),
    fun r => next (·.msettle r), next Dev.fullReport, fun w entries => next (·.railRep w entries),
    fun on off => next (·.seqReq on off), fun w => next (·.reportStale w)⟩

end Sys2Proof.Machine
end

section
/-! SUPPORT. A write of SHR.VBUS (R207), a window comparator's change (R321), and what the commands on the monitor and current sharing come
to where they can act. -/

namespace Sys2Proof.Machine

/-! ### Writes to SHR.VBUS (R207) -/

/-- A word for SHR.VBUS goes to SHR: the register belongs to no instance that the bitstream may leave out (R504), and it holds no enable
that would wait for READY (R117). -/
theorem Dev.loopWrite_shrVbus (d : Dev) (w : Nat) : d.loopWrite F.SHR_VBUS_VBUS.addr w = d.shrVbusWrite w := by
  have hrow : (rowAt F.SHR_VBUS_VBUS.addr).isNone = false := by decide +kernel
  have hcfg : d.configured F.SHR_VBUS_VBUS.addr = true := rfl
  have hgo : d.goBlocked F.SHR_VBUS_VBUS.addr w = false := by
    have mask : goMask F.SHR_VBUS_VBUS.addr = 0 := rfl
    have ready : readyOf (regionOf F.SHR_VBUS_VBUS.addr) = some 6 := rfl
    simp [Dev.goBlocked, ready, mask]
  unfold Dev.loopWrite
  rw [hrow, hcfg, hgo]
  rfl

/-- A write of SHR.VBUS that is taken at once. -/
theorem State.regWrite_shrVbus {s : State} {w : Nat} (h : s.Takes F.SHR_VBUS_VBUS.addr w) :
    s.regWrite .core F.SHR_VBUS_VBUS.addr w = s.did (fun d => d.shrVbusWrite w) :=
  (State.regWrite_loop s _ w (by decide) (by decide) (by decide) h).trans (State.did_congr (s.dev.loopWrite_shrVbus w))

/-! ### A window comparator's change (R276, R321) -/

/-- What a comparator shows neither stops LOOP nor sets it running. -/
theorem Dev.loopRuns_cmpSet (d : Dev) (inp : CmpInput) (below above : Bool) : (d.cmpSet inp below above).loopRuns = d.loopRuns := by
  cases inp with
  | window i => rfl
  | enh n => rfl

/-- Settles O45: SHR.VBUS is a register of SHR, a comparator's level stands whether LOOP runs or not, and every other command is an event of
LOOP. -/
theorem monitorAndShareCommandsComplete : Obligations.MonitorAndShareCommandsComplete := by
  intro s
  have next (f : Dev → Dev) (hloop : s.dev.loopRuns = true) :
      (.next (s.loopDo f) : Host.Outcome State Fault Refusal) = .next (s.looped f) := State.next_loopDo hloop rfl
  exact ⟨fun inp code => next (·.arrives (.mon inp code)), fun h v => next (·.arrives (.hvm h v)),
    ⟨fun inp below above hloop => congrArg Host.Outcome.next
        (State.loopDo_looped ((s.dev.loopRuns_cmpSet inp below above).trans hloop) _),
      fun inp below above hstop => congrArg Host.Outcome.next
        (State.loopDo_stopped _ _ ((s.dev.loopRuns_cmpSet inp below above).trans hstop))⟩,
    next Dev.shrCompute,
    fun _ htakes => congrArg Host.Outcome.next (State.regWrite_shrVbus htakes),
    next Dev.pollPeriod, fun r answer => next (·.arrives (.poll r answer))⟩

end Sys2Proof.Machine
end

section
/-! SUPPORT. What a shed leaves of its slot and of the device (R294, R295), when the slots' timers trip (R277, R281, R283, R290), writes of
HSW.n.CTRL (R278, R293), and what the commands on slots come to where they can act. -/

namespace Sys2Proof.Machine

/-! ### A slot through its requests and its states (R277, R294) -/

/-- A register is no part of a slot. -/
@[simp] theorem Dev.slot_set (d : Dev) (f : Fld) (v k : Nat) : (d.set f v).slot k = d.slot k := rfl

@[simp] theorem Dev.slot_setB (d : Dev) (f : Fld) (b : Bool) (k : Nat) : (d.setB f b).slot k = d.slot k := rfl

/-- A slot that anyone asks to shed has a request standing. -/
theorem Slot.shedReq_setReq (s : Slot) (b : ShedBy) : (s.setReq b true).shedReq = true := by
  cases b <;> simp [Slot.setReq, Slot.shedReq]

/-- A request neither moves the slot, nor drives its gate, nor touches its retry timer. -/
theorem Slot.setReq_kept (s : Slot) (b : ShedBy) (v : Bool) :
    (s.setReq b v).state = s.state ∧ (s.setReq b v).gate = s.gate ∧ (s.setReq b v).retryEnd = s.retryEnd := by
  cases b <;> exact ⟨rfl, rfl, rfl⟩

/-- A slot in a state that does not run has its gate sunk; its requests and its retry timer are no part of the change. -/
theorem Dev.slot_slotGo_sunk (d : Dev) {n : Nat} (hn : n < 16) {st : SState} (hramp : st ≠ .ramp) (hgood : st ≠ .good) :
    ((d.slotGo n st).slot n).state = st ∧ ((d.slotGo n st).slot n).gate = .sink
      ∧ ((d.slotGo n st).slot n).shedReq = (d.slot n).shedReq := by
  simp [Dev.slotGo, d.slot_modSlot n hn, Slot.shedReq, hramp, hgood]

/-! ### What a step of one slot leaves alone (R291, R294, R295) -/

/-- A device whose raised sources, configuration and other slots are those of `d`, and in which the retries of slot `n` are counted and
timed as there. -/
def Dev.RetriesKept (n : Fin 16) (d e : Dev) : Prop :=
  e.raised = d.raised ∧ e.cfg = d.cfg ∧ e.get (F.HSW_STATUS_COUNT n) = d.get (F.HSW_STATUS_COUNT n)
    ∧ (e.slot n).retryEnd = (d.slot n).retryEnd ∧ ∀ k : Fin 16, k ≠ n → e.slot k = d.slot k

section
variable {n : Fin 16}

theorem Dev.RetriesKept.trans {a b c : Dev} (h : a.RetriesKept n b) (g : b.RetriesKept n c) : a.RetriesKept n c := by
  obtain ⟨hraised, hcfg, hcount, hretry, hothers⟩ := h
  obtain ⟨graised, gcfg, gcount, gretry, gothers⟩ := g
  exact ⟨graised.trans hraised, gcfg.trans hcfg, gcount.trans hcount, gretry.trans hretry,
    fun k hk => (gothers k hk).trans (hothers k hk)⟩

/-- A change of slot `n` that leaves its retry timer. -/
theorem Dev.retriesKept_modSlot (d : Dev) {f : Slot → Slot} (hf : (f (d.slot n)).retryEnd = (d.slot n).retryEnd) :
    d.RetriesKept n (d.modSlot n f) := by
  refine ⟨rfl, rfl, rfl, ?_, fun k hk => ?_⟩
  · rw [d.slot_modSlot n n.isLt, if_pos rfl, hf]
  · rw [d.slot_modSlot n k.isLt, if_neg (Fin.val_ne_of_ne hk.symm)]

/-- A field other than the slot's retry count. -/
theorem Dev.retriesKept_set (d : Dev) {f : Fld} (hf : (F.HSW_STATUS_COUNT n).key ≠ f.key) (v : Nat) : d.RetriesKept n (d.set f v) :=
  ⟨rfl, rfl, d.get_set_other hf v, rfl, fun _ _ => rfl⟩

/-- A slot changes its state without counting or timing a retry. -/
theorem Dev.retriesKept_slotGo (d : Dev) (st : SState) : d.RetriesKept n (d.slotGo n st) := by
  have state (e : Dev) (v : Nat) : e.RetriesKept n (e.set (F.HSW_STATUS_STATE n) v) :=
    e.retriesKept_set (by simp [Fld.key, F.HSW_STATUS_COUNT, F.HSW_STATUS_STATE]) v
  have good (e : Dev) (v : Nat) : e.RetriesKept n (e.set (F.HSW_STATUS_PG n) v) :=
    e.retriesKept_set (by simp [Fld.key, F.HSW_STATUS_COUNT, F.HSW_STATUS_PG]) v
  unfold Dev.slotGo
  exact ((d.retriesKept_modSlot rfl).trans (state _ _)).trans (good _ _)

end

/-! ### A shed (R294, R295) -/

/-- Whether a shed takes a slot out of the state at once (R294). -/
abbrev SState.Sheds (st : SState) : Prop := st = .ramp ∨ st = .good ∨ st = .seated

section
variable {d : Dev} {n : Fin 16}

/-- The request that a shed sets on its slot. -/
def Dev.shedAsked (d : Dev) (n : Nat) (b : ShedBy) : Dev := d.modSlot n (fun s => s.setReq b true)

theorem Dev.slot_shedAsked (d : Dev) (n : Fin 16) (b : ShedBy) : (d.shedAsked n b).slot n = (d.slot n).setReq b true := by
  rw [Dev.shedAsked, d.slot_modSlot n n.isLt, if_pos rfl]

theorem Dev.retriesKept_shedAsked (d : Dev) (n : Fin 16) (b : ShedBy) : d.RetriesKept n (d.shedAsked n b) := by
  obtain ⟨-, -, hretry⟩ := (d.slot n).setReq_kept b true
  exact d.retriesKept_modSlot hretry

/-- A shed of a present slot records the request, and takes the slot to SHED where its state is one that a shed ends. -/
theorem Dev.shed_present (hslot : d.hasSlot n = true) (b : ShedBy) :
    d.shed n b = if (d.slot n).state.Sheds then ((d.shedAsked n b).slotGo n .shed).setB (F.HSW_STATUS_SHEDBY n) (b == .eng)
      else d.shedAsked n b := by
  obtain ⟨hsame, -, -⟩ := (d.slot n).setReq_kept b true
  have present : ¬ (!d.hasSlot n) = true := by rw [hslot]; decide
  rw [← hsame, ← d.slot_shedAsked n b]
  exact if_neg present

/-- A shed counts and times no retry, raises nothing, and leaves every other slot. -/
theorem Dev.retriesKept_shed (hslot : d.hasSlot n = true) (b : ShedBy) : d.RetriesKept n (d.shed n b) := by
  have shown (e : Dev) (v : Nat) : e.RetriesKept n (e.set (F.HSW_STATUS_SHEDBY n) v) :=
    e.retriesKept_set (by simp [Fld.key, F.HSW_STATUS_COUNT, F.HSW_STATUS_SHEDBY]) v
  have asked := d.retriesKept_shedAsked n b
  rw [Dev.shed_present hslot]
  split
  · exact (asked.trans (Dev.retriesKept_slotGo _ .shed)).trans (shown _ _)
  · exact asked

/-- The slot that a shed moves is in SHED with its gate sunk, and its request stands. -/
theorem Dev.slot_shed_moves (hslot : d.hasSlot n = true) (hstate : (d.slot n).state.Sheds) (b : ShedBy) :
    ((d.shed n b).slot n).state = .shed ∧ ((d.shed n b).slot n).gate = .sink ∧ ((d.shed n b).slot n).shedReq = true := by
  obtain ⟨hshed, hsunk, hreq⟩ := (d.shedAsked n b).slot_slotGo_sunk n.isLt (st := .shed) (by decide) (by decide)
  rw [Dev.shed_present hslot, if_pos hstate, Dev.slot_setB]
  exact ⟨hshed, hsunk, by rw [hreq, Dev.slot_shedAsked, Slot.shedReq_setReq]⟩

/-- The slot that a shed does not move keeps its state and gate, and its request stands. -/
theorem Dev.slot_shed_records (hslot : d.hasSlot n = true) (hstate : ¬ (d.slot n).state.Sheds) (b : ShedBy) :
    ((d.shed n b).slot n).state = (d.slot n).state ∧ ((d.shed n b).slot n).gate = (d.slot n).gate
      ∧ ((d.shed n b).slot n).shedReq = true := by
  obtain ⟨hsame, hgate, -⟩ := (d.slot n).setReq_kept b true
  rw [Dev.shed_present hslot, if_neg hstate, Dev.slot_shedAsked]
  exact ⟨hsame, hgate, Slot.shedReq_setReq _ b⟩

/-- Every shed leaves its request standing. -/
theorem Dev.shedReq_shed (hslot : d.hasSlot n = true) (b : ShedBy) : ((d.shed n b).slot n).shedReq = true := by
  by_cases hstate : (d.slot n).state.Sheds
  · obtain ⟨-, -, hreq⟩ := Dev.slot_shed_moves hslot hstate b
    exact hreq
  · obtain ⟨-, -, hreq⟩ := Dev.slot_shed_records hslot hstate b
    exact hreq

end

/-- Settles O23, by whether the slot's state is one that a shed takes it out of. -/
theorem shedSinksTheGate : Obligations.ShedSinksTheGate := by
  intro s n b hloop hslot
  obtain ⟨hraised, hcfg, hcount, hretry, hothers⟩ := Dev.retriesKept_shed hslot b
  refine ⟨s.dev.shed n b, congrArg Host.Outcome.next (State.loopDo_runs s _ hloop), hraised, hcfg, hcount, hretry, hothers,
    Dev.shedReq_shed hslot b, fun hstate => ?_, fun hramp hgood hseated => ?_⟩
  · obtain ⟨hshed, hsunk, -⟩ := Dev.slot_shed_moves hslot hstate b
    exact ⟨hshed, hsunk⟩
  · have hstate : ¬ (s.dev.slot n).state.Sheds := by
      rintro (h | h | h)
      · exact hramp h
      · exact hgood h
      · exact hseated h
    obtain ⟨hsame, hgate, -⟩ := Dev.slot_shed_records hslot hstate b
    exact ⟨hsame, hgate⟩

/-! ### The slots' timers (R277, R281, R283, R290) -/

section
variable {d : Dev} {n : Nat}

theorem Dev.ocTrip_due (hran : d.slotRan n = true) (hdue : due (d.slot n).ocEnd d.loop = true) : d.ocTrip n = d.slotTrip n 1 :=
  if_pos (by rw [hran, hdue]; rfl)

theorem Dev.ocTrip_idle (h : d.slotRan n = false ∨ due (d.slot n).ocEnd d.loop = false) : d.ocTrip n = d :=
  if_neg (by rcases h with h | h <;> simp [h])

theorem Dev.soaTrip_due (hran : d.slotRan n = true) (hpos : 0 < (d.slot n).soaCount)
    (hend : d.effN (F.HSW_SOA_TSOA n) ≤ (d.slot n).soaCount) : d.soaTrip n = d.slotTrip n 2 :=
  if_pos (by simp [hran, hpos, hend])

theorem Dev.soaTrip_idle (h : d.slotRan n = false ∨ (d.slot n).soaCount < d.effN (F.HSW_SOA_TSOA n)) : d.soaTrip n = d :=
  if_neg (by rcases h with h | h <;> simp [h])

theorem Dev.rampTrip_due (hran : d.slotRan n = true) (hgood : (d.slot n).state ≠ .good)
    (hdue : due (d.slot n).rampEnd d.loop = true) : d.rampTrip n = d.slotTrip n 3 :=
  if_pos (by simp [hran, hgood, hdue])

theorem Dev.rampTrip_idle (h : d.slotRan n = false ∨ due (d.slot n).rampEnd d.loop = false) : d.rampTrip n = d :=
  if_neg (by rcases h with h | h <;> simp [h])

theorem Dev.gateFail_due (hran : d.slotRan n = true) (hramp : (d.slot n).state ≠ .ramp)
    (hdue : due (d.slot n).gateEnd d.loop = true) : d.gateFail n = d.slotTrip n 4 :=
  if_pos (by simp [hran, hramp, hdue])

theorem Dev.gateFail_idle (h : d.slotRan n = false ∨ due (d.slot n).gateEnd d.loop = false) : d.gateFail n = d :=
  if_neg (by rcases h with h | h <;> simp [h])

end

/-- Settles O24, timer by timer: it trips where it is due on a slot that runs, and is idle elsewhere. -/
theorem slotTimersTripOnlyWhenDue : Obligations.SlotTimersTripOnlyWhenDue := fun _ _ hloop =>
  ⟨fun hran hdue => State.next_loopDo hloop (Dev.ocTrip_due hran hdue),
    fun hran hpos hend => State.next_loopDo hloop (Dev.soaTrip_due hran hpos hend),
    fun hran hgood hdue => State.next_loopDo hloop (Dev.rampTrip_due hran hgood hdue),
    fun hran hramp hdue => State.next_loopDo hloop (Dev.gateFail_due hran hramp hdue),
    fun h => State.next_loopDo hloop (Dev.ocTrip_idle h),
    fun h => State.next_loopDo hloop (Dev.soaTrip_idle h),
    fun h => State.next_loopDo hloop (Dev.rampTrip_idle h),
    fun h => State.next_loopDo hloop (Dev.gateFail_idle h)⟩

/-! ### Writes of HSW.n.CTRL (R277, R278, R293) -/

/-- A word for a register of HSW that sets no EN before HSW is READY (R117), nor names a slot that is not there (R504), goes to HSW. -/
theorem Dev.loopWrite_hsw {d : Dev} {a w : Nat} (hregion : regionOf a = 13) (hrow : (rowAt a).isSome = true)
    (hcfg : d.configured a = true) (hgo : d.goBlocked a w = false) : d.loopWrite a w = d.hswBus a w := by
  have hnone : (rowAt a).isNone = false := by rw [← Option.not_isSome, hrow, Bool.not_true]
  simp only [Dev.loopWrite, hnone, hcfg, hgo, hregion, Bool.not_true, Bool.or_self, Bool.false_eq_true, if_false]

/-- A write of one field of HSW.n.CTRL, EN or UNLOCK, that is taken at once. -/
theorem State.regWrite_hswCtrl {s : State} {n : Fin 16} {f : Fld} {v : Nat} (hf : f.addr = 0xD0000 + 0x40 * n)
    (h : s.Takes f.addr (s.dev.wordWith f v)) :
    s.regWrite .core f.addr (s.dev.wordWith f v) = s.did (fun d => d.hswBus f.addr (d.wordWith f v)) := by
  have hregion : regionOf f.addr = 13 := by rw [hf]; unfold regionOf; omega
  have hword : wordAddr f.addr = f.addr := by rw [hf]; unfold wordAddr; omega
  have hspace : f.addr < 0x400000 := by omega
  have hrow : (rowAt f.addr).isSome = true := by
    rw [hf] at hregion ⊢
    exact rowAt_instance (count := 16) (by decide +kernel) (by decide) n.isLt hregion
  obtain ⟨⟨-, -, hcfg, hgo⟩, -⟩ := id h
  rw [hword] at hcfg hgo
  rw [State.regWrite_loop s f.addr _ (by rw [hregion]; rfl) hword hspace h]
  exact State.did_congr (Dev.loopWrite_hsw hregion hrow hcfg hgo)

/-! ### Lines that stand whether or not LOOP runs (R20, R23, R24) -/

/-- What the Kerf lanes show neither stops LOOP nor sets it running. -/
theorem Dev.loopRuns_kerfLine (d : Dev) (n lanes : Nat) : (d.kerfLine n lanes).loopRuns = d.loopRuns := by
  unfold Dev.kerfLine
  split <;> rfl

/-- A line's level is taken in any case, and LOOP's part of it follows where LOOP runs. -/
theorem State.next_line_runs {s : State} {line : Dev → Dev} (hsame : (line s.dev).loopRuns = s.dev.loopRuns) (f : Dev → Dev)
    (hloop : s.dev.loopRuns = true) :
    (.next ((s.did line).loopDo f) : Host.Outcome State Fault Refusal) = .next ((s.did line).looped f) :=
  State.next_loopDo (hsame.trans hloop) rfl

theorem State.next_line_stopped {s : State} {line : Dev → Dev} (hsame : (line s.dev).loopRuns = s.dev.loopRuns) (f : Dev → Dev)
    (hstop : s.dev.loopRuns = false) :
    (.next ((s.did line).loopDo f) : Host.Outcome State Fault Refusal) = .next (s.did line) :=
  congrArg Host.Outcome.next (State.loopDo_stopped _ f (hsame.trans hstop))

/-! ### A slot's enable (R278) -/

section
variable {s : State} {n : Fin 16}

/-- An enable or its end comes from SEQ, as an event of LOOP, where SEQ owns the slot. -/
theorem State.next_enable_owned {f : Dev → Dev} {t : State} (howned : s.dev.seqOwned n = true) (hloop : s.dev.loopRuns = true) :
    (.next (if s.dev.seqOwned n then s.loopDo f else t) : Host.Outcome State Fault Refusal) = .next (s.looped f) := by
  rw [if_pos howned]
  exact State.next_loopDo hloop rfl

/-- Elsewhere it is a write of HSW.n.CTRL.EN. -/
theorem State.next_enable_written {t : State} {v : Nat} (hfree : s.dev.seqOwned n = false)
    (h : s.Takes (F.HSW_CTRL_EN n).addr (s.dev.wordWith (F.HSW_CTRL_EN n) v)) :
    (.next (if s.dev.seqOwned n then t else s.regWrite .core (F.HSW_CTRL_EN n).addr (s.dev.wordWith (F.HSW_CTRL_EN n) v)) :
        Host.Outcome State Fault Refusal)
      = .next (s.did (fun d => d.hswBus (F.HSW_CTRL_EN n).addr (d.wordWith (F.HSW_CTRL_EN n) v))) := by
  rw [if_neg (by rw [hfree]; decide), State.regWrite_hswCtrl rfl h]

end

/-- Settles O50: an enable comes from SEQ or from HSW.n.CTRL, an UNLOCK from that register, a seating input or a Kerf lane stands whether
LOOP runs or not, and every other command is an event of LOOP. -/
theorem slotsCommandsComplete : Obligations.SlotsCommandsComplete := by
  intro s
  have next (f : Dev → Dev) (hloop : s.dev.loopRuns = true) :
      (.next (s.loopDo f) : Host.Outcome State Fault Refusal) = .next (s.looped f) := State.next_loopDo hloop rfl
  exact ⟨⟨fun n a b => State.next_line_runs (line := (·.seatLine n a b)) rfl _,
      fun n a b => State.next_line_stopped (line := (·.seatLine n a b)) rfl _⟩,
    fun n => next (·.seatDone n), fun n => next (·.slotRemove n), fun n => next (·.seatFault n),
    ⟨fun _ => State.next_enable_owned, fun _ => State.next_enable_written⟩,
    ⟨fun _ => State.next_enable_owned, fun _ => State.next_enable_written⟩,
    fun n => next (·.checkDone n), fun n code lanes => next (·.arrives (.shunt n code lanes)),
    fun n vs vds enh => next (·.arrives (.volt n vs vds enh)), fun n => next (·.soaTrip n), fun n => next (·.rampTrip n),
    fun n => next (·.pgDone n),
    ⟨fun n lanes => State.next_line_runs (s.dev.loopRuns_kerfLine n lanes) _,
      fun n lanes => State.next_line_stopped (s.dev.loopRuns_kerfLine n lanes) _⟩,
    fun n lane seen fell => next (·.laneTest n lane seen fell), fun n => next (·.ocTrip n), fun n => next (·.fetDeg n),
    fun n => next (·.gateFail n), fun n => next (·.retryDone n), fun n => next (·.cleanDone n), fun n => next (·.coolDone n),
    fun _ htakes => congrArg Host.Outcome.next (State.regWrite_hswCtrl rfl htakes),
    fun n asker => next (·.shed n asker), fun n asker => next (·.unshed n asker)⟩

end Sys2Proof.Machine
end

section
/-! SUPPORT. What the fuses can become (R480, R483, R485, R486): the three operations that blow them, what carries those operations, and what
every sequence of them keeps. -/

namespace Sys2Proof.Machine

/-! ### The operations on the fuses -/

/-- One operation on the fuses: a blank field programmed while PROVLOCK is not blown (R483), a verified revocation (R486), or the floors raised
to those of a confirmed package (R485). -/
inductive Otp.Op (o : Otp) : Otp → Prop
  | blow {f : Nat} (b : List Nat) (hopen : o.provLock = false) (hblank : o.held f = false) : o.Op (o.blow f b)
  | revoke {c : Container} {o' : Otp} (h : o.revokes c = some o') : o.Op o'
  | raise (l : List Container) : o.Op (o.raise l)

/-- A revocation adds to REVOKE and changes nothing else (R486). -/
theorem Otp.revokes_revoke {o o' : Otp} {c : Container} (h : o.revokes c = some o') :
    ∃ r, o' = { o with revoke := r } ∧ ∀ k, o.revoke.testBit k = true → r.testBit k = true := by
  unfold Otp.revokes at h
  dsimp only at h
  split at h
  · cases h
  · split at h
    · cases h
    · injection h with h
      exact ⟨_, h.symm, fun k hk => by rw [Nat.testBit_or, hk, Bool.true_or]⟩

/-- A package raises the floors, to 128 at most, and changes nothing else (R485). -/
theorem Otp.raise_floors (l : List Container) : ∀ o : Otp, ∃ fw bs, o.raise l = { o with floorFw := fw, floorBs := bs }
    ∧ (o.floorFw ≤ fw ∧ fw ≤ max o.floorFw 128) ∧ o.floorBs ≤ bs ∧ bs ≤ max o.floorBs 128 := by
  induction l with
  | nil => exact fun o => ⟨_, _, rfl, ⟨Nat.le_refl _, Nat.le_max_left ..⟩, Nat.le_refl _, Nat.le_max_left ..⟩
  | cons c t ih =>
    intro o
    by_cases hkind : c.hdr.kind = 3 ∨ c.hdr.kind = 5
    · obtain ⟨fw, bs, heq, hfw, hbs⟩ := ih { o with floorFw := max o.floorFw (min 128 (epochOf c)) }
      refine ⟨fw, bs, ?_, by simp only at hfw; omega, hbs⟩
      rw [← heq, Otp.raise, List.foldl_cons, if_pos hkind]
      rfl
    · obtain ⟨fw, bs, heq, hfw, hbs⟩ := ih { o with floorBs := max o.floorBs (min 128 (epochOf c)) }
      refine ⟨fw, bs, ?_, hfw, by simp only at hbs; omega⟩
      rw [← heq, Otp.raise, List.foldl_cons, if_neg hkind]
      rfl

/-- The fuses after some operations, none or more. -/
inductive Otp.Becomes (a : Otp) : Otp → Prop
  | refl : a.Becomes a
  | tail {b c : Otp} (h : a.Becomes b) (hop : b.Op c) : a.Becomes c

theorem Otp.Becomes.single {a b : Otp} (h : a.Op b) : a.Becomes b := .tail .refl h

theorem Otp.Becomes.trans {a b c : Otp} (h : a.Becomes b) (g : b.Becomes c) : a.Becomes c := by
  induction g with
  | refl => exact h
  | tail _ hop ih => exact .tail ih hop

theorem Otp.Becomes.of_eq {a b : Otp} (h : b = a) : a.Becomes b := h ▸ .refl

/-! ### Writes that reach the fuses -/

/-- A GO in SEC.PROG is granted only to a blank field, with PROVLOCK not blown (R483). -/
theorem Dev.progResult_granted {d : Dev} {o : Otp} {m : Master} {f : Nat} (h : d.progResult o m f = 0) :
    o.provLock = false ∧ o.held f = false := by
  unfold Dev.progResult at h
  split at h
  · cases h
  · split at h
    · cases h
    · split at h
      · cases h
      · split at h
        · cases h
        · simp_all

theorem Dev.secProg_becomes (d : Dev) (o : Otp) (m : Master) (w : Nat) : o.Becomes (d.secProg o m w).2 := by
  unfold Dev.secProg
  split
  · exact .refl
  · extract_lets f r d1 d2 o'
    split
    · rename_i hgranted
      obtain ⟨hopen, hblank⟩ := Dev.progResult_granted hgranted
      exact .single (.blow _ hopen hblank)
    · exact .refl

theorem Dev.confirm_becomes (d : Dev) (o : Otp) (m : Master) (key : Nat) : o.Becomes (d.confirm o m key).2 := by
  unfold Dev.confirm
  split
  · exact .refl
  · split
    · exact .single (.raise _)
    · exact .refl

theorem Dev.revoke_becomes (d : Dev) (o : Otp) (c : Container) : o.Becomes (d.revoke o c).2 := by
  unfold Dev.revoke
  split
  · rename_i h
    exact .single (.revoke h)
  · exact .refl

/-- Of the register writes, those of UPD.CONFIRM and SEC.PROG alone reach the fuses. -/
theorem Dev.busWrite_becomes (d : Dev) (o : Otp) (m : Master) (a w : Nat) : o.Becomes (d.busWrite o m a w).2 := by
  unfold Dev.busWrite
  dsimp only
  split
  · exact .refl
  · split
    case h_12 =>
      split
      · exact .refl
      · split
        · exact d.confirm_becomes o m w
        · exact .refl
    case h_13 =>
      split
      · exact d.secProg_becomes o m w
      · split <;> exact .refl
    all_goals exact .refl

/-- Of the containers received, a revocation alone reaches the fuses (R486, R491). -/
theorem Dev.verified_becomes (d : Dev) (o : Otp) (stored : Bool) : o.Becomes (d.verified o stored).2 := by
  unfold Dev.verified
  split
  · exact .refl
  · split
    · exact .refl
    · split
      · exact .refl
      · extract_lets ports d1 bad d2 mine
        clear_value bad
        cases bad with
        | some e => exact .refl
        | none =>
          dsimp only
          split
          · exact d2.revoke_becomes o _
          · exact .refl

/-! ### What carries them -/

theorem State.put_busWrite_becomes (s : State) (m : Master) (a w : Nat) : s.otp.Becomes (s.put (s.dev.busWrite s.otp m a w)).otp :=
  s.dev.busWrite_becomes s.otp m a w

theorem State.regWrite_becomes (s : State) (m : Master) (a w : Nat) : s.otp.Becomes (s.regWrite m a w).otp := by
  rcases State.regWrite_cases s m a w with h | h | h | h
  · rw [h]
    exact .refl
  · rw [h, State.onDev_otp]
    exact .refl
  · rw [h, State.onDev_otp]
    exact .refl
  · rw [h]
    exact s.put_busWrite_becomes m _ w

theorem State.lockSet_becomes (s : State) (addr : Nat) : s.otp.Becomes (s.lockSet addr).otp := by
  unfold State.lockSet
  split
  · exact State.regWrite_becomes ..
  · exact .refl

theorem State.tunnelIn_becomes (s : State) (write : Bool) (a w : Nat) : s.otp.Becomes (s.tunnelIn write a w).otp := by
  unfold State.tunnelIn
  dsimp only
  split
  · exact .refl
  · split
    · exact State.regWrite_becomes ..
    · split <;> exact .refl

theorem State.sysBoth_becomes {f : Dev → Dev × Otp} {s : State} (h : s.otp.Becomes (f s.dev).2) : s.otp.Becomes (s.sysBoth f).otp := by
  unfold State.sysBoth
  split
  · exact h
  · exact .refl

theorem State.whenSys_becomes {f : State → State} {s : State} (h : s.otp.Becomes (f s).otp) : s.otp.Becomes (s.whenSys f).otp := by
  unfold State.whenSys
  split
  · exact h
  · exact .refl

/-! #### DMA -/

theorem State.dmaWrite_becomes (s : State) (a w : Nat) : s.otp.Becomes (s.dmaWrite a w).otp := by
  unfold State.dmaWrite
  split
  · exact s.put_busWrite_becomes .dma a w
  · exact .refl

theorem State.dmaHang_otp (s : State) (c src dst : Nat) : (s.dmaHang c src dst).otp = s.otp := by
  unfold State.dmaHang
  split <;> rfl

theorem State.dmaMove_becomes (s : State) (c src dst : Nat) : s.otp.Becomes (s.dmaMove c src dst).otp :=
  State.dmaWrite_becomes { s with dev := (s.dev.dmaRead src).1.dmaHold dst } dst _

theorem State.dmaStep_becomes (s : State) (c : Nat) : s.otp.Becomes (s.dmaStep c).otp := by
  unfold State.dmaStep
  dsimp only
  split
  · exact .refl
  · split
    · exact .of_eq (s.onDev_otp _)
    · split
      · exact .of_eq (s.onDev_otp _)
      · split
        · exact .of_eq (s.onDev_otp _)
        · split
          · exact .refl
          · split
            · exact .of_eq (s.dmaHang_otp c _ _)
            · exact s.dmaMove_becomes c _ _

theorem State.dmaRun_becomes (c : Nat) : ∀ (n : Nat) (s : State), s.otp.Becomes (s.dmaRun c n).otp
  | 0, _ => .refl
  | n + 1, s => (s.dmaStep_becomes c).trans (State.dmaRun_becomes c n (s.dmaStep c))

theorem State.dmaHalf_becomes (s : State) (c : Nat) : s.otp.Becomes (s.dmaHalf c).otp := by
  unfold State.dmaHalf
  dsimp only
  split
  · exact .refl
  · split <;> exact State.dmaRun_becomes ..

theorem State.dmaFull_becomes (s : State) (c : Nat) : s.otp.Becomes (s.dmaFull c).otp := by
  unfold State.dmaFull
  dsimp only
  split
  · exact .refl
  · split <;> exact State.dmaRun_becomes ..

theorem State.dmaProgress_becomes (s : State) (c n : Nat) : s.otp.Becomes (s.dmaProgress c n).otp := by
  unfold State.dmaProgress
  extract_lets first moved
  have words : s.otp.Becomes moved.otp := by
    simp only [moved]
    split
    · exact (s.dmaHalf_becomes c).trans (State.dmaRun_becomes ..)
    · exact State.dmaRun_becomes ..
  split
  · exact words.trans (moved.dmaFull_becomes c)
  · exact words

theorem State.dmaFail_becomes (addr : Nat) (wr : Bool) : ∀ (l : List (Nat × Nat)) (s : State), s.otp.Becomes (s.dmaFail addr wr l).otp
  | [], _ => .refl
  | x :: t, s => (s.dmaProgress_becomes x.1 x.2).trans (State.dmaFail_becomes addr wr t (s.dmaProgress x.1 x.2))

/-! #### Requests of the host port, the service port and the two-wire target -/

theorem State.reqDo_becomes (s : State) (m : Master) (r : PortReq) : s.otp.Becomes (s.reqDo m r).1.otp := by
  unfold State.reqDo
  split
  case h_2 => exact s.put_busWrite_becomes m r.addr r.word
  all_goals exact .refl

theorem State.request_becomes (s : State) (m : Master) (r : PortReq) (open_ inTime : Bool) :
    s.otp.Becomes (s.request m r open_ inTime).1.otp := by
  unfold State.request
  dsimp only
  split
  · exact .refl
  · split
    · exact .refl
    · split
      · exact .refl
      · split
        · exact .refl
        · exact (s.onDev (fun d => d.setSlot m {})).reqDo_becomes m r

theorem State.requestEnd_becomes (s : State) (m : Master) : s.otp.Becomes (s.requestEnd m).otp := by
  unfold State.requestEnd
  dsimp only
  split
  · exact .refl
  · split
    · exact .refl
    · split
      · exact .refl
      · split <;> exact (s.onDev (fun d => d.setSlot m {})).reqDo_becomes m _

theorem State.hostTxn_becomes (s : State) (c : PortCmd) (t : Nat) : s.otp.Becomes (s.hostTxn c t).otp := by
  unfold State.hostTxn
  dsimp only
  split
  · exact .refl
  · split
    · exact .refl
    · exact .refl
    · exact (s.onDev (fun d => d.hostLast (portReq c))).request_becomes .host _ _ _

theorem State.usbOut_becomes (s : State) (c : PortCmd) : s.otp.Becomes (s.usbOut c).otp := by
  unfold State.usbOut
  dsimp only
  split
  · exact .refl
  · split
    · exact .refl
    · exact .refl
    · exact s.request_becomes .usb _ _ _

theorem State.tgtRequest_becomes (s : State) (c : PortCmd) : s.otp.Becomes (s.tgtRequest c).1.otp :=
  s.request_becomes .twt (portReq c) true true

theorem State.tgtRead_becomes (s : State) : s.otp.Becomes s.tgtRead.otp := by
  unfold State.tgtRead
  split
  · exact s.tgtRequest_becomes _
  · exact .refl

theorem State.tgtWrite_becomes (s : State) (w : Nat) (pecOk : Bool) : s.otp.Becomes (s.tgtWrite w pecOk).otp := by
  unfold State.tgtWrite
  split
  · exact .refl
  · split
    · exact s.tgtRequest_becomes _
    · exact .refl

theorem State.tgtDone_becomes (s : State) : s.otp.Becomes s.tgtDone.otp := by
  unfold State.tgtDone
  dsimp only
  split
  · split <;> exact s.requestEnd_becomes .twt
  · exact .refl

/-! ### Every step -/

/-- Every command leaves what some operations on the fuses make of them: by what carries the command, a register write, a request of a port, a
transfer of DMA or a container verified; for the rest, an operation on the device, which the fuses are no part of. -/
theorem exec_becomes (i : Instr) (s : State) : ∃ t, exec i s = .next t ∧ s.otp.Becomes t.otp := by
  cases i with
  | registerWrite | stickyClear | ackWrite | fwraiseWrite | rstCtrlCold | rstCtrlWarm | watchdogService | rstBlockNv | rstBlockLink
  | rstBlockHost | rstBlockCpd | nvRateWrite | vsetWrite | slewWrite | periodWrite | phdropClear | ovuvWrite | shrVbusWrite
  | capForceWrite | restRequest | newstringWrite | seqReqOn | seqReqOff | failmarkClear | seqMarginWrite | slotUnlock | thmLimitWrite
  | dpxHandover | dpxTake | dpxRejoin | tunnelGo | snpFire | snpRearm | evrFlushnow | evrReadGo | clearGo | evrFwGo | vaultWrite
  | bellWrite | winXfer | dmaGo | dmaStop | dmaResume | dmaClear | twbCmdGo | cpdHardrst | updActivate | updHandover | updConfirm
  | updAbort | secProgGo =>
    exact ⟨_, rfl, State.regWrite_becomes ..⟩
  | lockWrite addr => exact ⟨_, rfl, s.lockSet_becomes addr⟩
  | marginWrite n w bySeq =>
    cases bySeq with
    | false => exact ⟨_, rfl, State.regWrite_becomes ..⟩
    | true => exact ⟨_, rfl, .refl⟩
  | slotEnable n =>
    refine ⟨_, rfl, ?_⟩
    split
    · exact .refl
    · exact State.regWrite_becomes ..
  | slotDisable n =>
    refine ⟨_, rfl, ?_⟩
    split
    · exact .refl
    · exact State.regWrite_becomes ..
  | pulseTransferDone j => exact ⟨_, rfl, by split <;> exact .refl⟩
  | hostRdstat | hostRdreg | hostWrreg | hostRdwin | hostWrwin | hostXfer | hostRdown | hostUnknownCommand =>
    exact ⟨_, rfl, State.hostTxn_becomes ..⟩
  | hostRequestDone => exact ⟨_, rfl, s.requestEnd_becomes .host⟩
  | usbRequestDone => exact ⟨_, rfl, s.requestEnd_becomes .usb⟩
  | usbOutTransfer cmd => exact ⟨_, rfl, s.usbOut_becomes cmd⟩
  | tgtRegDataRead => exact ⟨_, rfl, s.tgtRead_becomes⟩
  | tgtRegDataWrite w pecOk => exact ⟨_, rfl, s.tgtWrite_becomes w pecOk⟩
  | tgtRequestDone => exact ⟨_, rfl, s.tgtDone_becomes⟩
  | tunnelRequestRx write addr w => exact ⟨_, rfl, s.tunnelIn_becomes write addr w⟩
  | dmaHalf ch => exact ⟨_, rfl, State.whenSys_becomes (s.dmaHalf_becomes ch)⟩
  | dmaFull ch => exact ⟨_, rfl, State.whenSys_becomes (s.dmaFull_becomes ch)⟩
  | dmaBusError addr wr progress => exact ⟨_, rfl, State.whenSys_becomes (State.dmaFail_becomes addr wr progress s)⟩
  | containerVerified stored => exact ⟨_, rfl, State.sysBoth_becomes (s.dev.verified_becomes s.otp stored)⟩
  | _ => exact ⟨_, rfl, .refl⟩

/-- A step leaves what some operations on the fuses make of them: a tick makes none. -/
theorem step_becomes {s t : State} (h : step s = .next t) : s.otp.Becomes t.otp := by
  unfold step at h
  split at h
  · injection h with h
    rw [← h]
    exact .refl
  · rename_i c rest _
    obtain ⟨u, hexec, hfuses⟩ := exec_becomes c { s with pending := rest }
    rw [hexec] at h
    injection h with h
    exact h ▸ hfuses

/-! ### Fuses only blow (R480, R485) -/

theorem KeepsOnes.refl (x : List Nat) : KeepsOnes x x := fun _ _ => id

theorem KeepsOnes.trans {x y z : List Nat} (h : KeepsOnes x y) (g : KeepsOnes y z) : KeepsOnes x z :=
  fun i j hx => g i j (h i j hx)

/-- A blank field holds no 1 bit to keep. -/
theorem KeepsOnes.of_blank {x : List Nat} (h : blank x = true) (y : List Nat) : KeepsOnes x y := by
  intro i j hbit
  have hzero : x.getD i 0 = 0 := by
    rw [List.getD_eq_getElem?_getD]
    cases hx : x[i]? with
    | none => rfl
    | some v => simpa using List.all_eq_true.mp h v (List.mem_of_getElem? hx)
  rw [hzero, Nat.zero_testBit] at hbit
  cases hbit

theorem Otp.OnlyBlows.refl (o : Otp) : o.OnlyBlows o :=
  ⟨rfl, rfl, Nat.le_refl _, Nat.le_refl _, fun _ => id, id, id, .refl _, .refl _, fun _ => .refl _⟩

theorem Otp.OnlyBlows.trans {a b c : Otp} (h : a.OnlyBlows b) (g : b.OnlyBlows c) : a.OnlyBlows c := by
  obtain ⟨huid, husb, hfw, hbs, hrev, hdebug, hlock, himg, hclr, hsign⟩ := h
  obtain ⟨guid, gusb, gfw, gbs, grev, gdebug, glock, gimg, gclr, gsign⟩ := g
  exact ⟨guid.trans huid, gusb.trans husb, Nat.le_trans hfw gfw, Nat.le_trans hbs gbs, fun k => grev k ∘ hrev k,
    gdebug ∘ hdebug, glock ∘ hlock, himg.trans gimg, hclr.trans gclr, fun k => (hsign k).trans (gsign k)⟩

/-- The fields that a change of the revocations and the floors alone leaves. -/
theorem Otp.OnlyBlows.of_revoke_floors (o : Otp) {r fw bs : Nat} (hr : ∀ k, o.revoke.testBit k = true → r.testBit k = true)
    (hfw : o.floorFw ≤ fw) (hbs : o.floorBs ≤ bs) : o.OnlyBlows { o with revoke := r, floorFw := fw, floorBs := bs } :=
  ⟨rfl, rfl, hfw, hbs, hr, id, id, .refl _, .refl _, fun _ => .refl _⟩

/-- A SIGN field programmed leaves the others. -/
theorem Otp.key_setSign (o : Otp) (k j : Nat) (x : SignKey) :
    ({ o with sign := o.sign.setIfInBounds k x } : Otp).key j = o.key j ∨ j = k := by
  by_cases h : k = j
  · exact .inr h.symm
  · exact .inl (by simp [Otp.key, h])

/-- A blank field programmed loses no bit, and the others stay (R483). -/
theorem Otp.OnlyBlows.blow {o : Otp} {f : Nat} (b : List Nat) (hblank : o.held f = false) : o.OnlyBlows (o.blow f b) := by
  have empty {l : List Nat} (h : (!blank l) = false) : blank l = true := by simpa using h
  unfold Otp.blow
  split
  case h_1 => exact ⟨rfl, rfl, Nat.le_refl _, Nat.le_refl _, fun _ => id, id, id, .of_blank (empty hblank) _, .refl _, fun _ => .refl _⟩
  case h_2 => exact ⟨rfl, rfl, Nat.le_refl _, Nat.le_refl _, fun _ => id, id, id, .refl _, .of_blank (empty hblank) _, fun _ => .refl _⟩
  case h_3 => exact ⟨rfl, rfl, Nat.le_refl _, Nat.le_refl _, fun _ => id, fun h => by simp [h], id, .refl _, .refl _, fun _ => .refl _⟩
  case h_4 => exact ⟨rfl, rfl, Nat.le_refl _, Nat.le_refl _, fun _ => id, id, fun h => by simp [h], .refl _, .refl _, fun _ => .refl _⟩
  case h_5 h4 h5 h6 h7 =>
    refine ⟨rfl, rfl, Nat.le_refl _, Nat.le_refl _, fun _ => id, id, id, .refl _, .refl _, fun j => ?_⟩
    rcases o.key_setSign f j ⟨b.take 112, signFits (b.take 112)⟩ with hother | rfl
    · rw [hother]
      exact .refl _
    · have hkey : o.held j = !blank (o.key j).bytes := by simp [Otp.held]
      exact .of_blank (empty (hkey ▸ hblank)) _

theorem Otp.Op.onlyBlows {a b : Otp} (h : a.Op b) : a.OnlyBlows b := by
  cases h with
  | blow bytes _ hblank => exact .blow bytes hblank
  | revoke h =>
    obtain ⟨r, rfl, hkept⟩ := Otp.revokes_revoke h
    exact .of_revoke_floors a hkept (Nat.le_refl _) (Nat.le_refl _)
  | raise l =>
    obtain ⟨fw, bs, heq, ⟨hfw, -⟩, hbs, -⟩ := a.raise_floors l
    rw [heq]
    exact .of_revoke_floors a (fun _ => id) hfw hbs

theorem Otp.Becomes.onlyBlows {a b : Otp} (h : a.Becomes b) : a.OnlyBlows b := by
  induction h with
  | refl => exact .refl _
  | tail _ hop ih => exact ih.trans hop.onlyBlows

/-- Settles O5: no operation on the fuses takes a bit back. -/
theorem fusesOnlyBlow : Obligations.FusesOnlyBlow := fun _ _ h => (step_becomes h).onlyBlows

/-! ### What PROVLOCK closes (R483) -/

theorem Otp.SameProvisioned.refl (o : Otp) : o.SameProvisioned o := ⟨rfl, rfl, rfl, rfl, rfl, rfl, rfl⟩

theorem Otp.SameProvisioned.trans {a b c : Otp} (h : a.SameProvisioned b) (g : b.SameProvisioned c) : a.SameProvisioned c := by
  obtain ⟨huid, husb, hsign, himg, hclr, hdebug, hlock⟩ := h
  obtain ⟨guid, gusb, gsign, gimg, gclr, gdebug, glock⟩ := g
  exact ⟨guid.trans huid, gusb.trans husb, gsign.trans hsign, gimg.trans himg, gclr.trans hclr, gdebug.trans hdebug, glock.trans hlock⟩

/-- With PROVLOCK blown, revocations and floors are all that an operation changes: no field is programmed. -/
theorem Otp.Op.sameProvisioned {a b : Otp} (h : a.Op b) (hlock : a.provLock = true) : a.SameProvisioned b := by
  cases h with
  | blow _ hopen _ => rw [hlock] at hopen; cases hopen
  | revoke h =>
    obtain ⟨r, rfl, -⟩ := Otp.revokes_revoke h
    exact ⟨rfl, rfl, rfl, rfl, rfl, rfl, rfl⟩
  | raise l =>
    obtain ⟨fw, bs, heq, -⟩ := a.raise_floors l
    rw [heq]
    exact ⟨rfl, rfl, rfl, rfl, rfl, rfl, rfl⟩

/-- PROVLOCK stays blown through the operations, and none of them programs a field while it is. -/
theorem Otp.Becomes.sameProvisioned {a b : Otp} (h : a.Becomes b) (hlock : a.provLock = true) : a.SameProvisioned b := by
  induction h with
  | refl => exact .refl _
  | tail _ hop ih =>
    obtain ⟨-, -, -, -, -, -, hstill⟩ := id ih
    exact ih.trans (hop.sameProvisioned (hstill.trans hlock))

/-- Settles O6: no operation that a step makes on the fuses programs a field. -/
theorem provLockClosesProvisioning : Obligations.ProvLockClosesProvisioning := fun _ _ hlock h => (step_becomes h).sameProvisioned hlock

/-! ### The floors within their fuses (R480, R485) -/

theorem Otp.Op.floorsFit {a b : Otp} (h : a.Op b) (hfit : a.FloorsFit) : b.FloorsFit := by
  cases h with
  | @blow f bytes _ _ =>
    unfold Otp.blow
    split <;> exact hfit
  | revoke h =>
    obtain ⟨r, rfl, -⟩ := Otp.revokes_revoke h
    exact hfit
  | raise l =>
    obtain ⟨fw, bs, heq, ⟨-, hfw⟩, -, hbs⟩ := a.raise_floors l
    obtain ⟨afw, abs⟩ := hfit
    rw [heq]
    exact ⟨Nat.le_trans hfw (Nat.max_le.2 ⟨afw, Nat.le_refl _⟩), Nat.le_trans hbs (Nat.max_le.2 ⟨abs, Nat.le_refl _⟩)⟩

theorem Otp.Becomes.floorsFit {a b : Otp} (h : a.Becomes b) (hfit : a.FloorsFit) : b.FloorsFit := by
  induction h with
  | refl => exact hfit
  | tail _ hop ih => exact hop.floorsFit ih

/-- Settles O7: every operation on the fuses keeps the floors within their fuses. -/
theorem floorsStayInTheirFuses : Obligations.FloorsStayInTheirFuses := fun _ _ hfit h => (step_becomes h).floorsFit hfit

/-- Settles O8: no floor fuse is blown at reset. -/
theorem resetFloorsFit : Obligations.ResetFloorsFit := ⟨Nat.zero_le _, Nat.zero_le _⟩

end Sys2Proof.Machine
end

section
/-! SUPPORT. Writes of UPD.CTRL, UPD.CONFIRM and SEC.PROG that land, what a write of UPD.CONFIRM does (R485, R496, R497), and what the
commands on updates and the fuses come to where they can act. -/

namespace Sys2Proof.Machine

/-! ### Writes to UPD and SEC that land (R483, R493, R497) -/

section
variable {s : State} {m : Master} {w : Nat}

/-- A write of UPD.CTRL, whose word is made from the device as it stands. -/
theorem State.regWrite_updCtrl (word : Dev → Nat) (h : s.Lands .core F.UPD_CTRL_ACTIVATE.addr) :
    s.regWrite .core F.UPD_CTRL_ACTIVATE.addr (word s.dev) = s.did (fun d => d.updCtrl (word d)) := State.regWrite_did h rfl

/-- A register write that lands in a block which gives device and fuses anew. -/
theorem State.regWrite_put {a : Nat} {x : Dev × Otp} (h : s.Lands m a) (hbus : s.dev.busWrite s.otp m (wordAddr a) w = x) :
    s.regWrite m a w = s.put x := by
  rw [State.regWrite_landed w h, State.landed, hbus]
  rfl

theorem State.regWrite_updConfirm (h : s.Lands m F.UPD_CONFIRM_KEY.addr) :
    s.regWrite m F.UPD_CONFIRM_KEY.addr w = s.put (s.dev.confirm s.otp m w) := State.regWrite_put h rfl

/-- A word for a register of SEC: a GO in SEC.PROG, a word of SEC.PROGDATA, or a plain register. -/
theorem Dev.busWrite_sec (d : Dev) (o : Otp) (m : Master) {a : Nat} (w : Nat) (h : regionOf a = 28) :
    d.busWrite o m a w = if a = 0x1C0020 ∧ w.testBit 31 then d.secProg o m w
      else if 0x1C0040 ≤ a ∧ a < 0x1C00B0 then (d.progDataWrite o m ((a - 0x1C0040) / 4) w, o) else (d.plainWrite a w, o) := by
  have hsys : loopRegion 28 = false := rfl
  simp only [Dev.busWrite, h, hsys, Bool.false_eq_true, if_false]

theorem State.regWrite_secProg (h : s.Lands m F.SEC_PROG_GO.addr) (hgo : w.testBit 31 = true) :
    s.regWrite m F.SEC_PROG_GO.addr w = s.put (s.dev.secProg s.otp m w) :=
  State.regWrite_put h ((Dev.busWrite_sec s.dev s.otp m w rfl).trans (if_pos ⟨rfl, hgo⟩))

end

/-! ### UPD.CONFIRM (R496, R497) -/

section
variable {d : Dev} {o : Otp} {m : Master} {key : Nat}

/-- The device once its trial is confirmed and the fuses are `o`: the slot on trial is CONFIRMED and ACTIVE, TRIALBOOT is 0. -/
def Dev.confirmed (d : Dev) (o : Otp) : Dev :=
  ((d.modUpd (fun u => u.writeBoot { u.boot.put d.upd.other 3 with active := d.upd.other, trialBoot := 0 })).packageOver).showOtp o

theorem Dev.confirm_foreign (hm : m ≠ .core) : d.confirm o m key = (d.note 2 0x1B0014 key 0, o) :=
  if_pos (bne_iff_ne.2 hm)

/-- A write by the core is judged by its key, by whether a trial runs, and by its window. -/
theorem Dev.confirm_core : d.confirm o .core key
    = if key % 0x10000 = 0x7C15 ∧ d.upd.st = updTrial ∧ ¬ due d.upd.trialEnd d.now then
        (d.confirmed (o.raise (d.upd.slot d.upd.other).all), o.raise (d.upd.slot d.upd.other).all)
      else (d, o) := rfl

theorem Dev.confirm_refused (h : key % 0x10000 ≠ 0x7C15 ∨ d.upd.st ≠ updTrial ∨ due d.upd.trialEnd d.now = true) :
    d.confirm o .core key = (d, o) :=
  Dev.confirm_core.trans (if_neg fun ⟨hkey, htrial, hopen⟩ =>
    h.elim (· hkey) (·.elim (· htrial) hopen))

end

/-- A landed write of UPD.CONFIRM gives what the confirmation gives. -/
theorem exec_updConfirm {s : State} {m : Master} {key : Nat} (h : s.Lands m F.UPD_CONFIRM_KEY.addr) :
    exec (.updConfirm m key) s = .next (s.put (s.dev.confirm s.otp m key)) :=
  congrArg Host.Outcome.next (State.regWrite_updConfirm h)

/-- Settles O38, by the master that writes and by what the core's write is judged on. -/
theorem onlyFirmwareConfirmsATrial : Obligations.OnlyFirmwareConfirmsATrial := by
  intro s m key hlands
  refine ⟨fun hm => ?_, ?_, ?_⟩
  · rw [exec_updConfirm hlands, Dev.confirm_foreign hm]
    rfl
  · rintro rfl hkey htrial hdue
    rw [exec_updConfirm hlands, Dev.confirm_core, if_pos ⟨hkey, htrial, by rw [hdue]; decide⟩]
    rfl
  · rintro rfl h
    rw [exec_updConfirm hlands, Dev.confirm_refused h]
    rfl

/-- Settles O60: UPD.CTRL, UPD.CONFIRM and SEC.PROG are written, and every other command is an event of SYS. -/
theorem updateCommandsComplete : Obligations.UpdateCommandsComplete := by
  intro s
  have next {t u : State} (h : t = u) : (.next t : Host.Outcome State Fault Refusal) = .next u := congrArg _ h
  have sys (f : Dev → Dev) (hsys : s.dev.sysRuns = true) :
      (.next (s.sysDo f) : Host.Outcome State Fault Refusal) = .next (s.did f) := State.next_sysDo hsys f
  exact ⟨fun c => sys (·.ingest c), fun i b c => sys (·.imageBlock i b c), fun _ hsys => next (if_pos hsys),
    fun p ok code => sys (·.imageAck p ok code), sys Dev.relayTimeout, sys (·.packageStaged s.otp),
    fun hlands => next (State.regWrite_updCtrl (·.wordWith F.UPD_CTRL_ACTIVATE 1) hlands),
    fun pkg => sys (·.activateFrame pkg), sys Dev.activateRetry,
    fun page valid hlands => next (State.regWrite_updCtrl (·.handoverWord page valid) hlands),
    sys Dev.drainDone, sys Dev.handoverRelease, sys Dev.drainTimeout,
    fun _ _ => exec_updConfirm, sys Dev.windowExpiry, sys Dev.revertRetry,
    fun hlands => next (State.regWrite_updCtrl (·.wordWith F.UPD_CTRL_ABORT 1) hlands),
    fun _ _ hlands hgo => next (State.regWrite_secProg hlands hgo)⟩

end Sys2Proof.Machine
end

section
/-! SUPPORT. Which block of SYS a word goes to whose register is an instance of several (R502): NVS, HST, DMA and TWB. -/

namespace Sys2Proof.Machine

section
variable (d : Dev) (o : Otp) (m : Master) {a : Nat} (w : Nat)

theorem Dev.busWrite_nvs (h : regionOf a = 21) : d.busWrite o m a w = (d.nvsBus a w, o) := by
  simp only [Dev.busWrite, h, show loopRegion 21 = false from rfl, Bool.false_eq_true, if_false]

theorem Dev.busWrite_hst (h : regionOf a = 22) : d.busWrite o m a w = (d.hstBus m a w, o) := by
  simp only [Dev.busWrite, h, show loopRegion 22 = false from rfl, Bool.false_eq_true, if_false]

theorem Dev.busWrite_dma (h : regionOf a = 24) : d.busWrite o m a w = (d.dmaBus a w, o) := by
  simp only [Dev.busWrite, h, show loopRegion 24 = false from rfl, Bool.false_eq_true, if_false]

theorem Dev.busWrite_twb (h : regionOf a = 25) : d.busWrite o m a w = (d.twbBus a w, o) := by
  simp only [Dev.busWrite, h, show loopRegion 25 = false from rfl, Bool.false_eq_true, if_false]

end

/-- A register write that lands on a word's own address, in a block outside the fuses. -/
theorem State.regWrite_word {s : State} {m : Master} {a w : Nat} {f : Dev → Dev} (hword : wordAddr a = a) (h : s.Lands m a)
    (hbus : s.dev.busWrite s.otp m a w = (f s.dev, s.otp)) : s.regWrite m a w = s.did f :=
  State.regWrite_did h (by rw [hword, hbus])

end Sys2Proof.Machine
end

section
/-! SUPPORT. Writes of the recorder's and the vault's registers that land, the LOST record (R414), and what the commands on the recorder,
the storage ports and the vault come to where they can act. -/

namespace Sys2Proof.Machine

/-! ### Writes to EVR and NVS that land (R415, R419, R420, R424) -/

section
variable {s : State}

/-- A write of EVR.CTRL, whose word is made from the device as it stands. -/
theorem State.regWrite_evrCtrl (word : Dev → Nat) (h : s.Lands .core F.EVR_CTRL_FLUSHNOW.addr) :
    s.regWrite .core F.EVR_CTRL_FLUSHNOW.addr (word s.dev)
      = s.did (fun d => d.evrBus .core F.EVR_CTRL_FLUSHNOW.addr (word d)) := State.regWrite_did h rfl

theorem State.regWrite_evrRead (w : Nat) (h : s.Lands .core F.EVR_RD_CTRL_GO.addr) :
    s.regWrite .core F.EVR_RD_CTRL_GO.addr w = s.did (fun d => d.readGo w) := State.regWrite_did h rfl

theorem State.regWrite_evrClear (m : Master) (w : Nat) (h : s.Lands m F.EVR_CLR_CTRL_GO.addr) :
    s.regWrite m F.EVR_CLR_CTRL_GO.addr w = s.did (fun d => d.clearGo m w) := State.regWrite_did h rfl

theorem State.regWrite_evrRecord (w : Nat) (h : s.Lands .core F.EVR_FW_CTRL_GO.addr) :
    s.regWrite .core F.EVR_FW_CTRL_GO.addr w = s.did (fun d => d.fwRecord w) := State.regWrite_did h rfl

/-- A word of the vault goes to the vault. -/
theorem Dev.nvsBus_vault (d : Dev) (i : Fin 2048) (w : Nat) : d.nvsBus (F.NVS_VAULT_WORD i).addr w = d.vaultUser i w := by
  have hoff : (0x152000 + 0x4 * (i : Nat)) % 0x10000 = 0x2000 + 4 * i := by omega
  have hvault : 0x2000 ≤ 0x2000 + 4 * (i : Nat) ∧ 0x2000 + 4 * (i : Nat) < 0x4000 := by omega
  have hindex : (0x2000 + 4 * (i : Nat) - 0x2000) / 4 = i := by omega
  simp only [F.NVS_VAULT_WORD, Dev.nvsBus, hoff, if_pos hvault, hindex]

theorem State.regWrite_vault (i : Fin 2048) (w : Nat) (h : s.Lands .core (F.NVS_VAULT_WORD i).addr) :
    s.regWrite .core (F.NVS_VAULT_WORD i).addr w = s.did (fun d => d.vaultUser i w) := by
  have hregion : regionOf (F.NVS_VAULT_WORD i).addr = 21 := by simp only [F.NVS_VAULT_WORD, regionOf]; omega
  have hword : wordAddr (F.NVS_VAULT_WORD i).addr = (F.NVS_VAULT_WORD i).addr := by simp only [F.NVS_VAULT_WORD, wordAddr]; omega
  refine State.regWrite_word hword h ?_
  rw [Dev.busWrite_nvs _ _ _ _ hregion, Dev.nvsBus_vault]

end

/-! ### The LOST record (R414) -/

section
variable {d : Dev}

theorem Dev.lostRecord_space (hlost : 0 < d.evr.lostN) (hready : d.ready 18 = true) (hspace : admitted 12 40 d.ringUsed = true) :
    d.lostRecord = (d.record 12 0 d.tim (le 4 d.evr.lostN ++ le 8 d.evr.lostFirst ++ le 8 d.evr.lostLast)).modEvr (fun e => { e with
      lostN := 0, lostFirst := 0, lostLast := 0 }) := if_pos ⟨hlost, hready, hspace⟩

theorem Dev.lostRecord_none (hnone : d.evr.lostN = 0) : d.lostRecord = d := if_neg fun ⟨hlost, _, _⟩ => Nat.ne_of_gt hlost hnone

end

/-- Settles O29, by whether records are lost. -/
theorem lostRecordDeclaresWhatWasLost : Obligations.LostRecordDeclaresWhatWasLost := fun _ hsys =>
  ⟨fun hlost hready hspace => (State.next_sysDo hsys _).trans
      (congrArg Host.Outcome.next (State.did_congr (Dev.lostRecord_space hlost hready hspace))),
    fun hnone => (State.next_sysDo hsys _).trans
      (congrArg Host.Outcome.next (State.did_congr (g := id) (Dev.lostRecord_none hnone)))⟩

/-- Settles O55: EVR.CTRL, EVR's GO registers and the vault are written, a unit of the vault ends in any state, and every
other command is an event of SYS. -/
theorem recorderCommandsComplete : Obligations.RecorderCommandsComplete := by
  intro s
  have next {t u : State} (h : t = u) : (.next t : Host.Outcome State Fault Refusal) = .next u := congrArg _ h
  have sys (f : Dev → Dev) (hsys : s.dev.sysRuns = true) :
      (.next (s.sysDo f) : Host.Outcome State Fault Refusal) = .next (s.did f) := State.next_sysDo hsys f
  exact ⟨sys Dev.lostRecord, sys Dev.flushTimer,
    fun hlands => next (State.regWrite_evrCtrl (·.wordWith F.EVR_CTRL_FLUSHNOW 1) hlands),
    fun outcome => sys (·.pageDone outcome), fun p geom => sys (·.portTrain p geom), sys Dev.coldScan,
    fun w hlands => next (State.regWrite_evrRead w hlands), fun bad => sys (·.readDone bad),
    sys (fun d => (d.busRead (F.EVR_NONCE_WORD 0).addr).1), sys Dev.nonceExpiry,
    fun m w hlands => next (State.regWrite_evrClear m w hlands), sys (·.clearVerdict s.otp),
    fun w hlands => next (State.regWrite_evrRecord w hlands), fun i w hlands => next (State.regWrite_vault i w hlands), rfl⟩

end Sys2Proof.Machine
end

section
/-! SUPPORT. Writes of TWB.x.CMD that land, the target's answers (R463, R464), and what the commands on the two-wire buses and their target
come to where they can act. -/

namespace Sys2Proof.Machine

/-! ### Writes to TWB that land (R454, R459) -/

/-- A write of TWB.x.CMD, whose word is made from the device as it stands. -/
theorem State.regWrite_twbCmd {s : State} (x : Fin 4) (word : Dev → Nat) (h : s.Lands .core (F.TWB_CMD_GO x).addr) :
    s.regWrite .core (F.TWB_CMD_GO x).addr (word s.dev) = s.did (fun d => d.twbBus (F.TWB_CMD_GO x).addr (word d)) := by
  have hregion : regionOf (F.TWB_CMD_GO x).addr = 25 := by simp only [F.TWB_CMD_GO, regionOf]; omega
  have hword : wordAddr (F.TWB_CMD_GO x).addr = (F.TWB_CMD_GO x).addr := by simp only [F.TWB_CMD_GO, wordAddr]; omega
  exact State.regWrite_word hword h (Dev.busWrite_twb _ _ _ _ hregion)

/-! ### The target's answers (R463, R464) -/

/-- The target acknowledges only while SYS runs. -/
theorem Dev.sysRuns_of_tgtOn {d : Dev} (h : d.tgtOn = true) : d.sysRuns = true := by
  cases hsys : d.sysRuns with
  | true => rfl
  | false => exact (Dev.tgtOn_held hsys).symm.trans h

/-- An answer of the target is given where it acknowledges. -/
theorem State.tgtAnswer_on {s : State} (h : s.dev.tgtOn = true) (b : List Nat) :
    s.sysDo (·.tgtAnswer b) = s.did (fun d => { d with out := d.out ++ [.reply 1 b] }) :=
  (State.sysDo_did (Dev.sysRuns_of_tgtOn h) _).trans (State.did_congr (if_pos h))

/-- Elsewhere nothing is answered, whether SYS runs or not. -/
theorem State.tgtAnswer_off {s : State} (h : s.dev.tgtOn = false) (b : List Nat) : s.sysDo (·.tgtAnswer b) = s := by
  have silent : s.dev.tgtAnswer b = s.dev := if_neg (by rw [h]; decide)
  cases hsys : s.dev.sysRuns with
  | true => exact (State.sysDo_did hsys _).trans (State.did_congr (g := id) silent)
  | false => exact s.sysDo_held _ hsys

/-- Settles O35, by whether the target acknowledges. -/
theorem targetNamesItself : Obligations.TargetNamesItself := fun _ =>
  have next {t u : State} (h : t = u) : (.next t : Host.Outcome State Fault Refusal) = .next u := congrArg _ h
  ⟨fun hon => ⟨next (State.tgtAnswer_on hon _), next (State.tgtAnswer_on hon _), next (State.tgtAnswer_on hon _),
      next (State.tgtAnswer_on hon _)⟩,
    fun hoff => ⟨next (State.tgtAnswer_off hoff _), next (State.tgtAnswer_off hoff _), next (State.tgtAnswer_off hoff _),
      next (State.tgtAnswer_off hoff _)⟩⟩

/-- Settles O58: TWB.x.CMD is written, a transfer of REG_DATA is the target's request, and every other command is an event of SYS. -/
theorem twoWireCommandsComplete : Obligations.TwoWireCommandsComplete := by
  intro s
  have sys (f : Dev → Dev) (hsys : s.dev.sysRuns = true) :
      (.next (s.sysDo f) : Host.Outcome State Fault Refusal) = .next (s.did f) := State.next_sysDo hsys f
  exact ⟨fun x hlands => congrArg Host.Outcome.next (State.regWrite_twbCmd x (·.wordWith (F.TWB_CMD_GO x) 1) hlands),
    fun x => sys (·.txnStart x), fun x result => sys (·.attemptEnd x result), fun x free => sys (·.busTimeout x free),
    fun x free => sys (·.stuckRetry x free), sys (·.tgtAnswer _), sys (·.tgtAnswer _), sys (·.tgtAnswer _), sys (·.tgtAnswer _),
    fun addr pecOk => sys (·.tgtSetAddr addr pecOk), fun _ => rfl, fun _ _ _ => rfl, sys (fun d => d.tgtAnswer [d.target.stat]), rfl,
    sys Dev.tgtRespond, sys Dev.tgtError, sys Dev.tgtReset⟩

end Sys2Proof.Machine
end

section
/-! SUPPORT. Over-current at the service port and the end of its recovery (R473), and what the commands on the port come to where they can
act. -/

namespace Sys2Proof.Machine

/-! ### Over-current and recovery (R473) -/

section
variable {d : Dev}

theorem Dev.overcurrent_source (h : d.ccState = ccSource) : d.overcurrent false = d.ccRecover :=
  if_neg fun hidle => hidle.elim (· h) (fun harmed => Bool.false_ne_true harmed.1)

theorem Dev.overcurrent_other (h : d.ccState ≠ ccSource) : d.overcurrent false = d := if_pos (.inl h)

theorem Dev.recoveryEnd_due (herror : d.ccState = ccError) (hdue : due d.cpd.openEnd d.now = true) :
    d.recoveryEnd = (d.modCpd (fun c => { c with openEnd := none })).set F.CPD_STATUS_STATE ccNone := if_pos ⟨herror, hdue⟩

theorem Dev.recoveryEnd_early (h : d.ccState ≠ ccError ∨ due d.cpd.openEnd d.now = false) : d.recoveryEnd = d :=
  if_neg fun ⟨herror, hdue⟩ => h.elim (· herror) (fun hopen => Bool.false_ne_true (hopen.symm.trans hdue))

end

/-- An event of the service port out of a cold reset, whose operation comes to `g` on the device as it stands. -/
theorem State.next_pdDo_congr {s : State} {f g : Dev → Dev} (hcold : s.dev.rst.cold = false) (h : f s.dev = g s.dev) :
    (.next (s.pdDo f) : Host.Outcome State Fault Refusal) = .next (s.did g) :=
  (State.next_pdDo hcold f).trans (congrArg Host.Outcome.next (State.did_congr h))

/-- Settles O37, by the port's state and whether the lines have been open for 25 ms. -/
theorem overcurrentOpensThePort : Obligations.OvercurrentOpensThePort := fun _ hcold =>
  ⟨fun hsource => State.next_pdDo_congr hcold (Dev.overcurrent_source hsource),
    fun hother => State.next_pdDo_congr (g := id) hcold (Dev.overcurrent_other hother),
    fun herror hdue => State.next_pdDo_congr hcold (Dev.recoveryEnd_due herror hdue),
    fun h => State.next_pdDo_congr (g := id) hcold (Dev.recoveryEnd_early h)⟩

/-! ### The commands on the port -/

/-- A write of CPD.CTRL that lands, whose word is made from the device as it stands. -/
theorem State.regWrite_cpdCtrl {s : State} (word : Dev → Nat) (h : s.Lands .core F.CPD_CTRL_HARDRST.addr) :
    s.regWrite .core F.CPD_CTRL_HARDRST.addr (word s.dev) = s.did (fun d => d.cpdCtrl (word d)) := State.regWrite_did h rfl

/-- Settles O59: CPD.CTRL is written, the service function's requests go their own way, and every other command is an event of the
port. -/
theorem portCommandsComplete : Obligations.PortCommandsComplete := by
  intro s
  have port (f : Dev → Dev) (hcold : s.dev.rst.cold = false) :
      (.next (s.pdDo f) : Host.Outcome State Fault Refusal) = .next (s.did f) := State.next_pdDo hcold f
  exact ⟨fun rp cc2 => port (·.ccAttach rp cc2), port Dev.ccDetach, fun objs => port (·.sourceCaps objs),
    fun pos cur => port (·.pdRequest pos cur), fun sink => port (·.getCap sink), port Dev.prSwap, port Dev.drSwap,
    port Dev.pdUnsupported, port Dev.hardReset,
    fun hlands => congrArg Host.Outcome.next (State.regWrite_cpdCtrl (·.wordWith F.CPD_CTRL_HARDRST 1) hlands),
    fun vhk => port (·.frSwap vhk), fun vhk => port (·.overcurrent vhk), port Dev.recoveryEnd, fun _ => rfl, rfl,
    fun msg => port (·.pdReply msg), port Dev.softReset, port Dev.usbConfigured, port Dev.usbIn⟩

end Sys2Proof.Machine
end

section
/-! SUPPORT. Writes of DMA's control registers that land (R117, R443, R444, R450), and what the commands on the DMA engine come to where
they can act. -/

namespace Sys2Proof.Machine

/-- A word for a channel's CTRL: ignored where it sets a bit before DMA is READY, refused on EVR's channel, else the channel's. -/
theorem Dev.dmaBus_ctrl (d : Dev) (c : Fin 8) (w : Nat) : d.dmaBus (F.DMA_CTRL_GO c).addr w =
    if d.goBlocked (F.DMA_CTRL_GO c).addr w then d.goIgnored (F.DMA_CTRL_GO c).addr w (goMask (F.DMA_CTRL_GO c).addr)
    else if (c : Nat) = 7 then d.note 2 (F.DMA_CTRL_GO c).addr w (d.plainWord (F.DMA_CTRL_GO c).addr)
    else d.dmaCtrl c w := by
  have hoff : (F.DMA_CTRL_GO c).addr % 0x10000 = 0x10C + 0x20 * c := by simp only [F.DMA_CTRL_GO]; omega
  have hclear : ¬ 0x10C + 0x20 * (c : Nat) = 0 := by omega
  have hevr : (0x1E0 ≤ 0x10C + 0x20 * (c : Nat) ∧ 0x10C + 0x20 * (c : Nat) < 0x200) ↔ (c : Nat) = 7 := by omega
  have hplace : (0x10C + 0x20 * (c : Nat)) % 0x20 = 0xC := by omega
  have hchan : (0x10C + 0x20 * (c : Nat) - 0x100) / 0x20 = c := by omega
  unfold Dev.dmaBus
  simp only [hoff, if_neg hclear, hevr, hplace, hchan, if_true]
  refine ite_congr rfl (fun _ => rfl) fun _ => ite_congr rfl (fun _ => rfl) fun hother => if_pos ?_
  omega

section
variable {s : State}

/-- A write of a channel's CTRL that lands, whose word is made from the device as it stands. -/
theorem State.regWrite_dmaCtrl (c : Fin 8) (word : Dev → Nat) (h : s.Lands .core (F.DMA_CTRL_GO c).addr) :
    s.regWrite .core (F.DMA_CTRL_GO c).addr (word s.dev) = s.did (fun d =>
      if d.goBlocked (F.DMA_CTRL_GO c).addr (word d) then d.goIgnored (F.DMA_CTRL_GO c).addr (word d) (goMask (F.DMA_CTRL_GO c).addr)
      else if (c : Nat) = 7 then d.note 2 (F.DMA_CTRL_GO c).addr (word d) (d.plainWord (F.DMA_CTRL_GO c).addr)
      else d.dmaCtrl c (word d)) := by
  have hregion : regionOf (F.DMA_CTRL_GO c).addr = 24 := by simp only [F.DMA_CTRL_GO, regionOf]; omega
  have hword : wordAddr (F.DMA_CTRL_GO c).addr = (F.DMA_CTRL_GO c).addr := by simp only [F.DMA_CTRL_GO, wordAddr]; omega
  refine State.regWrite_word hword h ?_
  rw [Dev.busWrite_dma _ _ _ _ hregion, Dev.dmaBus_ctrl]

/-- A write of CLEAR that lands. -/
theorem State.regWrite_dmaClear (h : s.Lands .core F.DMA_GCTRL_CLEAR.addr) :
    s.regWrite .core F.DMA_GCTRL_CLEAR.addr 1 = s.did (fun d =>
      if d.goBlocked F.DMA_GCTRL_CLEAR.addr 1 then d.goIgnored F.DMA_GCTRL_CLEAR.addr 1 (goMask F.DMA_GCTRL_CLEAR.addr)
      else d.dmaClear) := State.regWrite_did h rfl

end

/-- Settles O57: the channels' CTRL and CLEAR are written, and every other command is an event of SYS. -/
theorem dmaCommandsComplete : Obligations.DmaCommandsComplete := by
  intro s
  have next {t u : State} (h : t = u) : (.next t : Host.Outcome State Fault Refusal) = .next u := congrArg _ h
  exact ⟨fun c hlands => next (State.regWrite_dmaCtrl c (·.wordWith (F.DMA_CTRL_GO c) 1) hlands),
    fun c hlands => next (State.regWrite_dmaCtrl c (·.wordWith (F.DMA_CTRL_GO c) 0) hlands),
    fun c hlands => next (State.regWrite_dmaCtrl c (·.wordWith (F.DMA_CTRL_RESUME c) 1) hlands),
    fun hlands => next (State.regWrite_dmaClear hlands), fun _ hsys => next (if_pos hsys), fun _ hsys => next (if_pos hsys),
    fun _ hsys => State.next_sysDo hsys _, fun _ _ _ hsys => next (if_pos hsys)⟩

end Sys2Proof.Machine
end

section
/-! SUPPORT. The core's accesses to the Drawer (R437, R439), the zeroing of a page (R436), a request that the host port carries out within
its transaction (R429, R430), and what the commands on the host port and the Drawer come to where they can act. -/

namespace Sys2Proof.Machine

/-- An event of SYS, while SYS runs, whose operation comes to `g` on the device as it stands. -/
theorem State.next_sysDo_congr {s : State} {f g : Dev → Dev} (hsys : s.dev.sysRuns = true) (h : f s.dev = g s.dev) :
    (.next (s.sysDo f) : Host.Outcome State Fault Refusal) = .next (s.did g) :=
  (State.next_sysDo hsys f).trans (congrArg Host.Outcome.next (State.did_congr h))

/-! ### The core and the Drawer (R437, R439) -/

section
variable {d : Dev} {off : Nat} (hcore : d.coreRuns = true)
include hcore

theorem Dev.coreAccess_fault (hpage : d.own (off / 0x1000) ≠ ownDev) (st : Option Nat) :
    d.coreAccess off st = d.stick F.WIN_STATUS_CFAULT 1 := by
  simp only [Dev.coreAccess, hcore, hpage, Bool.not_true, Bool.false_eq_true, ne_eq, not_false_eq_true, if_true, if_false]

theorem Dev.coreAccess_load (hpage : d.own (off / 0x1000) = ownDev) : d.coreAccess off none = d := by
  simp only [Dev.coreAccess, hcore, hpage, Bool.not_true, Bool.false_eq_true, ne_eq, not_true_eq_false, if_false]

theorem Dev.coreAccess_store (hpage : d.own (off / 0x1000) = ownDev) (hroom : d.wbuf.length < 4) (w : Nat) :
    d.coreAccess off (some w) = { d with wbuf := d.wbuf ++ [(off / 4 * 4, w)] } := by
  simp only [Dev.coreAccess, hcore, hpage, Nat.not_le.2 hroom, Bool.not_true, Bool.false_eq_true, ne_eq, not_true_eq_false, if_false]

end

/-- Settles O32, by who owns the page and by what the core does there. -/
theorem coreTouchesOnlyDevicePages : Obligations.CoreTouchesOnlyDevicePages := fun _ _ st w hsys hcore =>
  ⟨fun hpage => State.next_sysDo_congr hsys (Dev.coreAccess_fault hcore hpage st),
    fun hpage => State.next_sysDo_congr (g := id) hsys (Dev.coreAccess_load hcore hpage),
    fun hpage hroom => State.next_sysDo_congr hsys (Dev.coreAccess_store hcore hpage hroom w)⟩

/-! ### The zeroing of a page (R436) -/

theorem Memory.forget_cons (lo hi k : Nat) (v : BitVec 8) (t : List Host.Cell) : Memory.forget lo hi ((k, v) :: t)
    = if k < lo ∨ hi ≤ k then (k, v) :: Memory.forget lo hi t else Memory.forget lo hi t := by
  simp only [Memory.forget, List.filter_cons, decide_eq_true_eq]

/-- A byte of a range that is forgotten reads 0. -/
theorem Memory.read_forget_in {a lo hi : Nat} (hlo : lo ≤ a) (hhi : a < hi) :
    ∀ l : List Host.Cell, Memory.read a (Memory.forget lo hi l) = 0
  | [] => rfl
  | (k, v) :: t => by
    rw [Memory.forget_cons]
    split
    case isTrue hkept => exact (if_neg (by omega)).trans (Memory.read_forget_in hlo hhi t)
    case isFalse => exact Memory.read_forget_in hlo hhi t

/-- A byte outside the range reads as before. -/
theorem Memory.read_forget_out {a lo hi : Nat} (hout : a < lo ∨ hi ≤ a) :
    ∀ l : List Host.Cell, Memory.read a (Memory.forget lo hi l) = Memory.read a l
  | [] => rfl
  | (k, v) :: t => by
    rw [Memory.forget_cons]
    split
    case isTrue => exact ite_congr rfl (fun _ => rfl) fun _ => Memory.read_forget_out hout t
    case isFalse hgone =>
      have hother : a ≠ k := fun h => hgone (h ▸ hout)
      exact (Memory.read_forget_out hout t).trans (if_neg hother).symm

/-- The end of a page's zeroing forgets the page's bytes and takes the page from the list; the rest of what it does shows in registers. -/
theorem Dev.pageZeroDone_zeroing {d : Dev} {p : Nat} (h : d.zeroing.contains p = true) : ∃ regs, d.pageZeroDone p = { d with
    zeroing := d.zeroing.filter (· != p)
    mem := Memory.forget (drawerBase + 0x1000 * p) (drawerBase + 0x1000 * p + 0x1000) d.mem
    regs := regs } := by
  simp only [Dev.pageZeroDone, h, if_true]
  split <;> exact ⟨_, rfl⟩

theorem Dev.pageZeroDone_other {d : Dev} {p : Nat} (h : d.zeroing.contains p = false) : d.pageZeroDone p = d :=
  if_neg (by rw [h]; decide)

/-- Settles O33, by whether the page is being zeroed. -/
theorem zeroedPageReadsZero : Obligations.ZeroedPageReadsZero := by
  intro s p hsys
  refine ⟨fun hzero => ⟨_, State.next_sysDo hsys _, rfl, rfl, ?_⟩,
    fun h => State.next_sysDo_congr (g := id) hsys (Dev.pageZeroDone_other h)⟩
  obtain ⟨regs, hdone⟩ := Dev.pageZeroDone_zeroing hzero
  rw [State.did_dev, hdone]
  exact ⟨rfl, rfl, by simp, fun a hlo hhi => Memory.read_forget_in hlo hhi _, fun a hout => Memory.read_forget_out hout _⟩

/-! ### Requests of the host (R427 to R430) -/

/-- HST.H_LAST shows in its own fields alone. -/
theorem Dev.get_hostLast {d : Dev} {r : PortReq} {f : Fld} (hcmd : f.key ≠ F.HST_H_LAST_CMD.key) (haddr : f.key ≠ F.HST_H_LAST_ADDR.key) :
    (d.hostLast r).get f = d.get f :=
  (Dev.get_set_other _ haddr _).trans (d.get_set_other hcmd _)

/-- A request that the port is open to, that matches no held result, is not denied, does not hang and ends in time is carried out. -/
theorem State.request_done {s : State} {m : Master} {r : PortReq} (hpend : (s.dev.slotOf m).pend = none)
    (hheld : (s.dev.slotOf m).held = none) (hdenied : (s.dev.setSlot m {}).reqDenied m r = false)
    (hhangs : (s.dev.setSlot m {}).reqHangs r = false) :
    s.request m r true true = (((s.onDev (·.setSlot m {})).reqDo m r).1, stDone, ((s.onDev (·.setSlot m {})).reqDo m r).2) := by
  have hdenied' : (s.onDev (·.setSlot m {})).dev.reqDenied m r = false := hdenied
  have hhangs' : (s.onDev (·.setSlot m {})).dev.reqHangs r = false := hhangs
  simp only [State.request, hpend, hheld, hdenied', hhangs', Option.filter_none, Option.isSome_none, Bool.not_true, Bool.or_self,
    Bool.false_eq_true, if_false, Nat.add_zero]

/-- Such a request of the host is done and answered within its transaction. -/
theorem State.hostTxn_served {s : State} {c : PortCmd} {t : Nat} (hstat : c ≠ .rdstat) (hknown : c ≠ .unknown)
    (h : s.HostOpen (portReq c) t) : s.hostTxn c t = s.hostServed (portReq c) := by
  obtain ⟨hcold, hfed, hready, hpend, hheld, hdenied, hhangs, htime⟩ := h
  have answers : (s.dev.rst.cold || !(s.dev.sup.a || s.dev.sup.b)) = false := by rw [hcold, hfed]; rfl
  have ready : (s.onDev (·.hostLast (portReq c))).dev.ready 20 = true := by
    simpa [Dev.ready, Dev.on, State.onDev, Dev.get_hostLast (show (⟨4, 20, 1⟩ : Fld).key ≠ F.HST_H_LAST_CMD.key by decide)
      (show (⟨4, 20, 1⟩ : Fld).key ≠ F.HST_H_LAST_ADDR.key by decide)] using hready
  have wdrop : (s.onDev (·.hostLast (portReq c))).dev.get F.HST_HSTICKY_WDROP = s.dev.get F.HST_HSTICKY_WDROP :=
    Dev.get_hostLast (by decide) (by decide)
  have time : (s.onDev (·.hostLast (portReq c))).dev.inDummy (portReq c) t = true := htime
  have done := State.request_done (s := s.onDev (·.hostLast (portReq c))) (m := .host) hpend hheld hdenied hhangs
  cases c with
  | rdstat => exact absurd rfl hstat
  | unknown => exact absurd rfl hknown
  | _ =>
    simp only [State.hostTxn, answers, ready, time, done, wdrop, Bool.false_eq_true, if_false]
    rfl

/-- A doorbell's write goes to the bell of its side. -/
theorem State.regWrite_bell {s : State} {m : Master} (core : Bool) (mask : Nat)
    (h : s.Lands m (F.HST_HOSTBELL_BELL.addr + 4 * core.toNat)) :
    s.regWrite m (F.HST_HOSTBELL_BELL.addr + 4 * core.toNat) mask = s.did (fun d => d.bellWrite m.hostSide core mask) := by
  cases core <;> exact State.regWrite_did h rfl

theorem State.regWrite_winXfer {s : State} (w : Nat) (h : s.Lands .core F.WIN_XFER_PAGE.addr) :
    s.regWrite .core F.WIN_XFER_PAGE.addr w = s.did (fun d => d.winXfer false w) := State.regWrite_did h rfl

/-- RDSTAT is answered out of the port's own state. -/
theorem exec_hostRdstat {s : State} (hcold : s.dev.rst.cold = false) (hfed : (s.dev.sup.a || s.dev.sup.b) = true) :
    exec .hostRdstat s = .next (s.did (fun d =>
      (d.hostLast (portReq .rdstat)).answer 0 [d.statusByte (if d.hst.pend.isSome || !d.ready 20 then stBusy else 0)])) := by
  have answers : (s.dev.rst.cold || !(s.dev.sup.a || s.dev.sup.b)) = false := by rw [hcold, hfed]; rfl
  have txn : s.hostTxn .rdstat 0 = s.did (fun d =>
      (d.hostLast (portReq .rdstat)).answer 0 [d.statusByte (if d.hst.pend.isSome || !d.ready 20 then stBusy else 0)]) := by
    unfold State.hostTxn
    rw [answers]
    rfl
  exact congrArg Host.Outcome.next txn

/-- Settles O56: six commands make requests, three write registers of HST and WIN or are answered by HST alone, and every other is an
event of SYS. -/
theorem hostCommandsComplete : Obligations.HostCommandsComplete := by
  intro s
  have next {t u : State} (h : t = u) : (.next t : Host.Outcome State Fault Refusal) = .next u := congrArg _ h
  have sys (f : Dev → Dev) (hsys : s.dev.sysRuns = true) :
      (.next (s.sysDo f) : Host.Outcome State Fault Refusal) = .next (s.did f) := State.next_sysDo hsys f
  have served (c : PortCmd) (t : Nat) (hstat : c ≠ .rdstat) (hknown : c ≠ .unknown) (h : s.HostOpen (portReq c) t) :
      (.next (s.hostTxn c t) : Host.Outcome State Fault Refusal) = .next (s.hostServed (portReq c)) :=
    next (State.hostTxn_served hstat hknown h)
  exact ⟨exec_hostRdstat,
    fun addr t => served (.rdreg addr) t nofun nofun, fun addr w t => served (.wrreg addr w) t nofun nofun,
    fun off len t => served (.rdwin off len) t nofun nofun, fun off bytes t => served (.wrwin off bytes) t nofun nofun,
    fun page src dst t => served (.xfer page src dst) t nofun nofun, fun t => served .rdown t nofun nofun,
    exec_hostUnknownCommand, rfl, fun m core mask hlands => next (State.regWrite_bell core mask hlands),
    fun w hlands => next (State.regWrite_winXfer w hlands), fun at_ => sys (·.memEcc at_), fun p => sys (·.pageZeroDone p),
    fun off st => sys (·.coreAccess off st), sys Dev.coreLate, sys (fun d => d.drainAll d.wbuf.length), rfl⟩

end Sys2Proof.Machine
end

section
/-! SUPPORT. Writes of the battery strings' and the temperature sensors' registers (R300, R312, R342), the SAFE shutdown line at its second
reading (R346, R347), and what the commands on both come to where they can act. -/

namespace Sys2Proof.Machine

/-! ### Writes of BAT.s.CTRL (R302, R312) -/

/-- A word for a register of BAT that sets no enable before BAT is READY (R117), nor names a string that is not there (R504), goes to BAT. -/
theorem Dev.loopWrite_bat {d : Dev} {a w : Nat} (hregion : regionOf a = 11) (hrow : (rowAt a).isSome = true)
    (hcfg : d.configured a = true) (hgo : d.goBlocked a w = false) : d.loopWrite a w = d.batBus a w := by
  have hnone : (rowAt a).isNone = false := by rw [← Option.not_isSome, hrow, Bool.not_true]
  simp only [Dev.loopWrite, hnone, hcfg, hgo, hregion, Bool.not_true, Bool.or_self, Bool.false_eq_true, if_false]

/-- A write of BAT.s.CTRL that is taken at once, whose word is made from the device as it stands. -/
theorem State.regWrite_batCtrl {s : State} {n : Fin 4} {a : Nat} (ha : a = 0xB0000 + 0x40 * n) (word : Dev → Nat)
    (h : s.Takes a (word s.dev)) : s.regWrite .core a (word s.dev) = s.did (fun d => d.batBus a (word d)) := by
  have hregion : regionOf a = 11 := by rw [ha]; unfold regionOf; omega
  have hword : wordAddr a = a := by rw [ha]; unfold wordAddr; omega
  have hspace : a < 0x400000 := by omega
  have hrow : (rowAt a).isSome = true := by
    rw [ha] at hregion ⊢
    exact rowAt_instance (count := 4) (by decide +kernel) (by decide) n.isLt hregion
  obtain ⟨⟨-, -, hcfg, hgo⟩, -⟩ := id h
  rw [hword] at hcfg hgo
  rw [State.regWrite_loop s a _ (by rw [hregion]; rfl) hword hspace h]
  exact State.did_congr (Dev.loopWrite_bat hregion hrow hcfg hgo)

/-- Settles O48: BAT.s.CTRL is written, and every other command is an event of LOOP. -/
theorem batteryCommandsComplete : Obligations.BatteryCommandsComplete := by
  intro s
  have next (f : Dev → Dev) (hloop : s.dev.loopRuns = true) :
      (.next (s.loopDo f) : Host.Outcome State Fault Refusal) = .next (s.looped f) := State.next_loopDo hloop rfl
  exact ⟨fun n uA dt v ta tb => next (·.arrives (.bat n uA dt v ta tb)), fun n => next (·.restReference n),
    fun n => next (·.fullReference n), fun n => next (·.irReference n), fun n => next (·.refStale n),
    fun n v htakes => congrArg Host.Outcome.next (State.regWrite_batCtrl rfl (·.wordWith (F.BAT_CTRL_REST n) v.toNat) htakes),
    fun n => next (·.restTimeout n), fun n => next (·.permRepeat n), fun n => next (·.chgForbid n),
    fun n => next (·.chargeRepermit n), fun n => next (·.strAbsent n), fun n => next (·.strPresent n),
    fun n htakes => congrArg Host.Outcome.next (State.regWrite_batCtrl rfl (·.wordWith (F.BAT_CTRL_NEWSTRING n) 1) htakes),
    fun n => next (·.firstEstimate n), fun n uA => next (·.arrives (.coarse n uA))⟩

/-! ### The SAFE shutdown line (R346, R347) -/

section
variable {d : Dev}

/-- The second reading asserts the line and shows it, counts the shutdown and raises its source. -/
theorem Dev.safeShut_second (hopen : d.safeThm.asserted = false) (hrun : 2 ≤ d.safeThm.run) : d.safeShut =
    ((({ d with safeThm := { d.safeThm with asserted := true, restEnd := none }, safeLine := true } : Dev).setB
      F.THM_STATUS_SAFELINE true).fwPulse 67).raise 627 := by
  have hjudged : (d.safeThm.asserted || decide (d.safeThm.run < 2)) = false := by
    rw [hopen, decide_eq_false (Nat.not_lt.2 hrun), Bool.or_false]
  exact if_neg (by rw [hjudged]; decide)

theorem Dev.safeShut_other (h : d.safeThm.asserted = true ∨ d.safeThm.run < 2) : d.safeShut = d := if_pos (by simpa using h)

end

/-- Settles O16, by whether the line is asserted and by SAFE's run of readings. -/
theorem safeShutAssertsItsLine : Obligations.SafeShutAssertsItsLine := fun _ =>
  ⟨fun hopen hrun => congrArg Host.Outcome.next (State.did_congr (Dev.safeShut_second hopen hrun)),
    fun h => congrArg Host.Outcome.next (State.did_congr (f := Dev.safeShut) (g := id) (Dev.safeShut_other h))⟩

/-! ### Writes of THM.n.LIM1 and THM.n.LIM2 (R342) -/

theorem rowAt_thmLim : ∀ (n : Fin 6) (second : Bool), (rowAt ((F.THM_LIM1_WARN n).addr + 4 * second.toNat)).isSome = true := by
  decide +kernel

/-- A word for one of a sensor's two limit registers goes to it. -/
theorem Dev.thmBus_lim (d : Dev) (n : Fin 6) (second : Bool) (w : Nat) :
    d.thmBus ((F.THM_LIM1_WARN n).addr + 4 * second.toNat) w = d.thmLimWrite n second.toNat w := by
  simp only [F.THM_LIM1_WARN, Dev.thmBus]
  cases second with
  | false =>
    have hlim1 : 0xF0004 + 0x10 * (n : Nat) < 0xF0060 ∧ (0xF0004 + 0x10 * (n : Nat)) % 0x10 = 4 := by omega
    have hsensor : (0xF0004 + 0x10 * (n : Nat) - 0xF0000) / 0x10 = n := by omega
    exact (if_pos hlim1).trans (congrArg (d.thmLimWrite · 0 w) hsensor)
  | true =>
    have hnot : ¬ (0xF0004 + 0x10 * (n : Nat) + 4 < 0xF0060 ∧ (0xF0004 + 0x10 * (n : Nat) + 4) % 0x10 = 4) := by omega
    have hlim2 : 0xF0004 + 0x10 * (n : Nat) + 4 < 0xF0060 ∧ (0xF0004 + 0x10 * (n : Nat) + 4) % 0x10 = 8 := by omega
    have hsensor : (0xF0004 + 0x10 * (n : Nat) + 4 - 0xF0000) / 0x10 = n := by omega
    exact (if_neg hnot).trans ((if_pos hlim2).trans (congrArg (d.thmLimWrite · 1 w) hsensor))

/-- A write of one of them that is taken at once. -/
theorem State.regWrite_thmLim {s : State} {n : Fin 6} {second : Bool} {w : Nat}
    (h : s.Takes ((F.THM_LIM1_WARN n).addr + 4 * second.toNat) w) :
    s.regWrite .core ((F.THM_LIM1_WARN n).addr + 4 * second.toNat) w = s.did (fun d => d.thmLimWrite n second.toNat w) := by
  have hsecond : second.toNat ≤ 1 := Bool.toNat_le second
  have hregion : regionOf ((F.THM_LIM1_WARN n).addr + 4 * second.toNat) = 15 := by
    simp only [F.THM_LIM1_WARN, regionOf]; omega
  have hword : wordAddr ((F.THM_LIM1_WARN n).addr + 4 * second.toNat) = (F.THM_LIM1_WARN n).addr + 4 * second.toNat := by
    simp only [F.THM_LIM1_WARN, wordAddr]; omega
  have hspace : (F.THM_LIM1_WARN n).addr + 4 * second.toNat < 0x400000 := by simp only [F.THM_LIM1_WARN]; omega
  have hnone : (rowAt ((F.THM_LIM1_WARN n).addr + 4 * second.toNat)).isNone = false := by
    rw [← Option.not_isSome, rowAt_thmLim, Bool.not_true]
  obtain ⟨⟨-, -, hcfg, hgo⟩, -⟩ := id h
  rw [hword] at hcfg hgo
  rw [State.regWrite_loop s _ w (by rw [hregion]; rfl) hword hspace h]
  refine State.did_congr (Eq.trans ?_ (s.dev.thmBus_lim n second w))
  simp only [Dev.loopWrite, hnone, hcfg, hgo, hregion, Bool.not_true, Bool.or_self, Bool.false_eq_true, if_false]

/-- An event that acts where a condition holds, where it does. -/
theorem State.next_when {s : State} {b : Bool} (h : b = true) (f : Dev → Dev) :
    (.next (s.onDev (Dev.when b f)) : Host.Outcome State Fault Refusal) = .next (s.did f) :=
  congrArg Host.Outcome.next (State.did_congr (f := Dev.when b f) (if_pos h))

/-- Settles O51: THM's limits are written, sensor 1 is SAFE's and acts whether LOOP runs or not, and every other command is an event of
LOOP. -/
theorem thermalCommandsComplete : Obligations.ThermalCommandsComplete := fun _ =>
  ⟨fun _ _ hruns => State.next_when hruns _, rfl, fun _ hruns => State.next_when hruns _,
    fun _ hloop => State.next_loopDo hloop rfl, fun _ _ _ htakes => congrArg Host.Outcome.next (State.regWrite_thmLim htakes)⟩

end Sys2Proof.Machine
end

section
/-! SUPPORT. Register writes into LOOP on a duplex device (R358 to R363), the ends of SYNC's and SPLIT's timers (R355, R371), and what the
commands on the pair come to where they can act. -/

namespace Sys2Proof.Machine

/-! ### Register writes into LOOP (R92, R359, R363) -/

/-- An access to a register of LOOP waits for no clock but LOOP's. -/
theorem Dev.hangs_loop {d : Dev} {a : Nat} (hloop : loopRegion (regionOf a) = true) (hclk : d.loopClk = true) : d.hangs a = false := by
  have elsewhere (b : Nat) (hb : loopRegion (regionOf b) = false) : (a == b) = false := by
    refine beq_false_of_ne fun hab => ?_
    rw [hab, hb] at hloop
    cases hloop
  have hpd : (regionOf a == 26) = false := by
    refine beq_false_of_ne fun hab => ?_
    rw [hab] at hloop
    cases hloop
  simp only [Dev.hangs, hloop, hclk, hpd, elsewhere 0x160100 rfl, elsewhere 0x154000 rfl, elsewhere 0x154004 rfl, Bool.not_true,
    Bool.and_false, Bool.false_and, Bool.or_self]

/-- A write by a master that may make it to a register of LOOP goes the way of a SYS write into LOOP. -/
theorem State.regWrite_sysLoop {s : State} {m : Master} {a : Nat} (w : Nat) (hruns : s.dev.masterRuns m = true)
    (hclk : s.dev.loopClk = true) (hmay : s.dev.mayWrite m (wordAddr a) = true) (hloop : loopRegion (regionOf (wordAddr a)) = true) :
    s.regWrite m a w = s.did (fun d => d.sysLoopWrite (wordAddr a) w) :=
  State.regWrite_did ⟨hruns, hmay, Dev.hangs_loop hloop hclk⟩ (if_pos hloop)

section
variable {d : Dev} {a w : Nat}

theorem Dev.sysLoopWrite_refused (hregion : regionOf a ≠ 16) (hby : d.standsBy = true) (hack : ¬ (0xE0200 ≤ a ∧ a < 0xE0260)) :
    d.sysLoopWrite a w = (d.inc F.DPX_COUNTS_REFUSED).note 2 a w (d.plainWord a) := by
  have hduplex : d.isDuplex = true := (Bool.and_eq_true_iff.1 hby).1
  have hown : d.ownWrite a = false := by
    simp only [Dev.ownWrite, hduplex, hby, beq_false_of_ne hregion, decide_eq_false hack, Bool.not_true, Bool.and_false, Bool.or_self]
  simp only [Dev.sysLoopWrite, hown, hby, Bool.false_eq_true, if_false, if_true]

theorem Dev.sysLoopWrite_delayed (hregion : regionOf a ≠ 16) (hduplex : d.isDuplex = true) (hby : d.standsBy = false) :
    d.sysLoopWrite a w = d.pairPut (.write a w) := by
  have hown : d.ownWrite a = false := by
    simp only [Dev.ownWrite, hduplex, hby, beq_false_of_ne hregion, Bool.not_true, Bool.false_and, Bool.or_self]
  simp only [Dev.sysLoopWrite, hown, hby, Bool.false_eq_true, if_false]

/-- A write's use tick carries it out, unless it is FAB's swap, which LOOP's registers are not. -/
theorem Dev.peerItem_write (d : Dev) (hloop : loopRegion (regionOf a) = true) : d.peerItem (.write a w) = d.loopWrite a w := by
  refine if_neg fun ⟨hswap, _⟩ => ?_
  rw [hswap] at hloop
  cases hloop

end

/-- Settles O21, by whether the device stands by. -/
theorem standbyRefusesLoopWrites : Obligations.StandbyRefusesLoopWrites := by
  intro s m a w hruns hclk hmay hloop hregion
  have written : exec (.registerWrite m a w) s = .next (s.did (fun d => d.sysLoopWrite (wordAddr a) w)) :=
    congrArg Host.Outcome.next (State.regWrite_sysLoop w hruns hclk hmay hloop)
  exact ⟨fun hby hack => written.trans (congrArg _ (State.did_congr (Dev.sysLoopWrite_refused hregion hby hack))),
    fun hduplex hby => written.trans (congrArg _ (State.did_congr (Dev.sysLoopWrite_delayed hregion hduplex hby))),
    fun d => d.peerItem_write hloop⟩

/-! ### The timers of SYNC and SPLIT (R355, R371) -/

section
variable {d : Dev}

theorem Dev.syncTimeout_due (hsync : d.dpxState = dpxSync) (hdue : due d.dpx.syncEnd d.loop = true) :
    d.syncTimeout = d.dpxGo dpxFenced := if_pos ⟨hsync, hdue⟩

theorem Dev.syncTimeout_other (h : d.dpxState ≠ dpxSync ∨ due d.dpx.syncEnd d.loop = false) : d.syncTimeout = d :=
  if_neg fun ⟨hsync, hdue⟩ => h.elim (· hsync) (fun hearly => Bool.false_ne_true (hearly.symm.trans hdue))

theorem Dev.splitTimeout_due (hsplit : d.dpxState = dpxSplit) (hdue : due d.dpx.splitEnd d.loop = true) (hnone : d.dpx.driveAt = none) :
    d.splitTimeout = d.dpxGo dpxFenced := if_pos ⟨hsplit, hdue, by rw [hnone]; rfl⟩

theorem Dev.splitTimeout_other
    (h : d.dpxState ≠ dpxSplit ∨ due d.dpx.splitEnd d.loop = false ∨ d.dpx.driveAt.isSome = true) : d.splitTimeout = d := by
  refine if_neg fun ⟨hsplit, hdue, hnone⟩ => ?_
  rcases h with hother | hearly | hdrive
  · exact hother hsplit
  · exact Bool.false_ne_true (hearly.symm.trans hdue)
  · rw [Option.isNone_iff_eq_none.1 hnone] at hdrive
    cases hdrive

end

/-- Settles O22, by the state, the timer, and whether a drive is decided. -/
theorem duplexTimeoutsFence : Obligations.DuplexTimeoutsFence := fun _ hloop =>
  ⟨fun hsync hdue => State.next_loopDo hloop (Dev.syncTimeout_due hsync hdue),
    fun hsplit hdue hnone => State.next_loopDo hloop (Dev.splitTimeout_due hsplit hdue hnone),
    fun h => State.next_loopDo hloop (Dev.syncTimeout_other h), fun h => State.next_loopDo hloop (Dev.splitTimeout_other h)⟩

/-! ### Writes of DPX.CTRL (R355, R370) -/

/-- A word for DPX.CTRL on a duplex device goes to DPX: no bit of it waits for READY (R117). -/
theorem Dev.loopWrite_dpxCtrl {d : Dev} (hcfg : d.configured F.DPX_CTRL_HANDOVER.addr = true) (w : Nat) :
    d.loopWrite F.DPX_CTRL_HANDOVER.addr w = d.dpxBus w := by
  have hrow : (rowAt F.DPX_CTRL_HANDOVER.addr).isNone = false := by decide +kernel
  have hgo : d.goBlocked F.DPX_CTRL_HANDOVER.addr w = false := by
    have mask : goMask F.DPX_CTRL_HANDOVER.addr = 0 := rfl
    have ready : readyOf (regionOf F.DPX_CTRL_HANDOVER.addr) = some 14 := rfl
    simp [Dev.goBlocked, ready, mask]
  unfold Dev.loopWrite
  rw [hrow, hcfg, hgo]
  rfl

/-- A write of DPX.CTRL acts at once on the device on which it is made (log entry 30). -/
theorem State.regWrite_dpxCtrl {s : State} {w : Nat} (h : s.Reaches F.DPX_CTRL_HANDOVER.addr w) :
    s.regWrite .core F.DPX_CTRL_HANDOVER.addr w = s.did (fun d => d.dpxBus w) := by
  have hown : s.dev.ownWrite (wordAddr F.DPX_CTRL_HANDOVER.addr) = true := by
    have region : (regionOf (wordAddr F.DPX_CTRL_HANDOVER.addr) == 16) = true := rfl
    simp [Dev.ownWrite, region]
  obtain ⟨-, -, hcfg, -⟩ := id h
  rw [State.regWrite_loop s _ w (by decide) (by decide) (by decide) ⟨h, hown⟩]
  exact State.did_congr (Dev.loopWrite_dpxCtrl hcfg w)

/-- Settles O52: the three bits of DPX.CTRL are one register, whose write is DPX's, the level of REFEREE_ACT stands whether LOOP runs or
not, and every other command is an event of LOOP. -/
theorem duplexCommandsComplete : Obligations.DuplexCommandsComplete := by
  intro s
  have next (f : Dev → Dev) (hloop : s.dev.loopRuns = true) :
      (.next (s.loopDo f) : Host.Outcome State Fault Refusal) = .next (s.looped f) := State.next_loopDo hloop rfl
  exact ⟨fun e1 e2 late => next (·.peerSend e1 e2 late), fun frame => next (·.peerRx frame), next Dev.lateItem, next Dev.hbLost,
    next Dev.reqRelease,
    ⟨fun level => State.next_line_runs (line := (·.refLine level)) rfl _,
      fun level => State.next_line_stopped (line := (·.refLine level)) rfl _⟩,
    fun h => congrArg Host.Outcome.next (State.regWrite_dpxCtrl h), fun h => congrArg Host.Outcome.next (State.regWrite_dpxCtrl h),
    fun h => congrArg Host.Outcome.next (State.regWrite_dpxCtrl h), next Dev.syncTimeout, next Dev.resolveTimeout,
    next Dev.splitTimeout, next Dev.keeperRelease, fun ppm => next (·.clkSkew ppm), next Dev.hbToggle⟩

end Sys2Proof.Machine
end

section
/-! SUPPORT. What a Clamp that finds the set HELD leaves of the snapshot and its counter (R402, R405), writes of LNK's tunnel, what the
commands on Igkulink and time come to where they can act, and the step that runs a command. -/

namespace Sys2Proof.Machine

/-! ### The snapshot, its HELD and its MISSED under what a missed Clamp does (R405) -/

/-- Two devices agree in the snapshot that is latched, in whether it is held, and in the Clamps that it has missed. -/
def Dev.SnapKept (d e : Dev) : Prop :=
  e.snap = d.snap ∧ e.get F.SNP_STATUS_HELD = d.get F.SNP_STATUS_HELD ∧ e.get F.SNP_COUNTS_MISSED = d.get F.SNP_COUNTS_MISSED

theorem Dev.SnapKept.refl (d : Dev) : d.SnapKept d := ⟨rfl, rfl, rfl⟩

theorem Dev.SnapKept.trans {a b c : Dev} (h : a.SnapKept b) (g : b.SnapKept c) : a.SnapKept c := by
  obtain ⟨hsnap, hheld, hmissed⟩ := h
  obtain ⟨gsnap, gheld, gmissed⟩ := g
  exact ⟨gsnap.trans hsnap, gheld.trans hheld, gmissed.trans hmissed⟩

theorem Dev.SnapKept.ite {c : Prop} [Decidable c] {d a b : Dev} (h : d.SnapKept a) (g : d.SnapKept b) :
    d.SnapKept (if c then a else b) := by split <;> assumption

theorem Dev.SnapKept.each {α : Type} {f : α → Dev → Dev} (h : ∀ a d, Dev.SnapKept d (f a d)) (l : List α) (d : Dev) :
    d.SnapKept (Dev.each l f d) := Dev.each_keeps (P := d.SnapKept) (fun a e he => he.trans (h a e)) l d (.refl d)

section
variable (d : Dev)

/-- A field of another register. -/
theorem Dev.snapKept_set {f : Fld} (hheld : F.SNP_STATUS_HELD.key ≠ f.key) (hmissed : F.SNP_COUNTS_MISSED.key ≠ f.key) (v : Nat) :
    d.SnapKept (d.set f v) := ⟨rfl, d.get_set_other hheld v, d.get_set_other hmissed v⟩

theorem Dev.snapKept_record (typ flags tick : Nat) (p : List Nat) : d.SnapKept (d.record typ flags tick p) := by
  have staged (r : Evr) (v : Nat) : d.SnapKept (({ d with evr := r } : Dev).set F.EVR_NEXTSEQ_SEQ v) :=
    Dev.snapKept_set { d with evr := r } (by decide) (by decide) v
  have lost (r : Evr) : d.SnapKept (({ d with evr := r } : Dev).inc F.EVR_COUNTS_LOST) :=
    Dev.snapKept_set { d with evr := r } (by decide) (by decide) _
  unfold Dev.record
  exact .ite ((staged _ _).trans (Dev.snapKept_set _ (by decide) (by decide) _)) (lost _)

theorem Dev.snapKept_waveIf (wave : Bool) (r : Nat) : d.SnapKept (d.waveIf wave r) := by
  have early (v : Evr) : d.SnapKept (({ d with evr := v } : Dev).stick F.EVR_WCFG_EARLYMISS 1) :=
    Dev.snapKept_set { d with evr := v } (by decide) (by decide) _
  have trigger : d.SnapKept (d.waveTrigger r) := by
    unfold Dev.waveTrigger
    exact .ite (early _) ⟨rfl, rfl, rfl⟩
  exact .ite trigger (.refl d)

/-- A frame sent changes the link alone. -/
theorem Dev.snapKept_sendClamp (o t k s : Nat) : d.SnapKept (d.sendClamp o t k s) := by
  have queued (e : Dev) (h : Head) (l : List Nat) (g : Bool) (x : Out) (i : Option Nat) (p : Nat) : e.SnapKept (e.queueOn h l g x i p) := by
    unfold Dev.queueOn
    exact .ite ⟨rfl, rfl, rfl⟩ (.refl e)
  have numbered (e : Dev) (x : Out) : d.SnapKept { d.seqTake 1 with out := (d.seqTake 1).out ++ [x] } := ⟨rfl, rfl, rfl⟩
  exact (numbered d _).trans (.each (fun p e => queued e _ _ _ _ _ p) _ _)

/-- A missed Clamp, once it is counted, latches nothing. -/
theorem Dev.snapKept_clampMissed (cause c r origin : Nat) : (d.inc F.SNP_COUNTS_MISSED).SnapKept (d.clampMissed cause c r origin) :=
  ((Dev.snapKept_set _ (by decide) (by decide) _).trans (Dev.snapKept_waveIf _ _ _)).trans (Dev.snapKept_record ..)

end

section
variable {d : Dev}

theorem Dev.clampTake_held (hready : d.ready 17 = true) (hheld : d.on F.SNP_STATUS_HELD = true) {c origin otick : Nat}
    (hnew : d.clampMerges c origin otick = false) (cause r : Nat) : d.clampTake cause c r origin otick = d.clampMissed cause c r origin := by
  simp only [Dev.clampTake, hready, hheld, hnew, Bool.not_true, Bool.false_eq_true, if_false, if_true]

/-- A Clamp on the pin that finds the set HELD is missed, and may be sent on. -/
theorem Dev.snapKept_clampPin (hpin : d.on F.SNP_CTRL_PINEN = true) (hready : d.ready 17 = true)
    (hheld : d.on F.SNP_STATUS_HELD = true) (hnew : d.clampMerges d.tim d.node d.tim = false) :
    (d.inc F.SNP_COUNTS_MISSED).SnapKept d.clampPin := by
  simp only [Dev.clampPin, hpin, hready, Bool.and_self, if_true, Dev.clampTake_held hready hheld hnew]
  exact .ite ((d.snapKept_clampMissed ..).trans (Dev.snapKept_sendClamp ..)) (d.snapKept_clampMissed ..)

theorem Dev.sameRaised_clampPin (d : Dev) : d.SameRaised d.clampPin := by
  unfold Dev.clampPin
  exact .ite (.ite ((d.sameRaised_clampTake ..).trans (Dev.sameRaised_sendClamp ..)) (d.sameRaised_clampTake ..)) (.refl d)

end

/-- Settles O30: the device before SEQ and ENG take what they see is that of the pin's Clamp. -/
theorem heldSetIsNotLatchedAnew : Obligations.HeldSetIsNotLatchedAnew := by
  intro s hloop hpin hready hheld hnew
  obtain ⟨hsnap, hset, hmissed⟩ := Dev.snapKept_clampPin hpin hready hheld hnew
  obtain ⟨hraised, hcfg, -⟩ := s.dev.sameRaised_clampPin
  refine ⟨s.dev.clampPin, State.next_loopDo hloop rfl, hsnap, hraised, hcfg, ?_, hmissed.trans (s.dev.get_inc _)⟩
  have hkept : s.dev.clampPin.get F.SNP_STATUS_HELD = s.dev.get F.SNP_STATUS_HELD := hset.trans (s.dev.get_set_other (by decide) _)
  rw [Dev.on, hkept]
  exact hheld

/-! ### The register tunnel and the commands on Igkulink (R397) -/

/-- A word for TUN_CTRL that sets no GO before LNK is READY (R117) goes to the tunnel. -/
theorem Dev.loopWrite_tunCtrl {d : Dev} {w : Nat} (hgo : d.goBlocked F.LNK_TUN_CTRL_GO.addr w = false) :
    d.loopWrite F.LNK_TUN_CTRL_GO.addr w = d.tunnelGo w := by
  have hrow : (rowAt F.LNK_TUN_CTRL_GO.addr).isNone = false := by decide +kernel
  have hcfg : d.configured F.LNK_TUN_CTRL_GO.addr = true := rfl
  unfold Dev.loopWrite
  rw [hrow, hcfg, hgo]
  rfl

/-- A write of TUN_CTRL that lands, LNK's registers sitting in SYS (R25). -/
theorem State.regWrite_tunCtrl {s : State} {w : Nat} (h : s.Lands .core F.LNK_TUN_CTRL_GO.addr)
    (hgo : s.dev.goBlocked F.LNK_TUN_CTRL_GO.addr w = false) :
    s.regWrite .core F.LNK_TUN_CTRL_GO.addr w = s.did (fun d => d.tunnelGo w) := by
  have hbus : s.dev.busWrite s.otp .core F.LNK_TUN_CTRL_GO.addr w = (s.dev.loopWrite F.LNK_TUN_CTRL_GO.addr w, s.otp) := rfl
  exact State.regWrite_word rfl h (by rw [hbus, Dev.loopWrite_tunCtrl hgo])

/-- Settles O53: TUN_CTRL is written, a request of the tunnel goes its own way, and every other command is an event of LOOP. -/
theorem linkCommandsComplete : Obligations.LinkCommandsComplete := by
  intro s
  have next (f : Dev → Dev) (hloop : s.dev.loopRuns = true) :
      (.next (s.loopDo f) : Host.Outcome State Fault Refusal) = .next (s.looped f) := State.next_loopDo hloop rfl
  exact ⟨fun p => next (·.portClock p), fun p => next (·.portAligned p), fun p => next (·.acquireTimeout p),
    fun p => next (·.linkstatSend p), fun p stat => next (·.linkstatRx p stat), fun p => next (·.portFall p),
    fun p code crc => next (·.errWindow p code crc), fun p frame => next (·.frameRx p frame), next Dev.tsyncSend,
    fun stamps => next (·.tsyncRx stamps), next Dev.holdover, fun child => next (·.rootListen child), next Dev.arbSend,
    fun frame => next (·.arbRx frame), fun pos => next (·.arbTimeout pos), next Dev.faultsum, fun n => next (·.nodeLost n),
    next Dev.mgrLost, fun _ hlands hgo => congrArg Host.Outcome.next (State.regWrite_tunCtrl hlands hgo), fun _ _ _ => rfl,
    fun data => next (·.tunnelReply data), next Dev.tunnelNone⟩

/-! ### A step (log entry 1) -/

/-- Settles O1, by the queue's front. -/
theorem stepRunsFrontCommand : Obligations.StepRunsFrontCommand := fun _ _ => rfl

end Sys2Proof.Machine
end

section
/-! SUPPORT. What KILL_N raises (R337, R373), how sources of one home leave one another alone (R332), and what a write of PRO.k.ACK
marks, at once and at its use tick (R330, R359, R363). -/

namespace Sys2Proof.Machine

/-! ### KILL_N (R337, R373) -/

section
variable {d : Dev}

theorem Dev.killHeard_of_high (h : d.killLow = false) : d.killHeard = false := by
  simp only [Dev.killHeard, h, Bool.false_and]

/-- A high KILL_N raises nothing. -/
theorem Dev.killLine_high (d : Dev) : d.killLine false = { d with killLow := false } := by
  have silent : ({ d with killLow := false } : Dev).killHeard = false := Dev.killHeard_of_high rfl
  simp only [Dev.killLine, silent, Bool.and_false, Bool.false_eq_true, if_false]

/-- A low KILL_N is heard where the device does not itself sink the line, but not on a duplex device that hears no partner. -/
theorem Dev.killHeard_low (d : Dev) : ({ d with killLow := true } : Dev).killHeard
    = (!d.killSink && !(d.isDuplex && !d.on F.DPX_STATUS_HBIN)) := rfl

theorem Dev.killLine_heard (hready : d.ready 12 = true) (hsink : d.killSink = false)
    (hpartner : d.isDuplex = true → d.on F.DPX_STATUS_HBIN = true) : d.killLine true = ({ d with killLow := true } : Dev).raise 648 := by
  have heard : ({ d with killLow := true } : Dev).killHeard = true := by
    rw [Dev.killHeard_low, hsink]
    cases hduplex : d.isDuplex with
    | true => rw [hpartner hduplex]; rfl
    | false => rfl
  have ready : ({ d with killLow := true } : Dev).ready 12 = true := hready
  simp only [Dev.killLine, ready, heard, Bool.and_self, if_true]

theorem Dev.killLine_unheard
    (h : d.ready 12 = false ∨ d.killSink = true ∨ (d.isDuplex = true ∧ d.on F.DPX_STATUS_HBIN = false)) :
    d.killLine true = { d with killLow := true } := by
  have silent : (({ d with killLow := true } : Dev).ready 12 && ({ d with killLow := true } : Dev).killHeard) = false := by
    rw [Dev.killHeard_low]
    rcases h with hready | hsink | ⟨hduplex, hbin⟩
    · have : ({ d with killLow := true } : Dev).ready 12 = false := hready
      rw [this, Bool.false_and]
    · rw [hsink, Bool.not_true, Bool.false_and, Bool.and_false]
    · rw [hduplex, hbin, Bool.not_false, Bool.and_self, Bool.not_true, Bool.and_false, Bool.and_false]
  simp only [Dev.killLine, silent, Bool.false_eq_true, if_false]

end

/-- Settles O14, by the level and whether a low one is heard. -/
theorem killLineRaisesKillin : Obligations.KillLineRaisesKillin := fun _ hcold =>
  ⟨State.next_pdDo_congr hcold (Dev.killLine_high _),
    fun hready hsink hpartner => State.next_pdDo_congr hcold (Dev.killLine_heard hready hsink hpartner),
    fun h => State.next_pdDo_congr hcold (Dev.killLine_unheard h)⟩

/-! ### Sources of one home (R331 to R333) -/

/-- Only sources of another home escalate, so those of the same home may be left out. -/
theorem escalates_filter (c : Cls) (s : Nat) (l : List Raised) :
    escalates c s (l.filter (fun x => home x.src != home s)) = escalates c s l := by
  have same (x : Raised) : (home x.src != home s && (x.eff == c && !x.acked && home x.src != home s))
      = (x.eff == c && !x.acked && home x.src != home s) := by
    rw [Bool.and_comm, Bool.and_assoc, Bool.and_self]
  simp only [escalates, List.any_filter, same]

/-- Sources all of one home escalate none of that home. -/
theorem escalates_same_home {c : Cls} {s : Nat} {l : List Raised} (h : ∀ x ∈ l, home x.src = home s) : escalates c s l = false := by
  refine List.any_eq_false.2 fun x hx => ?_
  rw [h x hx, bne_self_eq_false, Bool.and_false]
  decide

theorem judge_filter (start batch : List Raised) (c : Cls) (s : Nat) : judge start batch c s
    = judge (start.filter (fun x => home x.src != home s)) (batch.filter (fun x => home x.src != home s)) c s := by
  have swap (p q : Raised → Bool) : (batch.filter q).filter p = (batch.filter p).filter q := by
    rw [List.filter_filter, List.filter_filter]
    exact congrArg (List.filter · batch) (funext fun _ => Bool.and_comm ..)
  rw [judge, judge, swap, escalates_filter, escalates_filter]

section
variable {d : Dev} {s : Nat} (hraised : ∀ x ∈ d.raised, home x.src = home s)
include hraised

/-- Where all sources share the home of `s`, it takes its base class. -/
theorem Dev.effNow_same_home (hstart : ∀ x ∈ d.proStart, home x.src = home s) (c : Cls) : d.effNow c s = c := by
  have hbatch : ∀ x ∈ d.batch.filter (fun x => x.base == c && decide (x.src < s)), home x.src = home s := fun x hx =>
    hraised x (List.mem_filter.1 (List.mem_filter.1 hx).1).1
  simp only [Dev.effNow, judge, escalates_same_home hstart, escalates_same_home hbatch, Bool.or_self, Bool.false_eq_true, if_false]

/-- And it lifts none of them. -/
theorem Dev.lifts_same_home {x : Raised} (hx : x ∈ d.raised) (c : Cls) : d.lifts c s x = false := by
  rw [Dev.lifts, hraised x hx, bne_self_eq_false, Bool.and_false]

end

/-- Settles O12, by what a judgement looks at and what a raise puts into the list. -/
theorem sameHomeDoesNotEscalate : Obligations.SameHomeDoesNotEscalate := by
  refine ⟨judge_filter, fun d s e hentry hready hnew hraised hstart => ?_⟩
  have kept : d.raised.map (fun x => if d.lifts e.cls s x then { x with eff := e.cls.up } else x) = d.raised := by
    refine (List.map_congr_left fun x hx => if_neg ?_).trans (List.map_id' _)
    rw [Dev.lifts_same_home hraised hx]
    decide
  rw [Dev.raiseOne_raised, hentry]
  simp only [hready, hnew, Bool.not_true, Bool.or_self, Bool.false_eq_true, if_false, Dev.raisedAfter,
    Dev.effNow_same_home hraised hstart, kept]

/-! ### The words of PRO (R329, R330) -/

/-- A power of two added where its bit is 0 sets that bit and no other. -/
theorem testBit_add_two_pow : ∀ {i a : Nat}, a.testBit i = false → ∀ j, (a + 2 ^ i).testBit j = (a.testBit j || decide (i = j))
  | 0, a, h, 0 => by
    rw [Nat.testBit_zero] at h ⊢
    have heven : a % 2 ≠ 1 := of_decide_eq_false h
    rw [Nat.testBit_zero, decide_eq_false heven, decide_eq_true rfl, decide_eq_true (show (a + 2 ^ 0) % 2 = 1 by omega)]
    rfl
  | 0, a, h, j + 1 => by
    rw [Nat.testBit_zero] at h
    have heven : a % 2 ≠ 1 := of_decide_eq_false h
    rw [Nat.testBit_succ, Nat.testBit_succ, show (a + 2 ^ 0) / 2 = a / 2 by omega, decide_eq_false (Nat.succ_ne_zero j).symm,
      Bool.or_false]
  | i + 1, a, _, 0 => by
    have hparity : (a + 2 ^ (i + 1)) % 2 = a % 2 := by rw [Nat.pow_succ]; omega
    rw [Nat.testBit_zero, Nat.testBit_zero, hparity, decide_eq_false (Nat.succ_ne_zero i), Bool.or_false]
  | i + 1, a, h, j + 1 => by
    have hhalf : (a + 2 ^ (i + 1)) / 2 = a / 2 + 2 ^ i := by rw [Nat.pow_succ]; omega
    rw [Nat.testBit_succ] at h
    rw [Nat.testBit_succ, Nat.testBit_succ, hhalf, testBit_add_two_pow h j, decide_eq_decide.2 (Nat.succ_inj).symm]

/-- What one set source adds to word `k`. -/
def proAdd (k : Nat) (p : Raised → Bool) (a : Nat) (x : Raised) : Nat := if x.src / 32 = k ∧ p x then a + 2 ^ (x.src % 32) else a

/-- Where the word has no bit of a source yet, adding it sets its bit if it is picked. -/
theorem testBit_proAdd {k : Nat} {p : Raised → Bool} {a : Nat} {x : Raised} (h : x.src / 32 = k → a.testBit (x.src % 32) = false) (j : Nat) :
    (proAdd k p a x).testBit j = true ↔ a.testBit j = true ∨ x.src / 32 = k ∧ p x = true ∧ x.src % 32 = j := by
  unfold proAdd
  split
  case isTrue hpick =>
    rw [testBit_add_two_pow (h hpick.1), Bool.or_eq_true, decide_eq_true_eq]
    exact or_congr_right ⟨fun hj => ⟨hpick.1, hpick.2, hj⟩, fun hj => hj.2.2⟩
  case isFalse hskip => exact ⟨.inl, fun hj => hj.resolve_right fun hpick => hskip ⟨hpick.1, hpick.2.1⟩⟩

/-- Distinct sources added one after another set the bits of those picked. -/
theorem testBit_foldl_proAdd (k : Nat) (p : Raised → Bool) (j : Nat) : ∀ (l : List Raised) (a : Nat), (l.map (·.src)).Nodup →
    (∀ x ∈ l, x.src / 32 = k → a.testBit (x.src % 32) = false) →
    ((l.foldl (proAdd k p) a).testBit j = true ↔ a.testBit j = true ∨ ∃ x ∈ l, x.src / 32 = k ∧ p x = true ∧ x.src % 32 = j)
  | [], a, _, _ => by simp only [List.foldl_nil, List.not_mem_nil, false_and, exists_false, or_false]
  | x :: t, a, hd, hfree => by
    rw [List.map_cons, List.nodup_cons] at hd
    obtain ⟨hnew, hd⟩ := hd
    have hx := hfree x List.mem_cons_self
    have hrest : ∀ y ∈ t, y.src / 32 = k → (proAdd k p a x).testBit (y.src % 32) = false := fun y hy hyk => by
      refine Bool.eq_false_iff.2 fun hset => ?_
      rcases (testBit_proAdd hx _).1 hset with ha | ⟨hxk, -, hbit⟩
      · rw [hfree y (List.mem_cons_of_mem x hy) hyk] at ha
        cases ha
      · exact hnew (List.mem_map.2 ⟨y, hy, by omega⟩)
    rw [List.foldl_cons, testBit_foldl_proAdd k p j t _ hd hrest, testBit_proAdd hx, or_assoc]
    simp only [List.mem_cons, or_and_right, exists_or, exists_eq_left]

/-- A bit of a word of PRO tells of a set source, no source being set twice. -/
theorem Dev.testBit_proWord {d : Dev} (hd : (d.raised.map (·.src)).Nodup) (k : Nat) (p : Raised → Bool) (j : Nat) :
    (d.proWord k p).testBit j = true ↔ ∃ x ∈ d.raised, x.src / 32 = k ∧ p x = true ∧ x.src % 32 = j := by
  have empty (i : Nat) : (0 : Nat).testBit i = false := Nat.zero_testBit i
  refine (testBit_foldl_proAdd k p j d.raised 0 hd fun x _ _ => empty _).trans ?_
  rw [empty, Bool.false_eq_true, false_or]

/-- A source that shows in PRO.k.ACK shows in PRO.k.STICKY. -/
theorem Dev.sticky_of_ack {d : Dev} (hd : (d.raised.map (·.src)).Nodup) {k j : Nat} (h : (d.wAck k).testBit j = true) :
    (d.wSticky k).testBit j = true := by
  obtain ⟨x, hx, hk, -, hj⟩ := (Dev.testBit_proWord hd k _ j).1 h
  exact (Dev.testBit_proWord hd k _ j).2 ⟨x, hx, hk, rfl, hj⟩

/-! ### Acknowledging (R330, R359, R363) -/

/-- An acknowledgment marks the named sources, and may let the target assert its alert anew. -/
theorem Dev.ackWrite_marks (d : Dev) (k w : Nat) : ∃ x, d.ackWrite k w = { d with
    raised := d.raised.map (fun r => if r.src / 32 = k ∧ w.testBit (r.src % 32) then { r with acked := true } else r)
    target := x } := by
  unfold Dev.ackWrite Dev.alertFell
  split
  · exact ⟨d.target, rfl⟩
  · exact ⟨_, rfl⟩

/-- What a driving device of a pair puts off for its use tick leaves the sources as they are. -/
theorem Dev.raised_pairPut (d : Dev) (i : PeerItem) : (d.pairPut i).raised = d.raised := by
  unfold Dev.pairPut Dev.tellAt
  split
  · split <;> rfl
  · rfl

theorem Dev.raised_sysLoopWrite_delayed {d : Dev} {a : Nat} (w : Nat) (hown : d.ownWrite a = false) :
    (d.sysLoopWrite a w).raised = d.raised := by
  rw [Dev.sysLoopWrite, if_neg (by rw [hown]; decide)]
  split
  · exact (Dev.sameRaised_admit ..).1
  · exact d.raised_pairPut _

section
variable (k : Fin 24)

theorem regionOf_ack : regionOf (F.PRO_ACK_ACK k).addr = 14 := by simp only [F.PRO_ACK_ACK, regionOf]; omega

theorem loopRegion_ack : loopRegion (regionOf (F.PRO_ACK_ACK k).addr) = true := by
  rw [regionOf_ack]
  rfl

theorem wordAddr_ack : wordAddr (F.PRO_ACK_ACK k).addr = (F.PRO_ACK_ACK k).addr := by simp only [F.PRO_ACK_ACK, wordAddr]; omega

/-- PRO.k.ACK belongs to no instance that the bitstream may leave out (R504), and holds no enable that would wait for READY (R117). -/
theorem State.takes_ack {s : State} (mask : Nat) (hruns : s.dev.masterRuns .core = true) (hclk : s.dev.loopClk = true)
    (hown : s.dev.ownWrite (F.PRO_ACK_ACK k).addr = true) : s.Takes (F.PRO_ACK_ACK k).addr mask := by
  have hcfg : s.dev.configured (F.PRO_ACK_ACK k).addr = true := by simp [Dev.configured, regionOf_ack]
  have hgo : s.dev.goBlocked (F.PRO_ACK_ACK k).addr mask = false := by simp [Dev.goBlocked, regionOf_ack, readyOf, goMask]
  rw [← wordAddr_ack k] at hcfg hgo hown
  exact ⟨⟨hruns, hclk, hcfg, hgo⟩, hown⟩

/-- The core may write it: its address lies in the register space. -/
theorem Dev.mayWrite_ack (d : Dev) : d.mayWrite .core (wordAddr (F.PRO_ACK_ACK k).addr) = true := by
  have hspace : wordAddr (F.PRO_ACK_ACK k).addr < 0x400000 := by rw [wordAddr_ack]; simp only [F.PRO_ACK_ACK]; omega
  simp [Dev.mayWrite, hspace]

end

/-- Settles O11: the write's way, at once, through the pair's frames, and at its use tick; and the two words as sets of sources. -/
theorem ackMarksOnlySetSources : Obligations.AckMarksOnlySetSources := by
  refine ⟨fun s k mask hruns hclk hown => ?_, fun s k mask hruns hclk hown => ?_, fun d k mask => ?_,
    fun d k j hd => Dev.sticky_of_ack hd⟩
  · obtain ⟨x, hx⟩ := s.dev.ackWrite_marks k mask
    refine ⟨x, (exec_ackWrite (State.takes_ack k mask hruns hclk hown)).trans (congrArg Host.Outcome.next ?_)⟩
    rw [State.did, hx]
  · have hword := wordAddr_ack k
    have written := State.regWrite_sysLoop mask hruns hclk (s.dev.mayWrite_ack k) (by rw [hword]; exact loopRegion_ack k)
    refine ⟨_, congrArg Host.Outcome.next written, ?_⟩
    rw [hword]
    exact Dev.raised_sysLoopWrite_delayed mask hown
  · rw [d.peerItem_write (loopRegion_ack k), d.loopWrite_pro mask (regionOf_ack k) (rowAt_ack k), d.proBus_ack k mask]
    exact d.ackWrite_marks k mask

end Sys2Proof.Machine
end
